-- ==== Sys2Proof/Machine/Bits.lean ====
section
/-! DEFINITION. Bit fields, two's complement, rounding and saturation over Nat and Int, as the spec uses them everywhere (R1, R7). -/

namespace Sys2Proof.Machine

/-- Bits [lo + w − 1 : lo] of `v`. -/
def bits (v lo w : Nat) : Nat := v / 2 ^ lo % 2 ^ w

/-- Bit `i` of `v`. -/
def bit (v i : Nat) : Bool := v / 2 ^ i % 2 == 1

/-- 1 for true, 0 for false. -/
def b2n (b : Bool) : Nat := if b then 1 else 0

/-- `v` with bits [lo + w − 1 : lo] replaced by `x`. -/
def setBits (v lo w x : Nat) : Nat :=
  v - bits v lo w * 2 ^ lo + (x % 2 ^ w) * 2 ^ lo

/-- `v` with bit `i` set to `b`. -/
def setBit (v i : Nat) (b : Bool) : Nat := setBits v i 1 (b2n b)

/-- The signed reading of the low `w` bits of `v` (two's complement, R7). -/
def sgn (w v : Nat) : Int :=
  let u := v % 2 ^ w
  if u < 2 ^ (w - 1) then (u : Int) else (u : Int) - (2 ^ w : Nat)

/-- The two's-complement code of `i` in `w` bits, wrapping. -/
def uns (w : Nat) (i : Int) : Nat := (i % ((2 ^ w : Nat) : Int)).toNat

/-- `i` limited to the range of a signed `w`-bit code. -/
def sat (w : Nat) (i : Int) : Int :=
  max (-((2 ^ (w - 1) : Nat) : Int)) (min (((2 ^ (w - 1) : Nat) : Int) - 1) i)

/-- `i` limited to 0 … 2^w − 1. -/
def usat (w : Nat) (i : Int) : Nat := (max 0 (min i (((2 ^ w : Nat) : Int) - 1))).toNat

/-- A counter of `w` bits that stops at its maximum. -/
def satInc (w v n : Nat) : Nat := min (v + n) (2 ^ w - 1)

/-- Quotient to the nearest integer, ties away from zero; the divisor is not 0. -/
def roundDiv (a b : Int) : Int :=
  let q := (2 * a.natAbs + b.natAbs) / (2 * b.natAbs)
  if (a < 0) != (b < 0) then -(q : Int) else (q : Int)

/-- Quotient truncated toward zero; 0 for a divisor of 0. -/
def truncDiv (a b : Int) : Int := Int.tdiv a b

/-- Arithmetic shift right by `n`: the quotient by 2^n toward minus infinity. -/
def asr (a : Int) (n : Nat) : Int := a / ((2 ^ n : Nat) : Int)

/-- The smallest multiple of `m` that is at least `v`. -/
def alignUp (v m : Nat) : Nat := (v + m - 1) / m * m

/-- Is bit `i` of mask `v` set, for every element of a list of indices that is kept. -/
def maskList (v n : Nat) : List Nat := (List.range n).filter fun i => bit v i

/-- The mask of the indices for which `p` holds. -/
def maskOf (n : Nat) (p : Nat → Bool) : Nat :=
  (List.range n).foldl (fun a i => if p i then a + 2 ^ i else a) 0

/-- The little-endian bytes of `v` (R1). -/
def toBytes : Nat → Nat → List Nat
  | 0, _ => []
  | n + 1, v => v % 256 :: toBytes n (v / 256)

/-- The value of a little-endian byte list (R1). -/
def ofBytes : List Nat → Nat
  | [] => 0
  | b :: t => b % 256 + 256 * ofBytes t

/-- Bitwise AND, OR and NOT over `w` bits. -/
def band (a b : Nat) : Nat := Nat.land a b
def bor (a b : Nat) : Nat := Nat.lor a b
def bxor (a b : Nat) : Nat := Nat.xor a b
def bclear (a b : Nat) : Nat := Nat.land a b |> (a - ·)

/-- Integer square root to the nearest below, by bits of the answer. -/
def isqrtAux (n : Nat) : Nat → Nat → Nat
  | 0, r => r
  | k + 1, r => let t := r + 2 ^ k; if t * t ≤ n then isqrtAux n k t else isqrtAux n k r
def isqrt (n : Nat) : Nat := isqrtAux n 64 0

end Sys2Proof.Machine
end

