-- ==== Sys2Proof/Word.lean ====
section
/-! DEFINITION. The word types of the LQV-1024 and their plainest arithmetic: a register value is a Nat below 2 to its width, a general register of a thread is 64 bits wide (R182), a signed code is an Int. -/

namespace Sys2Proof

/-- A general register of a channel program (R182). -/
abbrev Word := BitVec 64

/-- An instruction word of a channel program (R183). -/
abbrev IWord := BitVec 64

/-- Operand B of the Register format (R187): general register, or IMM32 sign-extended. -/
inductive Opnd where
  | reg (n : Nat)
  | imm (v : Int)
deriving DecidableEq, Repr

/-- Operands of STEP (R217). `trig` is 0 IMMEDIATE, 1 EDGE, 2 AT_END. -/
structure StepArgs where
  mode : Nat
  fmt : Nat
  lset : Nat
  xset : Nat
  eset : Nat
  trig : Nat
  keepsp : Bool
  keepfmt : Bool
  s : Nat
deriving DecidableEq, Repr

/-- A host request (R392): READ, WRITE, BULK read, one chunk of a BULK write, STREAM; `bad` is a malformed one (R394). -/
inductive LReq where
  | read (addr count : Nat)
  | write (addr : Nat) (data : List Nat)
  | bulkRead (addr len : Nat)
  | bulkWrite (addr len : Nat) (data : List Nat)
  | stream (lcn first : Nat) (entries : List Nat)
  | bad
deriving DecidableEq, Repr

/-- A request of one arrival slot at a bank (R348): master, kind (0 read, 1 write, 2 atomic add, 3 fetch, 4 burst read, 5 burst write, 6 atomic swap), address, bytes, value, urgent display fetch, and the ECC state the access finds in its word: 0 as it was, 1 a single-bit error, 2 an uncorrectable one. -/
structure BankReq where
  master : Nat
  kind : Nat
  addr : Nat
  size : Nat
  value : Nat
  urgent : Bool
  ecc : Nat
deriving DecidableEq, Repr

end Sys2Proof
end

