-- ==== Sys2Proof/Syntax.lean ====
section
/-! DEFINITION. The commands of the LQV-1024: one constructor per row of spec/opcode_table.json. A row that an event, a pin or another unit starts carries what arrives with it as operands; a row that is a register write or read carries the master `m`; a channel instruction carries its cluster `k`, its thread `c` and the operands of its encoding (R186 to R189). The channel instructions stand first, each part in the table's order. -/

namespace Sys2Proof

/-- A command (spec/opcode_table.json). -/
inductive Instr where
  /-- NOP (R193): No operation. -/
  | nop (k : Nat) (c : Nat)
  /-- HALT (R193): The thread halts with a user code, ending the active step with ABORT when A = 1. -/
  | halt (k : Nat) (c : Nat) (a : Bool) (ucode : Nat)
  /-- JMP (R193): Unconditional jump. -/
  | jmp (k : Nat) (c : Nat) (target : Nat)
  /-- JCC (R193): Conditional jump on COND. -/
  | jcc (k : Nat) (c : Nat) (cond : Nat) (target : Nat)
  /-- CALL (R193): Conditional call pushing the return index, halting with STACK at depth 16. -/
  | call (k : Nat) (c : Nat) (cond : Nat) (target : Nat)
  /-- RET (R193): Conditional return, halting with STACK at depth 0. -/
  | ret (k : Nat) (c : Nat) (cond : Nat)
  /-- LOOP (R193): Decrements a loop counter and branches while it is above 1. -/
  | loop (k : Nat) (c : Nat) (x : Nat) (target : Nat)
  /-- WAITC (R195): The thread waits on a condition class with an optional timeout. -/
  | waitc (k : Nat) (c : Nat) (cls : Nat) (reg : Nat) (timeout : Nat)
  /-- WAITT (R198): The thread waits until a computed deadline DT. -/
  | waitt (k : Nat) (c : Nat) (base : Nat) (reg : Nat) (timeout : Nat)
  /-- SYNC (R200): The thread enters a barrier among threads of its cluster. -/
  | sync (k : Nat) (c : Nat) (b : Nat) (reg : Nat) (timeout : Nat)
  /-- YIELD (R193): The thread gives up its turn. -/
  | yield (k : Nat) (c : Nat)
  /-- SIGNAL (R193): Fences, then raises doorbell 480 + B with a data word. -/
  | signal (k : Nat) (c : Nat) (a : Nat) (b : Opnd)
  /-- FENCE (R193): Waits until every earlier access of the thread is acknowledged. -/
  | fence (k : Nat) (c : Nat)
  /-- MOVI (R201): Moves an immediate into a general register or loop counter. -/
  | movi (k : Nat) (c : Nat) (dst : Nat) (cls : Nat) (hi : Bool) (imm : Int)
  /-- MOV (R201): Moves between general registers, loop counters and flags. -/
  | mov (k : Nat) (c : Nat) (dst : Nat) (src : Nat) (dcls : Nat) (scls : Nat)
  /-- LD (R203): Loads from a device address with checks for access, alignment and ECC. -/
  | ld (k : Nat) (c : Nat) (dst : Nat) (a : Nat) (ofs : Int) (sg : Bool) (sz : Nat)
  /-- ST (R203): Stores to a device address. -/
  | st (k : Nat) (c : Nat) (a : Nat) (b : Nat) (ofs : Int) (sz : Nat)
  /-- ADD (R201): 64-bit add with flags. -/
  | add (k : Nat) (c : Nat) (dst : Nat) (a : Nat) (b : Opnd)
  /-- SUB (R201): 64-bit subtract with flags. -/
  | sub (k : Nat) (c : Nat) (dst : Nat) (a : Nat) (b : Opnd)
  /-- MUL (R201): Multiply giving the low or high 64 bits. -/
  | mul (k : Nat) (c : Nat) (dst : Nat) (a : Nat) (b : Opnd) (sg : Bool) (hi : Bool)
  /-- DIVQ (R202): Long divide giving the quotient or remainder, with defined divide-by-zero results. -/
  | divq (k : Nat) (c : Nat) (dst : Nat) (a : Nat) (b : Opnd) (sg : Bool) (rem : Bool)
  /-- AND (R201): Bitwise AND. -/
  | and (k : Nat) (c : Nat) (dst : Nat) (a : Nat) (b : Opnd)
  /-- OR (R201): Bitwise OR. -/
  | or (k : Nat) (c : Nat) (dst : Nat) (a : Nat) (b : Opnd)
  /-- XOR (R201): Bitwise XOR. -/
  | xor (k : Nat) (c : Nat) (dst : Nat) (a : Nat) (b : Opnd)
  /-- SHL (R201): Shift left. -/
  | shl (k : Nat) (c : Nat) (dst : Nat) (a : Nat) (b : Opnd)
  /-- SHR (R201): Logical or arithmetic shift right. -/
  | shr (k : Nat) (c : Nat) (dst : Nat) (a : Nat) (b : Opnd) (sg : Bool)
  /-- CMP (R201): Compare, setting flags without a result. -/
  | cmp (k : Nat) (c : Nat) (a : Nat) (b : Opnd)
  /-- MIN (R201): Minimum of two operands. -/
  | min (k : Nat) (c : Nat) (dst : Nat) (a : Nat) (b : Opnd) (sg : Bool)
  /-- MAX (R201): Maximum of two operands. -/
  | max (k : Nat) (c : Nat) (dst : Nat) (a : Nat) (b : Opnd) (sg : Bool)
  /-- SEL (R201): Selects an operand by condition. -/
  | sel (k : Nat) (c : Nat) (dst : Nat) (a : Nat) (b : Opnd) (cond : Nat)
  /-- RDS (R206): Reads an item of the thread's own channel, possibly popping the window FIFO. -/
  | rds (k : Nat) (c : Nat) (dst : Nat) (item : Nat)
  /-- TLU (R207): Piecewise-linear table look-up. -/
  | tlu (k : Nat) (c : Nat) (dst : Nat) (a : Nat) (b : Opnd)
  /-- ATADD (R204): Atomic add or swap at a bank. -/
  | atadd (k : Nat) (c : Nat) (dst : Nat) (a : Nat) (b : Opnd) (sg : Bool) (swp : Bool) (sz : Nat)
  /-- STEP (R217): Reads the tables and writes the shadow set, setting PEND with a commit trigger. -/
  | step (k : Nat) (c : Nat) (a : StepArgs)
  /-- SETP (R218): Writes one shadow setpoint word. -/
  | setp (k : Nat) (c : Nat) (w : Nat) (b : Opnd)
  /-- LIMIT (R220): Writes one field of the shadow limit set. -/
  | limit (k : Nat) (c : Nat) (comp : Nat) (ctl : Bool) (b : Opnd)
  /-- EXPECT (R221): Writes one word of a shadow expectation entry. -/
  | expect (k : Nat) (c : Nat) (e : Nat) (w : Nat) (b : Opnd)
  /-- EXPECT_CHECK (R222): Reads CH_XSTAT.FAILED and sets P. -/
  | expectCheck (k : Nat) (c : Nat) (dst : Nat)
  /-- ENDC (R224): Writes the control word or VALUE of a shadow end entry. -/
  | endc (k : Nat) (c : Nat) (e : Nat) (val : Bool) (b : Opnd)
  /-- IRANGE (R225): Stages the I-range in the shadow set. -/
  | irange (k : Nat) (c : Nat) (r : Nat)
  /-- PSRANGE (R226): Requests a power-stage range change, optionally waiting for its outcome. -/
  | psrange (k : Nat) (c : Nat) (r : Nat) (w : Bool)
  /-- SOFT (R226): Writes CH_PSCTL.SOFT. -/
  | soft (k : Nat) (c : Nat) (b : Opnd)
  /-- SNUFF (R227): Snuffs the thread's channel with cause PROG. -/
  | snuff (k : Nat) (c : Nat)
  /-- ENABLE (R227): Requests a re-arm of the channel and sets P to its outcome. -/
  | enable (k : Nat) (c : Nat)
  /-- LDTAB (R228): Long copy of a table into the cluster bank, with recorded progress. -/
  | ldtab (k : Nat) (c : Nat) (dst : Nat) (a : Nat) (b : Nat) (part : Nat)
  /-- FMT (R218): Writes one word of the shadow format record. -/
  | fmt (k : Nat) (c : Nat) (w : Nat) (b : Opnd)
  /-- FMT_LOAD (R218): Copies a format slot into the shadow format record. -/
  | fmtLoad (k : Nat) (c : Nat) (f : Nat)
  /-- MEAS (R229): Averages N conversions and waits for the result. -/
  | meas (k : Nat) (c : Nat) (dst : Nat) (isI : Bool) (align : Bool) (b : Opnd)
  /-- MEAS_ASYNC (R229): Starts an average and continues at once. -/
  | measAsync (k : Nat) (c : Nat) (isI : Bool) (align : Bool) (b : Opnd)
  /-- MEAS_COLLECT (R229): Waits for the input's outstanding average and writes its result. -/
  | measCollect (k : Nat) (c : Nat) (dst : Nat) (isI : Bool)
  /-- ACC_RC (R231): Reads the totals and subtracts them atomically. -/
  | accRc (k : Nat) (c : Nat) (dst : Nat)
  /-- ACC_CLR (R231): Clears the totals and their fractions. -/
  | accClr (k : Nat) (c : Nat)
  /-- ARM (R232): Arms the channel's capture with a descriptor and returns an error code. -/
  | arm (k : Nat) (c : Nat) (dst : Nat) (b : Opnd)
  /-- ARM_DIS (R232): Disarms the channel's capture. -/
  | armDis (k : Nat) (c : Nat) (dst : Nat)
  /-- TRIG_EDGE (R233): Arms an edge slot with an action and a DT. -/
  | trigEdge (k : Nat) (c : Nat) (j : Nat) (act : Nat) (a : Nat) (b : Opnd)
  /-- TRIG_CAPTURE (R233): Offers a program trigger to the channel's capture. -/
  | trigCapture (k : Nat) (c : Nat)
  /-- TRIG_BEACON (R233): Requests a Beacon trigger or sync-start, as BCN_SEND does. -/
  | trigBeacon (k : Nat) (c : Nat) (sync : Bool) (b : Opnd)
  /-- MARK (R234): Inserts a marker into the channel's captures. -/
  | mark (k : Nat) (c : Nat) (b : Opnd)
  /-- MARK_STEP (R234): Sets CH_STEPIDX. -/
  | markStep (k : Nat) (c : Nat) (b : Opnd)
  /-- RECORD (R235): Copies data into the cluster record queue, or drops it when the queue is full. -/
  | record (k : Nat) (c : Nat) (typ : Nat) (a : Nat) (b : Opnd)
  /-- IMPED (R236): Starts an impedance measurement, optionally waiting for it. -/
  | imped (k : Nat) (c : Nat) (w : Bool) (b : Opnd)
  /-- STAMP_ARM (R237): Arms an interval unit. -/
  | stampArm (k : Nat) (c : Nat) (u : Nat)
  /-- STAMP_DIS (R237): Disarms an interval unit. -/
  | stampDis (k : Nat) (c : Nat) (u : Nat)
  /-- STAMP_RD (R237): Reads an interval unit's result and status. -/
  | stampRd (k : Nat) (c : Nat) (dst : Nat) (u : Nat)
  /-- STAMP_CFG (R237): Disarms and configures an interval unit. -/
  | stampCfg (k : Nat) (c : Nat) (u : Nat) (a : Nat) (b : Opnd)
  /-- STRM_CFG (R306): Loads the stream configuration from a descriptor. -/
  | strmCfg (k : Nat) (c : Nat) (dst : Nat) (a : Nat)
  /-- STRM_RESET (R306): Discards the unplayed entries. -/
  | strmReset (k : Nat) (c : Nat)
  /-- STRM_GO (R306): Ends a WSRC = 0 wait. -/
  | strmGo (k : Nat) (c : Nat)
  /-- STRM_STAT (R306): Reads the stream status and the queued entries. -/
  | strmStat (k : Nat) (c : Nat) (dst : Nat)
  /-- STRM_SLIP (R306): Reads the slip and skip counts. -/
  | strmSlip (k : Nat) (c : Nat) (dst : Nat)
  /-- SEG (R307): Appends a segment header. -/
  | seg (k : Nat) (c : Nat) (a : Nat)
  /-- SEG_COPY (R307): Appends a header and copies samples as a long routine. -/
  | segCopy (k : Nat) (c : Nat) (dst : Nat) (a : Nat) (b : Opnd)
  /-- SJMP (R308): Latches a stream jump. -/
  | sjmp (k : Nat) (c : Nat) (passEnd : Bool) (b : Opnd)
  /-- MWIN (R333): Schedules a contact window with its WOPEN, WCLOSE and GUARD entries. -/
  | mwin (k : Nat) (c : Nat) (dst : Nat) (a : Nat) (b : Opnd) (slot : Nat) (act : Nat) (guard : Bool) (cp : Nat)
  /-- MSORT (R334): Grades a cell, writes its record and arms or disarms its gate. -/
  | msort (k : Nat) (c : Nat) (dst : Nat) (a : Nat)
  /-- CTLOOK (R335): Copies a cell record by cell ID. -/
  | ctlook (k : Nat) (c : Nat) (dst : Nat) (a : Nat) (b : Opnd)
  /-- CTLOOK_CAR (R335): Copies a cell record by carrier, through the carrier map. -/
  | ctlookCar (k : Nat) (c : Nat) (dst : Nat) (a : Nat) (b : Opnd)
  /-- CTUPD_UPDATE (R336): Updates the masked words of a record. -/
  | ctupdUpdate (k : Nat) (c : Nat) (dst : Nat) (a : Nat) (b : Opnd)
  /-- CTUPD_INSERT (R336): Inserts a record. -/
  | ctupdInsert (k : Nat) (c : Nat) (dst : Nat) (a : Nat) (b : Opnd)
  /-- CTUPD_UPSERT (R336): Inserts or updates a record. -/
  | ctupdUpsert (k : Nat) (c : Nat) (dst : Nat) (a : Nat) (b : Opnd)
  /-- CTUPD_RETIRE (R336): Retires a record. -/
  | ctupdRetire (k : Nat) (c : Nat) (dst : Nat) (a : Nat) (b : Opnd)
  /-- CTSEAL (R337): Drains the pending leaves and closes the open batch. -/
  | ctseal (k : Nat) (c : Nat) (dst : Nat)
  /-- REG_WRITE (R4): A master writes a register field that has no row of its own, with the effect its access code gives (RW, W1C, W1S, RWL). -/
  | regWrite (m : Nat) (addr : Nat) (v : Nat)
  /-- REG_PAIR_LOW_READ (R2): A master reads the low word of a 64-bit register pair, and the controller captures the high word for that master. -/
  | regPairLowRead (m : Nat) (addr : Nat)
  /-- REG_PAIR_LOW_WRITE (R2): A master writes the low word of an RW pair, and the value is held for that master. -/
  | regPairLowWrite (m : Nat) (addr : Nat) (v : Nat)
  /-- REG_PAIR_HIGH_WRITE (R2): A master writes the high word of an RW pair; both words take effect together, or only the high word changes if no low word is held. -/
  | regPairHighWrite (m : Nat) (addr : Nat) (v : Nat)
  /-- REG_RC_READ (R4): A read of an RC field returns its value and returns the field to its reset value. -/
  | regRcRead (m : Nat) (addr : Nat)
  /-- LOCK_SET (R5): A write of 1 to DEV_CTL.LOCK freezes every RWL field until power-on or RESET_N. -/
  | lockSet (m : Nat)
  /-- POWER_ON (R43): VMAIN crosses power-good with RESET_N high; the regulators start and boot begins. -/
  | powerOn (fell : Bool)
  /-- RESET_N (R432): RESET_N is held low for at least 1 µs; the device resets, keeping the Pilot domain and DT, and boot restarts. -/
  | resetN (inRange : Bool)
  /-- POWER_FAIL (R44): VMAIN stays below power-fail or above overvoltage for 2 µs; the power-fail sequence starts and snuffs every channel. -/
  | powerFail (high : Bool)
  /-- POWERFAIL_LANES_OFF (R44): 2 µs after power-fail detection, every drive lane enters OFF and ILK_SAFEOFF turns non-conducting. -/
  | powerfailLanesOff
  /-- POWER_ON_AFTER_OVERVOLTAGE (R473): After an overvoltage shutdown, VMAIN has stayed within limits for 100 ms, and power-on follows. -/
  | powerOnAfterOvervoltage
  /-- SUPPLY_MEASURE (R46): Every 1 ms, the controller updates DEV_SUPPLY. -/
  | supplyMeasure (vmain : Nat) (vpilot : Nat)
  /-- JUNCTION_SAMPLE (R48): Every 1 µs, the monitors sample every junction; a sample at or above 115 °C snuffs with OVERTEMP. -/
  | junctionSample (temps : List Int)
  /-- CM_RANGE (R39): An input pin lies outside ±12.5 V for 1 µs; the channel is snuffed with CM_RANGE and its conversions are marked CM. -/
  | cmRange (n : Nat) (isI : Bool)
  /-- BOOT_READY (R402): Boot reaches READY; event 320 is raised and PILOT_LOST is cleared. -/
  | bootReady (idBad : Bool) (calBad : Bool) (bad : List Nat)
  /-- REF_LOSS (R52): The selected reference has had no valid edge for 2 µs; the timebase enters holdover without a phase step. -/
  | refLoss
  /-- REF_QUALIFY (R51): A reference completes qualification and the timebase begins pull-in by steering. -/
  | refQualify (src : Nat) (f100 : Bool) (ofs : Int) (amp : Int)
  /-- TB_LOCK (R54): The timebase first locks; DT starts counting if it was not already, and TB_HOLDUNC is set to 0. -/
  | tbLock
  /-- TB_FREERUN (R52): No reference has qualified within 2 s of boot; the timebase runs free and FREERUN is set. -/
  | tbFreerun
  /-- TB_DTSET (R56): A write to the high word of TB_DTSET loads DT at the next tick if the device is idle and is not a member, and is rejected otherwise. -/
  | tbDtset (m : Nat) (v : Nat)
  /-- ISLAND_UNLOCK (R58): A timing island loses lock; event 229 is raised and its outputs stop, with CLOCK snuffs for islands 1 to 9. -/
  | islandUnlock (i : Nat)
  /-- ISLAND_RELOCK (R58): A timing island relocks and the CLOCK level cause ends. -/
  | islandRelock (i : Nat)
  /-- PACE_WINDOW (R26): A 1 ms pace window ends; RATE and FLOOR update, and PACE_LOW is raised if RATE is below LIM. -/
  | paceWindow (k : Nat)
  /-- ROLE_DECIDE (R60): At boot step 5, the device fixes DEV_POS.ROLE from ROLE_REQ, the Beacon clock and the BCN_OUT termination. -/
  | roleDecide (clk : Bool) (term : Bool)
  /-- ROLE_REQ_WRITE (R60): The host writes BCN_CTL.ROLE_REQ; the value is to be saved to flash for the next boot. -/
  | roleReqWrite (m : Nat) (v : Nat)
  /-- ROLE_REQ_SAVE (R60): The firmware saves ROLE_REQ to the boot control block within 1 s of the write. -/
  | roleReqSave
  /-- BEACON_CYCLE (R61): A 2 µs Beacon cycle starts at the master, which sends its downstream frame or IDLE and reissues queued requests. -/
  | beaconCycle
  /-- BEACON_IDLE (R63): A member receives an IDLE frame and repeats it. -/
  | beaconIdle
  /-- BEACON_FRAME_BAD (R63): A Beacon frame with a bad CRC is discarded but repeated, and CRCCNT counts it. -/
  | beaconFrameBad
  /-- BEACON_ENUM (R66): A member without a position receives ENUM, takes the position, replies ENUM_ACK and starts repeating. -/
  | beaconEnum (p : Nat)
  /-- BEACON_DREQ (R67): The addressed member stamps a DREQ and replies DRSP with its turnaround. -/
  | beaconDreq (dest : Nat) (t2 : Nat)
  /-- BEACON_OFFSET (R67): A member receives OFFSET, stores d_p in BCN_DELAY and sets CAL_DONE. -/
  | beaconOffset (dest : Nat) (dp : Nat)
  /-- BEACON_EPOCH (R68): A member with CAL_DONE receives EPOCH, computes the residual and steps, steers or drops alignment. -/
  | beaconEpoch (execAt : Nat) (arr : Nat) (set_ : Bool) (force : Bool)
  /-- BEACON_TRIG (R69): An aligned device receives TRIG and schedules the trigger at EXEC_AT, or acts at once if EXEC_AT has passed. -/
  | beaconTrig (num : Nat) (origin : Nat) (execAt : Nat)
  /-- BEACON_SYNC (R69): An aligned device receives SYNC and schedules the sync-start at EXEC_AT. -/
  | beaconSync (num : Nat) (origin : Nat) (execAt : Nat)
  /-- BEACON_ESTOP (R69): A device receives ESTOP and schedules a device snuff at EXEC_AT, or snuffs at once if not aligned. -/
  | beaconEstop (num : Nat) (origin : Nat) (execAt : Nat)
  /-- BEACON_ENUM_ACK (R66): The master receives ENUM_ACK and moves to the next position. -/
  | beaconEnumAck
  /-- BEACON_DRSP (R67): The master receives DRSP and accumulates the round trip of one delay exchange. -/
  | beaconDrsp (t4 : Nat) (turn : Nat)
  /-- BEACON_TRIG_REQ (R70): The master receives TRIG_REQ in an owned slot and reissues the trigger downstream. -/
  | beaconTrigReq (num : Nat) (origin : Nat)
  /-- BEACON_SYNC_REQ (R70): The master receives SYNC_REQ and reissues the sync-start downstream. -/
  | beaconSyncReq (num : Nat) (origin : Nat)
  /-- BEACON_ESTOP_UP (R70): An upstream ESTOP arrives in the ESTOP slot; a member forwards it and the master issues ESTOP downstream. -/
  | beaconEstopUp (origin : Nat)
  /-- BEACON_UPSTREAM_SEND (R61): A member's DT reaches its slot or reply instant and it transmits its queued upstream frame. -/
  | beaconUpstreamSend (which : Nat)
  /-- BEACON_TRIG_EXEC (R69): DT reaches a TRIG's EXEC_AT; the trigger becomes visible to waits and capture triggers. -/
  | beaconTrigExec
  /-- BEACON_SYNC_EXEC (R69): The first frame boundary at or after a SYNC's EXEC_AT arrives; the sync-start takes effect. -/
  | beaconSyncExec
  /-- BEACON_ESTOP_EXEC (R69): The first frame boundary at or after an ESTOP's EXEC_AT arrives; every channel is snuffed with BEACON_ESTOP. -/
  | beaconEstopExec
  /-- ENUM_TIMEOUT (R66): No ENUM_ACK arrives within 64 cycles; enumeration ends with MEMBERS set and event 237. -/
  | enumTimeout
  /-- BCN_ENUM (R66): BCN_CMD.ENUM makes the master re-enumerate its members. -/
  | bcnEnum (m : Nat)
  /-- BCN_RECAL (R67): BCN_CMD.RECAL makes the master recalibrate member delays. -/
  | bcnRecal (m : Nat)
  /-- BCN_SET_EPOCH (R68): BCN_CMD.SET_EPOCH makes the master send a SET epoch. -/
  | bcnSetEpoch (m : Nat)
  /-- BCN_SEND (R80): A write of BCN_SEND issues a Beacon TRIG or SYNC from a master, or a request from a member. -/
  | bcnSend (m : Nat) (sync : Bool) (num : Nat)
  /-- EPOCH_TIMER (R68): BCN_EPOCHPER elapses with EPOCH_EN = 1; the master sends a CHECK epoch. -/
  | epochTimer
  /-- BEACON_MSG_LOSS (R71): A member receives no valid frame for 10 µs; MSG_LOCK clears and BEACON_LOSS may snuff every channel. -/
  | beaconMsgLoss
  /-- BEACON_CLK_LOSS (R71): A member loses the Beacon clock; it enters holdover, CLK_LOCK clears and event 232 is raised. -/
  | beaconClkLoss
  /-- FEF_TIMING_SEND (R73): Every millisecond, a link end sends a timing exchange. -/
  | fefTimingSend (l : Nat)
  /-- FEF_TIMING_FRAME (R73): A timing exchange completes; the offset and delay are computed and the exchange is judged clean or not. -/
  | fefTimingFrame (l : Nat) (t1 : Nat) (t2 : Nat) (t3 : Nat) (t4 : Nat) (crcOk : Bool) (unc : Bool)
  /-- PTP_EVENT_MESSAGE (R76): A PTP event message is stamped at the PHY and processed to maintain TB_WALL. -/
  | ptpEventMessage (tai : Nat) (unc : Nat) (changed : Bool)
  /-- HALF_RAMP_START (R82): A drive-frame boundary starts a rising or falling half-ramp of a chiplet's Taper. -/
  | halfRampStart (a : Nat)
  /-- HALF_RAMP_END (R87): A half-ramp ends; the tap check runs and conversions without a crossing are formed as CLIP. -/
  | halfRampEnd (a : Nat) (stamps : List Nat) (clips : List (Nat × Bool × Bool))
  /-- CONVERSION (R88): An input's crossing and its bracketing taps yield a V-code or I-code with flags, delivered to every consumer. -/
  | conversion (n : Nat) (isI : Bool) (falling : Bool) (merged : Bool) (stamp : Nat) (stamps : List Nat)
  /-- TAPER_GRID_WRITE (R83): A write to AFE_TPRHALF or AFE_TPRPHASE is staged for the end of the current period. -/
  | taperGridWrite (m : Nat) (a : Nat) (phase : Bool) (v : Nat)
  /-- TAPER_RETIME (R83): At the end of the period in progress, the Taper holds at −4.2 V with RETIME = 1 until the new grid starts. -/
  | taperRetime (a : Nat)
  /-- TAPER_EN_SET (R84): AFE_CTL.TPR_EN is set; the Taper starts at the next rising-start boundary. -/
  | taperEnSet (m : Nat) (a : Nat)
  /-- TAPER_EN_CLEAR (R84): A write clearing TPR_EN is refused with ENREJ while any channel is enabled, and is otherwise accepted. -/
  | taperEnClear (m : Nat) (a : Nat)
  /-- TAPER_STOP (R84): After an accepted clear, the Taper stops at the end of its current half-ramp. -/
  | taperStop (a : Nat)
  /-- CAL_ROUND (R97): The calibration interval elapses and the firmware starts a calibration round on a chiplet. -/
  | calRound (a : Nat)
  /-- CAL_COEF_LOAD (R98): At the next half-ramp boundary, new coefficients load together and the window thresholds are recomputed. -/
  | calCoefLoad (a : Nat) (ar : Int) (af : Int) (b : Int) (ar2 : Int) (af2 : Int) (b2 : Int)
  /-- CAL_OP_ROUND (R104): AFE_CALCMD OP = 1 starts an internal round now, for all CALMODE values. -/
  | calOpRound (m : Nat) (a : Nat) (mask : Nat)
  /-- CAL_OP_TRACE_TAP (R100): AFE_CALCMD OP = 2 starts a traceable measurement of tap j against the standard. -/
  | calOpTraceTap (m : Nat) (a : Nat) (tap : Nat) (mask : Nat)
  /-- CAL_OP_TRACE_ICAL_H (R100): AFE_CALCMD OP = 3 starts a traceable measurement of the range-H I-cal divider. -/
  | calOpTraceIcalH (m : Nat) (a : Nat) (mask : Nat)
  /-- CAL_OP_TRACE_ICAL_L (R100): AFE_CALCMD OP = 4 starts a traceable measurement of the range-L I-cal divider. -/
  | calOpTraceIcalL (m : Nat) (a : Nat) (mask : Nat)
  /-- CAL_OP_COMMIT (R100): AFE_CALCMD OP = 5 loads the candidates at the next half-ramp boundary and runs an internal round. -/
  | calOpCommit (m : Nat) (a : Nat) (mask : Nat)
  /-- CAL_OP_DISCARD (R100): AFE_CALCMD OP = 6 discards all candidates. -/
  | calOpDiscard (m : Nat) (a : Nat) (mask : Nat)
  /-- TRACE_DONE (R100): A traceable measurement ends after 256 half-ramps; the candidate is formed or refused and BUSY clears. -/
  | traceDone (a : Nat) (delta : Int) (outside : Bool) (sq : Nat)
  /-- CAL_CANDIDATE_EXPIRE (R100): 24 h pass without OP = 5, and the candidates are discarded. -/
  | calCandidateExpire (a : Nat)
  /-- CH_FLG_READ (R105): A read of CH_VFLG or CH_IFLG captures the code and DT of the same conversion for that master. -/
  | chFlgRead (m : Nat) (n : Nat) (isI : Bool)
  /-- WINDOW_TRANSITION (R109): A window comparator changes trip state; selected edges are stamped into the FIFO, and SNF trips snuff. -/
  | windowTransition (n : Nat) (k : Nat) (into : Bool) (unc : Bool) (merged : Bool) (t : Nat)
  /-- WINDOW_MASK_END (R110): A comparator mask ends; its state is evaluated as a level and may report LEVEL or trip. -/
  | windowMaskEnd (n : Nat) (k : Nat) (now : Bool)
  /-- WFINFO_READ (R115): A read of CH_WFINFO removes the oldest window-event entry and captures its DT. -/
  | wfinfoRead (m : Nat) (n : Nat)
  /-- STI_ARM (R119): STI_CMD.ARM arms an interval unit at the DT of acceptance, discarding any measurement in progress. -/
  | stiArm (m : Nat) (k : Nat) (u : Nat)
  /-- STI_DISARM (R119): STI_CMD.DISARM ends the unit's measurement without a result. -/
  | stiDisarm (m : Nat) (k : Nat) (u : Nat)
  /-- STI_DONE (R121): 1 µs after the later stamp, the unit declares DONE with its result and flags. -/
  | stiDone (k : Nat) (u : Nat)
  /-- STI_TIMEOUT (R121): 1 µs after the unit's deadline or edge gap, the unit reports TIMEOUT. -/
  | stiTimeout (k : Nat) (u : Nat)
  /-- AFE_SKCMD_GO (R124): AFE_SKCMD.GO starts measurement deskew calibration on the masked chiplets. -/
  | afeSkcmdGo (m : Nat) (a : Nat) (mask : Nat)
  /-- DESKEW_LOAD (R124): An input's deskew ends its blank; the skew loads and the active limits reload into the DACs. -/
  | deskewLoad (n : Nat) (isI : Bool) (sum : Int)
  /-- MOT_COUNT (R310): A quadrature transition on A and B counts the position forward or backward with its stamp. -/
  | motCount (a : Bool) (b : Bool) (t : Nat) (held : Nat)
  /-- MOT_Z_EDGE (R311): A Z edge latches MOT_ZPOS and MOT_ZDT and may reset the position. -/
  | motZEdge (rising : Bool) (t : Nat)
  /-- MOT_XG_EDGE (R119): A MOT_XG edge is stamped and may arm interval units. -/
  | motXgEdge (rising : Bool) (t : Nat)
  /-- MOT_CP_EDGE (R317): A falling edge of a selected MOT_CP in an open window sets CPLOSS and snuffs an enabled channel. -/
  | motCpEdge (k : Nat) (rising : Bool) (t : Nat)
  /-- MOT_COAST_EDGE (R330): The active edge of MOT_COAST, with COASTEN, enters coast. -/
  | motCoastEdge (high : Bool) (t : Nat)
  /-- COMMIT (R131): At a drive-frame boundary, the shadow set is copied into the active set and the new step starts. -/
  | commit (n : Nat)
  /-- LOOP_UPDATE (R136): A half-ramp group ends; the loop engine computes the new density and evaluates the end conditions. -/
  | loopUpdate (n : Nat)
  /-- STEP_END_TIME (R142): DT reaches CH_TSTART plus a TIME duration, and the step ends with TIME. -/
  | stepEndTime (n : Nat)
  /-- FORMAT_EDGE (R141): Format time reaches a level edge and the format level changes. -/
  | formatEdge (n : Nat)
  /-- FORMAT_DONE (R141): The last repetition completes; with DONEEND the step ends with FMT_DONE. -/
  | formatDone (n : Nat)
  /-- STEP_ABORT_END (R142): At the first frame boundary after an abort request, plus deskew, the step ends with ABORT. -/
  | stepAbortEnd (n : Nat)
  /-- EDGE_SLOT_FIRE (R147): An armed edge slot reaches its boundary and performs COMMIT, FMT_START or SYNC_COMMIT. -/
  | edgeSlotFire (n : Nat) (j : Nat)
  /-- EDGE_SLOT_ARM (R147): A write of CH_ESjCTL with ACT ≠ 0 arms the slot and clears FIRED and LATE. -/
  | edgeSlotArm (m : Nat) (n : Nat) (j : Nat) (act : Nat)
  /-- EDGE_SLOT_DISARM (R147): A write of CH_ESjCTL with ACT = 0 disarms the slot. -/
  | edgeSlotDisarm (m : Nat) (n : Nat) (j : Nat)
  /-- ACC_INTEGRATE (R145): Once the bracketing V values are known, the interval between two VALID I conversions is added to the charge and energy accumulators. -/
  | accIntegrate (n : Nat)
  /-- CLRTOT (R146): CH_ACCCTL.CLRTOT clears CH_QTOT and CH_ETOT and reads 0 once done. -/
  | clrtot (m : Nat) (n : Nat)
  /-- SHADOW_READ (R132): A read of CH_SHMODE captures the other shadow words for that master. -/
  | shadowRead (m : Nat) (n : Nat)
  /-- PSFS_WRITE (R135): A write of CH_PSFSr = 0 for the active range forces the density to 0 and sets MODEERR. -/
  | psfsWrite (m : Nat) (n : Nat) (r : Nat) (v : Nat)
  /-- IMPED_WINDOW_START (R151): The first phase wrap after an IMPED request opens the impedance window. -/
  | impedWindowStart (n : Nat)
  /-- IMPED_WINDOW_END (R152): The impedance window completes; the phasors and Z are fitted and DONE is set. -/
  | impedWindowEnd (n : Nat)
  /-- DRIVE_FRAME (R157): A 40 ns drive frame is formed and sent with stream bits, enable bits, a control byte and a CRC. -/
  | driveFrame (g : Nat)
  /-- STATUS_FRAME (R163): A good status frame is received and its fault, range, temperature, echo and TAG are acted on. -/
  | statusFrame (g : Nat) (fault : Nat) (range : Nat) (temp : Nat) (echo : Nat) (tag : Nat) (flags : Nat) (desc : Nat)
  /-- STATUS_FRAME_BAD (R163): A bad status frame is discarded and CRCERR increments. -/
  | statusFrameBad (g : Nat)
  /-- STATUS_LOCK_LOSS (R163): No good status frame arrives for 10 µs; LOCK clears and the group is snuffed with PS_LOCK. -/
  | statusLockLoss (g : Nat)
  /-- SETUP_ACK_TIMEOUT (R167): No acknowledge arrives within 1 ms of B0; the channel is snuffed with PS_RANGE and the change ends. -/
  | setupAckTimeout (n : Nat)
  /-- SETUP_REPEAT (R167): After 16 superframes without an acknowledge, the SETUP is queued again. -/
  | setupRepeat (n : Nat)
  /-- RANGE_RESUME (R167): At the resume boundary after an acknowledge, the loop resumes with the soft ramp and BUSY clears. -/
  | rangeResume (n : Nat)
  /-- LANE_ENABLE (R165): DEV_CTL.LANE_EN is set; the lanes are to enter IDLE. -/
  | laneEnable (m : Nat)
  /-- LANES_IDLE (R165): At the first superframe boundary after LANE_EN is set, the lanes enter IDLE. -/
  | lanesIdle
  /-- LANE_DISABLE (R166): LANE_EN is cleared; every channel is snuffed with HOST and frames go on with enable bits at 0. -/
  | laneDisable (m : Nat)
  /-- LANES_OFF (R166): After one complete superframe with enable bits at 0, all lanes enter OFF. -/
  | lanesOff
  /-- IDENTIFY_ON (R179): GRP_DLCMD.IDON queues IDENTIFY with ON = 1 to the named channels. -/
  | identifyOn (m : Nat) (g : Nat) (mask : Nat)
  /-- IDENTIFY_OFF (R179): GRP_DLCMD.IDOFF queues IDENTIFY with ON = 0 to the named channels. -/
  | identifyOff (m : Nat) (g : Nat) (mask : Nat)
  /-- HOST_SNUFF (R180): CH_SNFCTL.SNUFF snuffs the channel with cause HOST. -/
  | hostSnuff (m : Nat) (n : Nat)
  /-- HOST_REARM (R172): CH_SNFCTL.REARM re-arms the channel if no level cause is active, and sets REJ otherwise. -/
  | hostRearm (m : Nat) (n : Nat)
  /-- SNUFF_ALL (R181): DEV_SNFCMD.ALL snuffs all 1,024 channels with cause HOST. -/
  | snuffAll (m : Nat)
  /-- ILK_ESTOP_OPEN (R168): ILK_ESTOP stays below 8 V for 100 ns; every channel is snuffed, safe-off is forced and event 448 is raised. -/
  | ilkEstopOpen
  /-- ILK_ESTOP_CLOSE (R178): The e-stop loop closes and event 449 is raised. -/
  | ilkEstopClose
  /-- INSTRUCTION_FETCH (R183): A ready thread fetches its next word, halting with PCRANGE or ACCESS if the fetch fails. -/
  | instructionFetch (k : Nat) (c : Nat) (mck : Option (Nat × Nat × Nat))
  /-- WAIT_CONDITION_MET (R196): In an evaluation pass, a waiting thread's condition wins; T = 0 and the wait stamp is set. -/
  | waitConditionMet (k : Nat) (c : Nat)
  /-- WAIT_TIMEOUT (R196): DT passes a wait deadline plus the settle margin; T = 1. -/
  | waitTimeout (k : Nat) (c : Nat)
  /-- WAITT_DEADLINE (R198): DT reaches a WAITT deadline and the thread resumes. -/
  | waittDeadline (k : Nat) (c : Nat)
  /-- THREAD_RUN (R210): SEQ_TCMD.RUN makes a HALTED thread READY. -/
  | threadRun (m : Nat) (k : Nat) (c : Nat)
  /-- HOST_HALT (R210): SEQ_TCMD.HALT stops the thread at its next boundary or safe point with cause HOST. -/
  | hostHalt (m : Nat) (k : Nat) (c : Nat)
  /-- HOST_ABORT (R210): SEQ_TCMD.ABORT halts the thread with cause ABORT and ends its step with ABORT. -/
  | hostAbort (m : Nat) (k : Nat) (c : Nat)
  /-- RUNMASK_WRITE (R211): A write of the high word of SEQ_RUNMASK applies RUN to the masked threads. -/
  | runmaskWrite (m : Nat) (k : Nat) (v : Nat)
  /-- HALTREQ_WRITE (R211): A write of the high word of SEQ_HALTREQ applies HALT to the masked threads. -/
  | haltreqWrite (m : Nat) (k : Nat) (v : Nat)
  /-- QUIESCE (R210): Setting SEQ_CTL.QUIESCE stops issue on all threads at boundaries or safe points. -/
  | quiesce (m : Nat) (k : Nat)
  /-- QUIESCE_RELEASE (R210): Clearing QUIESCE resumes the threads. -/
  | quiesceRelease (m : Nat) (k : Nat)
  /-- THREAD_STATE_WRITE (R185): A host write of a thread's PC, registers, flags or stack is applied only while the thread is HALTED, and sets WREJ otherwise. -/
  | threadStateWrite (m : Nat) (k : Nat) (c : Nat) (off : Nat) (v : Nat)
  /-- PROGRAM_REGION_WRITE (R185): A write of SEQ_PBASE or SEQ_PSIZE is accepted only with all threads HALTED and the region in the bank, and sets CFGREJ otherwise. -/
  | programRegionWrite (m : Nat) (k : Nat) (size : Bool) (v : Nat)
  /-- AVERAGE_DONE (R229): The N-th conversion of an average arrives, or a Taper hold cuts it short; the result is placed in CH_MV or CH_MI. -/
  | averageDone (n : Nat) (isI : Bool)
  /-- REDIRECT (R223): At the thread's next boundary, safe point or wait, a LOG+ABORT pushes the PC and jumps to HANDLER. -/
  | redirect (k : Nat) (c : Nat)
  /-- ASYNC_TRAP (R252): A pending asynchronous trap is taken at a safe point or at the routine's end. -/
  | asyncTrap (k : Nat) (c : Nat) (point : Option (Nat × Nat × Nat × Nat × List Nat))
  /-- BUDGET_EXCEEDED (R252): A routine exceeds its word budget and BUDGET is raised. -/
  | budgetExceeded (k : Nat) (c : Nat)
  /-- ENGINE_WAIT_TIMEOUT (R248): An engine wait lasts 2 ms and causes a WTMO machine check. -/
  | engineWaitTimeout (k : Nat) (c : Nat) (addr : Nat)
  /-- CONTROL_STORE_SCRUB (R258): The scrubber reads control-store words and checks their parity. -/
  | controlStoreScrub (k : Nat) (bad : Option (Nat × Nat))
  /-- MCE_CS_WRITE (R259): MCE_CSCMD.WRITE writes a control-store word from the Lamplighter while LOADED = 0, optionally by broadcast. -/
  | mceCsWrite (m : Nat) (k : Nat) (bcast : Bool)
  /-- MCE_CS_READ (R259): MCE_CSCMD.READ reads a word into MCE_CSDATA, or returns 0 with RREJ. -/
  | mceCsRead (m : Nat) (k : Nat)
  /-- MCE_DISP_WRITE (R263): The Lamplighter writes a dispatch entry, and parity is generated. -/
  | mceDispWrite (m : Nat) (k : Nat) (op : Nat) (v : Nat)
  /-- MCE_LOADED_SET (R260): Setting MCE_CTL.LOADED lets the sequencer issue. -/
  | mceLoadedSet (m : Nat) (k : Nat)
  /-- MCE_XREQ_SET (R262): The Lamplighter sets a thread's XREQ bit, making an XREQ trap pending. -/
  | mceXreqSet (m : Nat) (k : Nat) (c : Nat)
  /-- FAIL_RECORD_WRITE (R266): The fail unit takes a queued failure, assigns SEQ and stores the record or drops it. -/
  | failRecordWrite
  /-- FAIL_SPILL_MOVE (R268): With 128 waiting records or the oldest 1 ms old, records move to the DDR5 spill ring. -/
  | failSpillMove
  /-- FAIL_SPILL_MODE_WRITE (R268): A write of FAIL_CTL.SPILL is accepted only with both rings empty. -/
  | failSpillModeWrite (m : Nat) (on_ : Bool)
  /-- CAP_ARM_WRITE (R277): A host write of CAP_ARM with DIS = 0 arms the capture after the arming checks. -/
  | capArmWrite (m : Nat) (n : Nat) (i : Nat)
  /-- CAP_DISARM_WRITE (R277): A host write of CAP_ARM.DIS disarms the capture, closing a record with ABORTED. -/
  | capDisarmWrite (m : Nat) (n : Nat)
  /-- CAP_FORCE (R276): CAP_FORCE.TRIG offers a forced trigger stamped at acceptance. -/
  | capForce (m : Nat) (n : Nat)
  /-- CAPTURE_TRIGGER (R276): 1 µs after a stamp, the engine accepts the earliest trigger and reserves the record. -/
  | captureTrigger (n : Nat)
  /-- CAPTURE_SAMPLE (R272): 1 µs after its interval ends, a capture sample is complete and stored. -/
  | captureSample (n : Nat)
  /-- CAPTURE_HOLDOFF_END (R284): The time hold-off ends and the profile capture re-arms. -/
  | captureHoldoffEnd (n : Nat)
  /-- STREAM_SLOT (R297): A stream slot boundary arrives and the next sample, segment or pass is played. -/
  | streamSlot (n : Nat)
  /-- STREAM_RESUME (R302): At the first frame boundary at which the sample is present, playback resumes with slip or catch-up. -/
  | streamResume (n : Nat)
  /-- STREAM_WAIT_END (R301): A qualifying trigger ends a stream wait and sets the new origin. -/
  | streamWaitEnd (n : Nat)
  /-- STREAM_RING_READ (R296): The stream unit reads a present ring entry ahead of playback, ending the step on a refusal. -/
  | streamRingRead (n : Nat)
  /-- STWR_WRITE (R295): A write of CH_STWR advances the writer index, or is ignored with WRERR. -/
  | stwrWrite (m : Nat) (n : Nat) (v : Nat)
  /-- STCMD_JUMP (R300): CH_STCMD.JUMP latches a jump request. -/
  | stcmdJump (m : Nat) (n : Nat) (seg : Nat) (passEnd : Bool)
  /-- STCMD_GO (R301): CH_STCMD.GO ends a WSRC = 0 wait. -/
  | stcmdGo (m : Nat) (n : Nat)
  /-- SCHED_GUARD (R313): A GUARD entry comes due and snuffs the channel if it is still enabled. -/
  | schedGuard
  /-- SCHED_WCLOSE (R316): A WCLOSE entry comes due and the contact window closes. -/
  | schedWclose
  /-- SCHED_DEADLINE (R329): A DEADLINE entry comes due; a cell without a grade is marked LATE and RETEST. -/
  | schedDeadline
  /-- SCHED_GATE (R328): A GATE entry comes due and the sort-gate output conducts 2 µs later, unless it is cancelled. -/
  | schedGate
  /-- SCHED_WOPEN (R316): A WOPEN entry comes due; the window opens and an edge slot may be armed. -/
  | schedWopen
  /-- SCHED_EVENT (R313): An EVENT entry comes due and raises its source. -/
  | schedEvent
  /-- GATE_PULSE_END (R313): A gate pulse of MOT_SGWk µs ends. -/
  | gatePulseEnd (k : Nat)
  /-- HOST_SCHEDULE_ADD (R339): A write of MOT_SADDACT creates a host GATE or EVENT entry and reports its status. -/
  | hostScheduleAdd (m : Nat) (act : Nat) (arg : Nat)
  /-- MOT_COAST_CMD (R330): MOT_CMD.COAST enters coast. -/
  | motCoastCmd (m : Nat)
  /-- MOT_RESUME (R331): MOT_CMD.RESUME cancels the earlier gates and leaves coast, or sets RESREJ. -/
  | motResume (m : Nat)
  /-- MOT_SCHCLR (R331): MOT_CMD.SCHCLR empties the schedule in coast or with EN = 0. -/
  | motSchclr (m : Nat)
  /-- MOT_VEL_UPDATE (R310): Every 100 µs, MOT_VEL is updated. -/
  | motVelUpdate
  /-- CT_SEAL_CMD (R322): CT_CMD.SEAL closes the open batch. -/
  | ctSealCmd (m : Nat)
  /-- CT_FLUSH (R321): CT_CMD.FLUSH starts the write-back of the cell cache. -/
  | ctFlush (m : Nat)
  /-- CT_FLUSH_DONE (R321): The cache write-back completes and FLUSHBUSY clears. -/
  | ctFlushDone
  /-- CT_ENABLE (R321): Setting CT_CTL.EN invalidates the cache and starts the recount. -/
  | ctEnable (m : Nat)
  /-- CT_RECOUNT_DONE (R321): The live-record recount completes and MOT operations proceed. -/
  | ctRecountDone
  /-- BATCH_AGE_CLOSE (R322): A batch reaches MAXMS after its first leaf and closes. -/
  | batchAgeClose
  /-- BATCH_SIGNED (R322): A batch signature completes; SEALED is set and the seal record is queued. -/
  | batchSigned (sig : List Nat)
  /-- FEF_CELLREC (R324): A received CELLREC frame is applied to the cell table by UPDDT and LCN order. -/
  | fefCellrec (l : Nat) (img : Nat) (car : Nat) (lcn : Nat) (upd : Nat) (map : Bool)
  /-- BANK_ACCESS (R348): A bank serves a request of an arrival slot in rank order, with region checks and ECC. -/
  | bankAccess (b : Nat) (reqs : List BankReq)
  /-- ECC_WRITEBACK (R351): In its next slot, the bank writes back a corrected word unless another write came first. -/
  | eccWriteback (b : Nat)
  /-- BT_BORROW (R354): GAP after the last return, the background test borrows the next unpinned slice and marches it. -/
  | btBorrow
  /-- BT_RETURN (R354): The slice is restored and returned, at most 25 µs after the borrow. -/
  | btReturn (fault : Option (Nat × Nat)) (cut : Bool)
  /-- REGION_WRITE (R347): A region register write takes effect for accesses arriving 1 µs later. -/
  | regionWrite (m : Nat) (mast : Nat) (t : Nat) (i : Nat) (hi : Bool) (v : Nat)
  /-- DDR_TRAINING_DONE (R363): DDR5 training and initialisation finish, setting AVAIL or raising event 208. -/
  | ddrTrainingDone (err : Nat) (arr : Nat) (ranks2 : Bool) (dens32 : Bool) (drfm : Bool)
  /-- DDR_COMMAND_SLOT (R366): The channel scheduler issues the highest-priority refresh, action or request. -/
  | ddrCommandSlot (x : Nat)
  /-- DDR_REFRESH_INTERVAL (R369): A refresh interval elapses and each rank or bank owes a refresh. -/
  | ddrRefreshInterval (x : Nat) (r : Nat)
  /-- DDR_MR4_POLL (R371): MR4 is polled and ranks change refresh rate. -/
  | ddrMr4Poll (x : Nat) (r : Nat) (code : Nat)
  /-- DDR_RH_TABLE_CLEAR (R372): After 8,192 refresh intervals, the activate-count tables are cleared. -/
  | ddrRhTableClear (x : Nat) (r : Nat)
  /-- DDR_PATROL_SCRUB (R377): The patrol scrubber reads lines in idle slots and completes passes. -/
  | ddrPatrolScrub (n : Nat)
  /-- DDR_SR_ENTRY (R378): A queue empty for IDLEUS enters self-refresh after the postponed refreshes. -/
  | ddrSrEntry (x : Nat)
  /-- DDR_SR_EXIT (R379): A request arrives during or after entry, abandoning the entry or leaving self-refresh. -/
  | ddrSrExit (x : Nat)
  /-- HOST_DOORBELL (R386): A write of the high word of EVT_RAISE raises a doorbell with the data word. -/
  | hostDoorbell (m : Nat) (v : Nat)
  /-- EVENT_COAL_TIMER (R388): A coalescing timer expires or a priority-3 source becomes eligible, and EVENT messages are built. -/
  | eventCoalTimer
  /-- LAP_READ (R392): A LAP READ request is executed and answered with its data. -/
  | lapRead (p : Nat) (sid : Nat) (seq : Nat) (ack : Nat) (addr : Nat) (count : Nat)
  /-- LAP_WRITE (R392): A LAP WRITE request is executed and answered once it is acknowledged. -/
  | lapWrite (p : Nat) (sid : Nat) (seq : Nat) (ack : Nat) (addr : Nat) (data : List Nat)
  /-- LAP_BULK_READ (R392): A BULK read returns data in chunked response messages. -/
  | lapBulkRead (p : Nat) (sid : Nat) (seq : Nat) (ack : Nat) (addr : Nat) (len : Nat)
  /-- LAP_BULK_WRITE (R392): A BULK write chunk is written, with one response after the last chunk. -/
  | lapBulkWrite (p : Nat) (sid : Nat) (seq : Nat) (ack : Nat) (addr : Nat) (len : Nat) (data : List Nat)
  /-- LAP_STREAM (R295): A STREAM message stores its entries whole and advances CH_STWR once, or is refused. -/
  | lapStream (p : Nat) (sid : Nat) (seq : Nat) (ack : Nat) (lcn : Nat) (first : Nat) (entries : List Nat)
  /-- LAP_ACK (R393): An ACK message from the host acknowledges device messages, releasing records and events. -/
  | lapAck (p : Nat) (sid : Nat) (ack : Nat) (sack : Nat)
  /-- LAP_DISCARD (R391): An unauthenticated or out-of-window message is discarded and counted. -/
  | lapDiscard
  /-- LAP_ACK_TIMER (R393): 100 µs after an arrival with no outgoing message, the device sends an ACK. -/
  | lapAckTimer (i : Nat)
  /-- LAP_RETRANSMIT (R393): An unacknowledged message's wait expires; it is retransmitted or the session ends at RETRY. -/
  | lapRetransmit (i : Nat)
  /-- LAP_SESSION_IDLE (R390): 60 s pass without an authenticated message and the session ends. -/
  | lapSessionIdle (i : Nat)
  /-- LAP_SESSION_END (R390): A write of LAP_SESSs.END ends the session. -/
  | lapSessionEnd (m : Nat) (i : Nat)
  /-- RECORD_SEND (R392): Queued records are sent in RECORD messages to the record session. -/
  | recordSend (q : Nat) (count : Nat)
  /-- ETH_LINK_CHANGE (R395): An Ethernet link goes up or down and event 344 or 345 is raised. -/
  | ethLinkChange (p : Nat) (up : Bool) (speed : Nat)
  /-- FEF_EVREL (R397): A received EVREL is deduplicated, issued on the Beacon bus and forwarded. -/
  | fefEvrel (l : Nat) (kind : Nat) (num : Nat) (hops : Nat) (origin : Nat) (oseq : Nat) (at_ : Nat)
  /-- FEF_ACK (R396): A Fefitil ACK frame acknowledges reliable frames. -/
  | fefAck (l : Nat) (ack : Nat)
  /-- FEF_FRAME_BAD (R396): A Fefitil frame with a bad CRC is discarded. -/
  | fefFrameBad (l : Nat)
  /-- FEF_RETRANSMIT (R396): A reliable frame unacknowledged for 10 µs is retransmitted, or dropped after 8 tries with a retrain. -/
  | fefRetransmit (l : Nat)
  /-- SEC_PROGRAM (R407): SEC_CMD OP = 1 checks a staged image and programs the other slot as TRIAL. -/
  | secProgram (m : Nat)
  /-- SEC_STORE (R409): SEC_CMD OP = 2 checks and stores a patch container. -/
  | secStore (m : Nat)
  /-- SEC_CONFIRM (R407): SEC_CMD OP = 3 makes the trial slot ACTIVE and advances FUSESVN. -/
  | secConfirm (m : Nat)
  /-- SEC_ATTEST (R411): SEC_CMD OP = 4 starts an attestation report. -/
  | secAttest (m : Nat)
  /-- SEC_CALCERT (R418): SEC_CMD OP = 5 stores the coefficients and starts a signed calibration certificate. -/
  | secCalcert (m : Nat)
  /-- SEC_SAVEKEYS (R414): SEC_CMD OP = 6 saves the host-key fingerprints. -/
  | secSavekeys (m : Nat)
  /-- FLASH_OP_DONE (R407): A flash operation completes or fails and event 324 or 325 is raised. -/
  | flashOpDone (ok : Bool)
  /-- ATTEST_DONE (R411): The signed report is written, ATTDONE is set and event 326 is raised. -/
  | attestDone (rom : List Nat) (image : List Nat) (mc : List Nat) (cal : List Nat) (mismatch : Bool) (patches : List (List Nat × Nat)) (sig : List Nat)
  /-- CALCERT_DONE (R418): The certificate is signed and queued, and event 329 is raised. -/
  | calcertDone (sig : List Nat)
  /-- SW_BEGIN (R412): SEC_SWCMD BEGIN starts session set-up. -/
  | swBegin (m : Nat)
  /-- SW_BEGIN_READY (R412): The device has written Nd, ek and its signature, and READY is set. -/
  | swBeginReady (nd : List Nat) (ek : List Nat) (sig : List Nat)
  /-- SW_FINISH (R412): SEC_SWCMD FINISH decapsulates, checks the host key and opens a session. -/
  | swFinish (m : Nat)
  /-- SW_CERT (R412): SEC_SWCMD CERT copies the device certificate into the buffer. -/
  | swCert (m : Nat)
  /-- SW_ABORT (R412): SEC_SWCMD ABORT ends a set-up in progress. -/
  | swAbort (m : Nat)
  /-- SW_SETUP_IDLE (R413): A set-up idle for 1 s is abandoned. -/
  | swSetupIdle
  /-- RECOVERY_PROGRAM (R420): In RECOVERY, an image staged over JTAG is checked, programmed into slot A and the device resets. -/
  | recoveryProgram
  /-- PCMD_HOLD (R426): DEV_PCMD OP = 1 halts all threads and snuffs every channel, entering HOLD. -/
  | pcmdHold (m : Nat)
  /-- PCMD_RUN (R424): DEV_PCMD OP = 2 returns from HOLD to RUN. -/
  | pcmdRun (m : Nat)
  /-- PCMD_DOZE (R427): DEV_PCMD OP = 3 starts DOZE entry, or is refused with REFCODE. -/
  | pcmdDoze (m : Nat) (key : Nat)
  /-- DOZE_ENTRY_COMPLETE (R427): The DOZE entry steps finish, PIL_DOZEDT is latched and the core enters retention. -/
  | dozeEntryComplete (fp : Nat)
  /-- PCMD_WAKE (R428): An authenticated LAP WRITE of OP = 4 on the wake port wakes the device from DOZE. -/
  | pcmdWake (p : Nat) (i : Nat)
  /-- WAKE_TIMER (R428): PIL_TIME reaches PIL_WAKEAT and wakes the device. -/
  | wakeTimer
  /-- WAKE_COMPLETE (R429): Wake completes into HOLD and event 424 is raised. -/
  | wakeComplete
  /-- PCMD_RESET (R432): DEV_PCMD OP = 5 with KEY 0xA5 performs a host reset. -/
  | pcmdReset (m : Nat) (key : Nat)
  /-- PCMD_RELOAD (R436): DEV_PCMD OP = 6 reloads cluster k and brings it back into service. -/
  | pcmdReload (m : Nat) (k : Nat)
  /-- PCMD_OUT (R435): DEV_PCMD OP = 7 takes cluster k OUT. -/
  | pcmdOut (m : Nat) (k : Nat)
  /-- PCMD_RETRAIN (R438): DEV_PCMD OP = 8 retrains Fefitil link l. -/
  | pcmdRetrain (m : Nat) (l : Nat)
  /-- WATCHDOG_RESET (R432): The firmware is silent for 2 s and a watchdog reset follows. -/
  | watchdogReset
  /-- CLUSTER_LOAD_DONE (R436): A cluster's reload completes; it enters REJOIN, or returns to OUT on a measurement mismatch. -/
  | clusterLoadDone (k : Nat) (same : Bool)
  /-- CLUSTER_REJOIN (R436): At the next epoch or 1 ms DT, a REJOIN cluster becomes READY and the MCK cause ends. -/
  | clusterRejoin (k : Nat)
  /-- PILOT_CMP_TRIP (R440): A Pilot comparator trips after FILT ticks; it may force safe-off, wake or snuff. -/
  | pilotCmpTrip (j : Nat)
  /-- PILOT_CMP_RELEASE (R440): A Pilot comparator releases after its hysteresis and filter. -/
  | pilotCmpRelease (j : Nat)
  /-- SAFE_PERMIT (R441): A write of PIL_SAFECTL.PERMIT lets ILK_SAFEOFF conduct if no forcing condition holds. -/
  | safePermit (m : Nat)
  /-- HEALTH_EVAL (R446): Every hour, each wear element's life, slope and prediction are evaluated. -/
  | healthEval (raws : List (Nat × Nat))
  /-- WEAR_SAVE (R444): Every hour, the wear records are saved to the service log. -/
  | wearSave
  /-- CONTACT_COUNT_CMD (R443): HLT_CCCMD adds to or resets a contact counter. -/
  | contactCountCmd (m : Nat) (count : Nat) (ch : Nat) (rst : Bool)
  /-- OVEN_SETTLED (R431): The reference oven has held for 60 s; OVENOK is set and event 371 is raised. -/
  | ovenSettled (duty : Nat)
  /-- DSP_APPLY (R452): DSP_TCMD.APPLY checks and stages a display mode, or refuses it with MODEERR. -/
  | dspApply (m : Nat) (o : Nat)
  /-- VBLANK_START (R460): Vertical blank starts; the staged layer values and mode are latched. -/
  | vblankStart (o : Nat)
  /-- DP_TRAIN_DONE (R453): A retrain completes; the first frame of the new mode starts, or TRAINFAIL is set. -/
  | dpTrainDone (o : Nat) (ok : Bool)
  /-- HPD_CHANGE (R454): The hot-plug detect changes; scan stops, or a retrain begins. -/
  | hpdChange (o : Nat) (present : Bool)
  /-- DP_LINE (R459): A scan line is composed, and missing pixels count as underrun. -/
  | dpLine (o : Nat) (n : Nat) (gone : List (Nat × Nat)) (urgent : Nat)
  /-- CM_RANGE_END (R168): Both pins of an input return inside ±12.5 V, so the CM_RANGE level cause ends and a re-arm is no longer refused. -/
  | cmRangeEnd (n : Nat) (isI : Bool)
  /-- RESET_N_RELEASE (R43): RESET_N goes high after being held low, and power-on and boot begin. -/
  | resetNRelease
  /-- REFERENCE_REGAINED (R52): Pull-in to a re-qualified reference completes; lock is regained, TB_HOLDUNC freezes and event 225 is raised. -/
  | referenceRegained
  /-- FEF_LINK_CHANGE (R74): A Fefitil link finishes training or loses it, so FEF_TTSTAT.LOCK changes and the link restarts untrusted. -/
  | fefLinkChange (l : Nat) (up : Bool)
  /-- TDC_LOCK_CHANGE (R86): A vernier TDC's rings leave or regain lock, and its stamps start or stop carrying TDCERR. -/
  | tdcLockChange (a : Nat) (locked : Bool)
  /-- PILOT_DOMAIN_START (R439): VPILOT is applied while VMAIN is absent and the Pilot domain is not running, so the domain starts, PIL_TIME counts from 0 and the Pilot registers take their reset values. -/
  | pilotDomainStart
  /-- PILOT_DOMAIN_LOSS (R41): VPILOT is removed or collapses while VMAIN is absent, so the Pilot domain stops and Pilot time and the comparators are lost. -/
  | pilotDomainLoss
  /-- OVENOK_LOST (R431): The reference die leaves ±0.05 °C of 95 °C, so HLT_STAT.OVENOK returns to 0. -/
  | ovenokLost
deriving DecidableEq, Repr

end Sys2Proof
end

