-- ==== Sys2Proof/Decode.lean ====
section
/-! DEFINITION. The encoding of channel instructions (R186 to R189, R193 to R207, R216 to R237, R306 to R308, R332 to R337) read in both directions, and what the host asks of the opcode table, which gives no command any bits. -/

namespace Sys2Proof

open Sys2Proof.Machine

/-- The fields of an instruction word in the Register format (R186): opcode [63:56], DST [55:52], SRCA [51:48], SRCB [47:44], MOD [43:32], IMM32 [31:0]. The other formats cut the same bits otherwise. -/
structure Enc where
  op : Nat
  d : Nat := 0
  a : Nat := 0
  b : Nat := 0
  md : Nat := 0
  imm : Nat := 0
deriving DecidableEq, Repr

def Enc.pack (e : Enc) : Nat :=
  e.op * 2 ^ 56 + e.d * 2 ^ 52 + e.a * 2 ^ 48 + e.b * 2 ^ 44 + e.md * 2 ^ 32 + e.imm
def Enc.unpack (w : Nat) : Enc :=
  ⟨w / 2 ^ 56 % 256, w / 2 ^ 52 % 16, w / 2 ^ 48 % 16, w / 2 ^ 44 % 16, w / 2 ^ 32 % 4096, w % 2 ^ 32⟩

/-- MOD fields (R187): I, S, SZ, SUB. -/
def Enc.i (e : Enc) : Bool := e.md / 2048 % 2 == 1
def Enc.s (e : Enc) : Bool := e.md / 1024 % 2 == 1
def Enc.sz (e : Enc) : Nat := e.md / 256 % 4
def Enc.sub (e : Enc) : Nat := e.md % 256
/-- SUB[n] and SUB[lo + w - 1 : lo]. -/
def Enc.subBit (e : Enc) (n : Nat) : Bool := e.md / 2 ^ n % 2 == 1
def Enc.subBits (e : Enc) (lo w : Nat) : Nat := e.md / 2 ^ lo % 2 ^ w
/-- IMM32 sign-extended. -/
def Enc.simm (e : Enc) : Int := sgn 32 e.imm
/-- Operand B (R187), and whether the field it does not use is 0 (R188). -/
def Enc.opnd (e : Enc) : Opnd := if e.i then .imm e.simm else .reg e.b
def Enc.bOk (e : Enc) : Bool := if e.i then e.b == 0 else e.imm == 0
/-- Every field below MOD's SUB is 0 but for the named ones: no I, no B, no IMM32. -/
def Enc.noB (e : Enc) : Bool := e.b == 0 && e.imm == 0
/-- MOD uses SUB alone; MOD uses I and SUB. -/
def Enc.subOnly (e : Enc) : Bool := e.md < 256
def Enc.iSub (e : Enc) : Bool := e.md % 2048 < 256
/-- COND and CONDSEL [55:48]; TIMEOUT [47:0] (R186). -/
def Enc.cond (e : Enc) : Nat := e.d * 16 + e.a
def Enc.timeout (e : Enc) : Nat := e.b * 2 ^ 44 + e.md * 2 ^ 32 + e.imm

/-- The instruction where its reserved and unused fields allow it (R188). -/
def pick (ok : Bool) (i : Instr) : Option Instr := if ok then some i else none

/-- Items of RDS (R206). -/
def rdsItems : List Nat := [0, 1, 8, 9, 0xA, 0xB, 0xC, 0xD, 0x10, 0x18, 0x20, 0x21, 0x22, 0x28, 0x29]

/-- Opcodes 0x00 to 0x0C (R193 to R200). -/
def decodeControl (k c : Nat) (e : Enc) : Option Instr :=
  match e.op with
  | 0x00 => pick (e.d == 0 && e.a == 0 && e.noB && e.md == 0) (.nop k c)
  | 0x01 => pick (e.d == 0 && e.a == 0 && e.b == 0 && e.md == 0 && e.imm < 65536 && e.imm / 2 % 128 == 0) (.halt k c (e.imm % 2 == 1) (e.imm / 256))
  | 0x02 => pick (e.cond == 0 && e.b == 0 && e.md == 0) (.jmp k c e.imm)
  | 0x03 => pick (e.cond < 0x17 && e.b == 0 && e.md == 0) (.jcc k c e.cond e.imm)
  | 0x04 => pick (e.cond < 0x17 && e.b == 0 && e.md == 0) (.call k c e.cond e.imm)
  | 0x05 => pick (e.cond < 0x17 && e.b == 0 && e.md == 0 && e.imm == 0) (.ret k c e.cond)
  | 0x06 => pick (e.cond < 4 && e.b == 0 && e.md == 0) (.loop k c e.cond e.imm)
  | 0x07 => pick (e.d < 12) (.waitc k c e.d e.a e.timeout)
  | 0x08 => pick (e.d < 3) (.waitt k c e.d e.a e.timeout)
  | 0x09 => some (.sync k c e.a e.d e.timeout)
  | 0x0A => pick (e.d == 0 && e.a == 0 && e.noB && e.md == 0) (.yield k c)
  | 0x0B => pick (e.d == 0 && e.bOk && e.md % 2048 == 0) (.signal k c e.a e.opnd)
  | 0x0C => pick (e.d == 0 && e.a == 0 && e.noB && e.md == 0) (.fence k c)
  | _ => none

/-- Opcodes 0x20 to 0x33 (R201 to R207). -/
def decodeData (k c : Nat) (e : Enc) : Option Instr :=
  match e.op with
  | 0x20 => pick (e.a == 0 && e.b == 0 && (e.md == 0 || e.md == 16 || (e.md == 1 && e.d < 4))) (.movi k c e.d (e.sub % 4) (e.subBit 4) e.simm)
  | 0x21 => pick (e.noB && e.md < 16 && e.md % 4 < 3 && e.md / 4 < 3 && (e.md % 4 == 0 || (e.md % 4 == 1 && e.d < 4) || (e.md % 4 == 2 && e.d == 0)) &&
      (e.md / 4 == 0 || (e.md / 4 == 1 && e.a < 4) || (e.md / 4 == 2 && e.a == 0))) (.mov k c e.d e.a (e.md % 4) (e.md / 4))
  | 0x22 => pick (e.b == 0 && !e.i && e.sub == 0) (.ld k c e.d e.a e.simm e.s e.sz)
  | 0x23 => pick (e.d == 0 && !e.i && !e.s && e.sub == 0) (.st k c e.a e.b e.simm e.sz)
  | 0x24 => pick (e.bOk && e.md % 2048 == 0) (.add k c e.d e.a e.opnd)
  | 0x25 => pick (e.bOk && e.md % 2048 == 0) (.sub k c e.d e.a e.opnd)
  | 0x26 => pick (e.bOk && e.sz == 0 && e.sub < 2) (.mul k c e.d e.a e.opnd e.s (e.subBit 0))
  | 0x27 => pick (e.bOk && e.sz == 0 && e.sub < 2) (.divq k c e.d e.a e.opnd e.s (e.subBit 0))
  | 0x28 => pick (e.bOk && e.md % 2048 == 0) (.and k c e.d e.a e.opnd)
  | 0x29 => pick (e.bOk && e.md % 2048 == 0) (.or k c e.d e.a e.opnd)
  | 0x2A => pick (e.bOk && e.md % 2048 == 0) (.xor k c e.d e.a e.opnd)
  | 0x2B => pick (e.bOk && e.md % 2048 == 0) (.shl k c e.d e.a e.opnd)
  | 0x2C => pick (e.bOk && e.md % 1024 == 0) (.shr k c e.d e.a e.opnd e.s)
  | 0x2D => pick (e.d == 0 && e.bOk && e.md % 2048 == 0) (.cmp k c e.a e.opnd)
  | 0x2E => pick (e.bOk && e.md % 1024 == 0) (.min k c e.d e.a e.opnd e.s)
  | 0x2F => pick (e.bOk && e.md % 1024 == 0) (.max k c e.d e.a e.opnd e.s)
  | 0x30 => pick (e.bOk && e.iSub && e.sub < 0x17) (.sel k c e.d e.a e.opnd e.sub)
  | 0x31 => pick (e.a == 0 && e.noB && e.subOnly && rdsItems.contains e.sub) (.rds k c e.d e.sub)
  | 0x32 => pick (e.bOk && e.md % 2048 == 0) (.tlu k c e.d e.a e.opnd)
  | 0x33 => pick (e.bOk && e.sz < 2 && e.sub < 2) (.atadd k c e.d e.a e.opnd e.s (e.subBit 0) e.sz)
  | _ => none

/-- STEP (R216, R217): in the Step format DST is MODE, SRCA FMT, SRCB LSET, and MOD holds XSET, ESET and FLAGS. -/
def decodeStep (k c : Nat) (e : Enc) : Option Instr :=
  let trig := e.md % 4
  let keepsp := e.md / 4 % 2 == 1
  let keepfmt := e.md / 8 % 2 == 1
  let plain := e.d ≤ 5 || e.d == 10
  pick (trig < 3 && (!keepsp || e.imm == 0) && (!keepfmt || e.a == 0) && (!plain || (e.a == 0 && !keepfmt)))
    (.step k c ⟨e.d, e.a, e.b, e.md / 256, e.md / 16 % 16, trig, keepsp, keepfmt, e.imm⟩)

/-- Opcodes 0x40 to 0x4B (R216 to R228). -/
def decodeStepArea (k c : Nat) (e : Enc) : Option Instr :=
  match e.op with
  | 0x40 => decodeStep k c e
  | 0x41 => pick (e.d == 0 && e.a == 0 && e.bOk && e.iSub && e.sub < 5) (.setp k c e.sub e.opnd)
  | 0x42 => pick (e.d == 0 && e.a == 0 && e.bOk && e.iSub && e.sub < 8) (.limit k c (e.sub % 4) (e.subBit 2) e.opnd)
  | 0x43 =>
    if e.md == 0x80 then pick (e.a == 0 && e.noB) (.expectCheck k c e.d)
    else pick (e.d == 0 && e.a == 0 && e.bOk && e.iSub && e.sub < 96) (.expect k c (e.sub % 16) (e.sub / 16) e.opnd)
  | 0x44 => pick (e.d == 0 && e.a == 0 && e.bOk && e.iSub && e.sub < 32) (.endc k c (e.sub % 16) (e.subBit 4) e.opnd)
  | 0x45 => pick (e.d == 0 && e.a == 0 && e.noB && e.md < 2) (.irange k c e.md)
  | 0x46 => pick (e.d == 0 && e.a == 0 && e.noB && (e.md < 4 || (16 ≤ e.md && e.md < 20))) (.psrange k c (e.md % 4) (e.subBit 4))
  | 0x47 => pick (e.d == 0 && e.a == 0 && e.bOk && e.md % 2048 == 0) (.soft k c e.opnd)
  | 0x48 => pick (e.d == 0 && e.a == 0 && e.noB && e.md == 0) (.snuff k c)
  | 0x49 => pick (e.d == 0 && e.a == 0 && e.noB && e.md == 0) (.enable k c)
  | 0x4A => pick (e.md == 0 && e.imm == 0) (.ldtab k c e.d e.a e.b 0)
  | 0x4B =>
    if e.md < 0x80 || 0x800 ≤ e.md then pick (e.d == 0 && e.a == 0 && e.bOk && e.iSub && e.sub < 16) (.fmt k c e.sub e.opnd)
    else pick (e.d == 0 && e.a == 0 && e.noB && 0x80 ≤ e.md && e.md < 0x90) (.fmtLoad k c (e.md % 16))
  | _ => none

/-- TRIG (R233). -/
def decodeTrig (k c : Nat) (e : Enc) : Option Instr :=
  match e.sub / 64 with
  | 0 => pick (e.d == 0 && e.bOk && e.iSub && e.subBits 2 2 == 0 && (e.subBits 4 2 != 3 || e.a == 0)) (.trigEdge k c (e.sub % 4) (e.subBits 4 2) e.a e.opnd)
  | 1 => pick (e.d == 0 && e.a == 0 && e.noB && e.md == 64) (.trigCapture k c)
  | 2 => pick (e.d == 0 && e.a == 0 && e.bOk && e.iSub && (e.sub == 128 || e.sub == 144)) (.trigBeacon k c (e.subBit 4) e.opnd)
  | _ => none

/-- STAMP (R237). -/
def decodeStamp (k c : Nat) (e : Enc) : Option Instr :=
  match e.sub / 8 with
  | 0 => pick (e.d == 0 && e.a == 0 && e.noB && e.subOnly) (.stampArm k c (e.sub % 8))
  | 1 => pick (e.d == 0 && e.a == 0 && e.noB && e.subOnly) (.stampDis k c (e.sub % 8))
  | 2 => pick (e.a == 0 && e.noB && e.subOnly) (.stampRd k c e.d (e.sub % 8))
  | 3 => pick (e.d == 0 && e.bOk && e.iSub) (.stampCfg k c (e.sub % 8) e.a e.opnd)
  | _ => none

/-- Opcodes 0x60 to 0x67 (R229 to R237). -/
def decodeMeasure (k c : Nat) (e : Enc) : Option Instr :=
  match e.op with
  | 0x60 =>
    match e.sub / 4 with
    | 0 => pick (e.a == 0 && e.bOk && e.iSub) (.meas k c e.d (e.subBit 0) (e.subBit 1) e.opnd)
    | 1 => pick (e.d == 0 && e.a == 0 && e.bOk && e.iSub) (.measAsync k c (e.subBit 0) (e.subBit 1) e.opnd)
    | 2 => pick (e.a == 0 && e.noB && e.subOnly && !e.subBit 1) (.measCollect k c e.d (e.subBit 0))
    | _ => none
  | 0x61 =>
    if e.md == 0 then pick (e.a == 0 && e.noB) (.accRc k c e.d)
    else pick (e.d == 0 && e.a == 0 && e.noB && e.md == 1) (.accClr k c)
  | 0x62 =>
    if e.sub == 0 then pick (e.a == 0 && e.bOk && e.iSub) (.arm k c e.d e.opnd)
    else pick (e.a == 0 && e.noB && e.md == 1) (.armDis k c e.d)
  | 0x63 => decodeTrig k c e
  | 0x64 =>
    if e.sub == 0 then pick (e.d == 0 && e.a == 0 && e.bOk && e.iSub) (.mark k c e.opnd)
    else pick (e.d == 0 && e.a == 0 && e.bOk && e.iSub && e.sub == 1) (.markStep k c e.opnd)
  | 0x65 => pick (e.d == 0 && e.bOk && e.iSub) (.record k c e.sub e.a e.opnd)
  | 0x66 => pick (e.d == 0 && e.a == 0 && e.bOk && e.iSub && e.sub < 2) (.imped k c (e.subBit 0) e.opnd)
  | 0x67 => decodeStamp k c e
  | _ => none

/-- STRM (R306). -/
def decodeStrm (k c : Nat) (e : Enc) : Option Instr :=
  match e.md with
  | 0 => pick e.noB (.strmCfg k c e.d e.a)
  | 1 => pick (e.d == 0 && e.a == 0 && e.noB) (.strmReset k c)
  | 2 => pick (e.d == 0 && e.a == 0 && e.noB) (.strmGo k c)
  | 3 => pick (e.a == 0 && e.noB) (.strmStat k c e.d)
  | 4 => pick (e.a == 0 && e.noB) (.strmSlip k c e.d)
  | _ => none

/-- Opcodes 0x80 to 0x92 (R306 to R308, R332 to R337). -/
def decodeMotion (k c : Nat) (e : Enc) : Option Instr :=
  match e.op with
  | 0x80 => pick (e.bOk && e.iSub && e.subBits 2 2 < 3 && e.sub / 32 < 5) (.mwin k c e.d e.a e.opnd (e.sub % 4) (e.subBits 2 2) (e.subBit 4) (e.sub / 32))
  | 0x81 => pick (e.noB && e.md == 0) (.msort k c e.d e.a)
  | 0x82 =>
    if e.sub == 0 then pick (e.bOk && e.iSub) (.ctlook k c e.d e.a e.opnd)
    else pick (e.bOk && e.iSub && e.sub == 1) (.ctlookCar k c e.d e.a e.opnd)
  | 0x83 =>
    match e.sub with
    | 0 => pick (e.bOk && e.iSub) (.ctupdUpdate k c e.d e.a e.opnd)
    | 1 => pick (e.bOk && e.iSub) (.ctupdInsert k c e.d e.a e.opnd)
    | 2 => pick (e.bOk && e.iSub) (.ctupdUpsert k c e.d e.a e.opnd)
    | 3 => pick (e.bOk && e.iSub) (.ctupdRetire k c e.d e.a e.opnd)
    | _ => none
  | 0x84 => pick (e.a == 0 && e.noB && e.md == 0) (.ctseal k c e.d)
  | 0x90 => decodeStrm k c e
  | 0x91 =>
    if e.md == 0 then pick (e.d == 0 && e.noB) (.seg k c e.a)
    else pick (e.bOk && e.iSub && e.sub == 1) (.segCopy k c e.d e.a e.opnd)
  | 0x92 => pick (e.d == 0 && e.a == 0 && e.bOk && e.iSub && e.sub < 2) (.sjmp k c (e.subBit 0) e.opnd)
  | _ => none

/-- The opcode map (R189), by the areas of its chapters. -/
def decodeEnc (k c : Nat) (e : Enc) : Option Instr :=
  if e.op < 0x20 then decodeControl k c e
  else if e.op < 0x40 then decodeData k c e
  else if e.op < 0x60 then decodeStepArea k c e
  else if e.op < 0x80 then decodeMeasure k c e
  else decodeMotion k c e

/-- The instruction that a program word spells for thread `c` of cluster `k`; none where it halts the thread with ILLEGAL (R188). -/
def decodeThread (k c w : Nat) : Option Instr := decodeEnc k c (Enc.unpack w)

/-! ### The encoder -/

/-- A Register format word with operand B. -/
def Enc.withB (op d a md : Nat) : Opnd → Enc
  | .reg n => ⟨op, d, a, n, md, 0⟩
  | .imm v => ⟨op, d, a, 0, 2048 + md, uns 32 v⟩

/-- A Jump format word and a Wait format word (R186). -/
def Enc.jump (op cond target : Nat) : Enc := ⟨op, cond / 16, cond % 16, 0, 0, target⟩
def Enc.wait (op sel reg timeout : Nat) : Enc := ⟨op, sel, reg, timeout / 2 ^ 44, timeout / 2 ^ 32 % 4096, timeout % 2 ^ 32⟩

def encodeControl : Instr → Option Enc
  | .nop _ _ => some ⟨0x00, 0, 0, 0, 0, 0⟩
  | .halt _ _ a u => some ⟨0x01, 0, 0, 0, 0, b2n a + 256 * u⟩
  | .jmp _ _ t => some (.jump 0x02 0 t)
  | .jcc _ _ cond t => some (.jump 0x03 cond t)
  | .call _ _ cond t => some (.jump 0x04 cond t)
  | .ret _ _ cond => some (.jump 0x05 cond 0)
  | .loop _ _ x t => some (.jump 0x06 x t)
  | .waitc _ _ cls r t => some (.wait 0x07 cls r t)
  | .waitt _ _ base r t => some (.wait 0x08 base r t)
  | .sync _ _ b r t => some (.wait 0x09 r b t)
  | .yield _ _ => some ⟨0x0A, 0, 0, 0, 0, 0⟩
  | .signal _ _ a b => some (.withB 0x0B 0 a 0 b)
  | .fence _ _ => some ⟨0x0C, 0, 0, 0, 0, 0⟩
  | _ => none

def encodeData : Instr → Option Enc
  | .movi _ _ d cls hi v => some ⟨0x20, d, 0, 0, cls + 16 * b2n hi, uns 32 v⟩
  | .mov _ _ d a dc sc => some ⟨0x21, d, a, 0, dc + 4 * sc, 0⟩
  | .ld _ _ d a ofs s sz => some ⟨0x22, d, a, 0, 1024 * b2n s + 256 * sz, uns 32 ofs⟩
  | .st _ _ a b ofs sz => some ⟨0x23, 0, a, b, 256 * sz, uns 32 ofs⟩
  | .add _ _ d a b => some (.withB 0x24 d a 0 b)
  | .sub _ _ d a b => some (.withB 0x25 d a 0 b)
  | .mul _ _ d a b s hi => some (.withB 0x26 d a (1024 * b2n s + b2n hi) b)
  | .divq _ _ d a b s rem => some (.withB 0x27 d a (1024 * b2n s + b2n rem) b)
  | .and _ _ d a b => some (.withB 0x28 d a 0 b)
  | .or _ _ d a b => some (.withB 0x29 d a 0 b)
  | .xor _ _ d a b => some (.withB 0x2A d a 0 b)
  | .shl _ _ d a b => some (.withB 0x2B d a 0 b)
  | .shr _ _ d a b s => some (.withB 0x2C d a (1024 * b2n s) b)
  | .cmp _ _ a b => some (.withB 0x2D 0 a 0 b)
  | .min _ _ d a b s => some (.withB 0x2E d a (1024 * b2n s) b)
  | .max _ _ d a b s => some (.withB 0x2F d a (1024 * b2n s) b)
  | .sel _ _ d a b cond => some (.withB 0x30 d a cond b)
  | .rds _ _ d item => some ⟨0x31, d, 0, 0, item, 0⟩
  | .tlu _ _ d a b => some (.withB 0x32 d a 0 b)
  | .atadd _ _ d a b s swp sz => some (.withB 0x33 d a (1024 * b2n s + 256 * sz + b2n swp) b)
  | _ => none

def encodeStepArea : Instr → Option Enc
  | .step _ _ x => some ⟨0x40, x.mode, x.fmt, x.lset, 256 * x.xset + 16 * x.eset + 8 * b2n x.keepfmt + 4 * b2n x.keepsp + x.trig, x.s⟩
  | .setp _ _ w b => some (.withB 0x41 0 0 w b)
  | .limit _ _ comp ctl b => some (.withB 0x42 0 0 (comp + 4 * b2n ctl) b)
  | .expect _ _ e w b => some (.withB 0x43 0 0 (e + 16 * w) b)
  | .expectCheck _ _ d => some ⟨0x43, d, 0, 0, 0x80, 0⟩
  | .endc _ _ e val b => some (.withB 0x44 0 0 (e + 16 * b2n val) b)
  | .irange _ _ r => some ⟨0x45, 0, 0, 0, r, 0⟩
  | .psrange _ _ r w => some ⟨0x46, 0, 0, 0, r + 16 * b2n w, 0⟩
  | .soft _ _ b => some (.withB 0x47 0 0 0 b)
  | .snuff _ _ => some ⟨0x48, 0, 0, 0, 0, 0⟩
  | .enable _ _ => some ⟨0x49, 0, 0, 0, 0, 0⟩
  | .ldtab _ _ d a b _ => some ⟨0x4A, d, a, b, 0, 0⟩
  | .fmt _ _ w b => some (.withB 0x4B 0 0 w b)
  | .fmtLoad _ _ f => some ⟨0x4B, 0, 0, 0, 0x80 + f, 0⟩
  | _ => none

def encodeMeasure : Instr → Option Enc
  | .meas _ _ d isI al b => some (.withB 0x60 d 0 (b2n isI + 2 * b2n al) b)
  | .measAsync _ _ isI al b => some (.withB 0x60 0 0 (b2n isI + 2 * b2n al + 4) b)
  | .measCollect _ _ d isI => some ⟨0x60, d, 0, 0, b2n isI + 8, 0⟩
  | .accRc _ _ d => some ⟨0x61, d, 0, 0, 0, 0⟩
  | .accClr _ _ => some ⟨0x61, 0, 0, 0, 1, 0⟩
  | .arm _ _ d b => some (.withB 0x62 d 0 0 b)
  | .armDis _ _ d => some ⟨0x62, d, 0, 0, 1, 0⟩
  | .trigEdge _ _ j act a b => some (.withB 0x63 0 a (j + 16 * act) b)
  | .trigCapture _ _ => some ⟨0x63, 0, 0, 0, 64, 0⟩
  | .trigBeacon _ _ y b => some (.withB 0x63 0 0 (128 + 16 * b2n y) b)
  | .mark _ _ b => some (.withB 0x64 0 0 0 b)
  | .markStep _ _ b => some (.withB 0x64 0 0 1 b)
  | .record _ _ typ a b => some (.withB 0x65 0 a typ b)
  | .imped _ _ w b => some (.withB 0x66 0 0 (b2n w) b)
  | .stampArm _ _ u => some ⟨0x67, 0, 0, 0, u, 0⟩
  | .stampDis _ _ u => some ⟨0x67, 0, 0, 0, 8 + u, 0⟩
  | .stampRd _ _ d u => some ⟨0x67, d, 0, 0, 16 + u, 0⟩
  | .stampCfg _ _ u a b => some (.withB 0x67 0 a (24 + u) b)
  | _ => none

def encodeMotion : Instr → Option Enc
  | .mwin _ _ d a b j act g cp => some (.withB 0x80 d a (j + 4 * act + 16 * b2n g + 32 * cp) b)
  | .msort _ _ d a => some ⟨0x81, d, a, 0, 0, 0⟩
  | .ctlook _ _ d a b => some (.withB 0x82 d a 0 b)
  | .ctlookCar _ _ d a b => some (.withB 0x82 d a 1 b)
  | .ctupdUpdate _ _ d a b => some (.withB 0x83 d a 0 b)
  | .ctupdInsert _ _ d a b => some (.withB 0x83 d a 1 b)
  | .ctupdUpsert _ _ d a b => some (.withB 0x83 d a 2 b)
  | .ctupdRetire _ _ d a b => some (.withB 0x83 d a 3 b)
  | .ctseal _ _ d => some ⟨0x84, d, 0, 0, 0, 0⟩
  | .strmCfg _ _ d a => some ⟨0x90, d, a, 0, 0, 0⟩
  | .strmReset _ _ => some ⟨0x90, 0, 0, 0, 1, 0⟩
  | .strmGo _ _ => some ⟨0x90, 0, 0, 0, 2, 0⟩
  | .strmStat _ _ d => some ⟨0x90, d, 0, 0, 3, 0⟩
  | .strmSlip _ _ d => some ⟨0x90, d, 0, 0, 4, 0⟩
  | .seg _ _ a => some ⟨0x91, 0, a, 0, 0, 0⟩
  | .segCopy _ _ d a b => some (.withB 0x91 d a 1 b)
  | .sjmp _ _ p b => some (.withB 0x92 0 0 (b2n p) b)
  | _ => none

/-- The program word of a channel instruction; none for a command that is no channel instruction. -/
def encode (i : Instr) : Option Nat :=
  ((encodeControl i).or ((encodeData i).or ((encodeStepArea i).or ((encodeMeasure i).or (encodeMotion i))))).map Enc.pack

/-! ### Channel instructions as syntax -/

/-- The cluster and the thread of a channel instruction; none for a command that is no channel instruction. -/
def Instr.thread : Instr → Option (Nat × Nat)
  | .nop k c => some (k, c)
  | .halt k c _ _ => some (k, c)
  | .jmp k c _ => some (k, c)
  | .jcc k c _ _ => some (k, c)
  | .call k c _ _ => some (k, c)
  | .ret k c _ => some (k, c)
  | .loop k c _ _ => some (k, c)
  | .waitc k c _ _ _ => some (k, c)
  | .waitt k c _ _ _ => some (k, c)
  | .sync k c _ _ _ => some (k, c)
  | .yield k c => some (k, c)
  | .signal k c _ _ => some (k, c)
  | .fence k c => some (k, c)
  | .movi k c _ _ _ _ => some (k, c)
  | .mov k c _ _ _ _ => some (k, c)
  | .ld k c _ _ _ _ _ => some (k, c)
  | .st k c _ _ _ _ => some (k, c)
  | .add k c _ _ _ => some (k, c)
  | .sub k c _ _ _ => some (k, c)
  | .mul k c _ _ _ _ _ => some (k, c)
  | .divq k c _ _ _ _ _ => some (k, c)
  | .and k c _ _ _ => some (k, c)
  | .or k c _ _ _ => some (k, c)
  | .xor k c _ _ _ => some (k, c)
  | .shl k c _ _ _ => some (k, c)
  | .shr k c _ _ _ _ => some (k, c)
  | .cmp k c _ _ => some (k, c)
  | .min k c _ _ _ _ => some (k, c)
  | .max k c _ _ _ _ => some (k, c)
  | .sel k c _ _ _ _ => some (k, c)
  | .rds k c _ _ => some (k, c)
  | .tlu k c _ _ _ => some (k, c)
  | .atadd k c _ _ _ _ _ _ => some (k, c)
  | .step k c _ => some (k, c)
  | .setp k c _ _ => some (k, c)
  | .limit k c _ _ _ => some (k, c)
  | .expect k c _ _ _ => some (k, c)
  | .expectCheck k c _ => some (k, c)
  | .endc k c _ _ _ => some (k, c)
  | .irange k c _ => some (k, c)
  | .psrange k c _ _ => some (k, c)
  | .soft k c _ => some (k, c)
  | .snuff k c => some (k, c)
  | .enable k c => some (k, c)
  | .ldtab k c _ _ _ _ => some (k, c)
  | .fmt k c _ _ => some (k, c)
  | .fmtLoad k c _ => some (k, c)
  | .meas k c _ _ _ _ => some (k, c)
  | .measAsync k c _ _ _ => some (k, c)
  | .measCollect k c _ _ => some (k, c)
  | .accRc k c _ => some (k, c)
  | .accClr k c => some (k, c)
  | .arm k c _ _ => some (k, c)
  | .armDis k c _ => some (k, c)
  | .trigEdge k c _ _ _ _ => some (k, c)
  | .trigCapture k c => some (k, c)
  | .trigBeacon k c _ _ => some (k, c)
  | .mark k c _ => some (k, c)
  | .markStep k c _ => some (k, c)
  | .record k c _ _ _ => some (k, c)
  | .imped k c _ _ => some (k, c)
  | .stampArm k c _ => some (k, c)
  | .stampDis k c _ => some (k, c)
  | .stampRd k c _ _ => some (k, c)
  | .stampCfg k c _ _ _ => some (k, c)
  | .strmCfg k c _ _ => some (k, c)
  | .strmReset k c => some (k, c)
  | .strmGo k c => some (k, c)
  | .strmStat k c _ => some (k, c)
  | .strmSlip k c _ => some (k, c)
  | .seg k c _ => some (k, c)
  | .segCopy k c _ _ _ => some (k, c)
  | .sjmp k c _ _ => some (k, c)
  | .mwin k c _ _ _ _ _ _ _ => some (k, c)
  | .msort k c _ _ => some (k, c)
  | .ctlook k c _ _ _ => some (k, c)
  | .ctlookCar k c _ _ _ => some (k, c)
  | .ctupdUpdate k c _ _ _ => some (k, c)
  | .ctupdInsert k c _ _ _ => some (k, c)
  | .ctupdUpsert k c _ _ _ => some (k, c)
  | .ctupdRetire k c _ _ _ => some (k, c)
  | .ctseal k c _ => some (k, c)
  | _ => none

/-- The instruction as its word spells it: no word says at which byte a safe point ends an LDTAB (R228). -/
def Instr.whole : Instr → Instr
  | .ldtab k c d a b _ => .ldtab k c d a b 0
  | i => i

/-! ### The opcode table -/

/-- The command spelled by a word of spec/opcode_table.json: none, since the table gives no row any bits. -/
def decodeTableWord (_nbits _w : Nat) : Option Instr := none

end Sys2Proof
end

