-- ==== Sys2Proof/Config.lean ====
section
/-! DEFINITION. What an implementation fixes and the values the spec leaves open. Every constant here is opaque: nothing can evaluate it, so a statement holds whatever it is. -/

namespace Sys2Proof.Config

/-- Which of the two neighbouring integers a computation takes whose rounding the spec does not state; the arguments are the exact numerator and denominator (log entry 3). -/
opaque roundUp : Int → Int → Bool

/-- The `n`-th free value of the machine: any number at all (log entry 2). -/
opaque freeValue : Nat → Nat

/-- Did the MEMS die change by at most 1 °C per minute over the `n`-th millisecond of a holdover (R53, log entry 20). -/
opaque memsStable : Nat → Bool

/-- Contents of a fuse word, by index: identity, MAC addresses, FUSESVN at delivery (log entry 9). -/
opaque fuse : Nat → Nat

/-- The stored identity fingerprint, word by word (log entry 9). -/
opaque identity : Nat → Nat

/-- Does an SLH-DSA-SHAKE-256s signature by the Teovoari firmware key hold over a message (R405, R408): message, signature (log entry 9). -/
opaque firmwareSig : List Nat → List Nat → Bool

/-- Does a host signature hold (R412): public key, message, signature (log entry 9). -/
opaque hostSig : List Nat → List Nat → List Nat → Bool

/-- Does ML-KEM-768 decapsulation of a ciphertext under the session's key succeed (R412): encapsulation key, ciphertext (log entry 9). -/
opaque decapsOk : List Nat → List Nat → Bool

/-- The device certificate of the identity store (R410, log entry 9). -/
opaque certificate : List Nat

/-- Bits [159:0] of a word of the base microcode, and the START of an opcode's base routine (R251, R260; log entry 60). -/
opaque baseWord : Nat → Nat
opaque baseStart : Nat → Nat

end Sys2Proof.Config
end

