-- ==== Sys2Proof/Machine/Free.lean ====
section
/-! DEFINITION. Division where the spec states no rounding: exact where the division is exact, otherwise one of the two neighbours, which one is left open (log entry 3). -/

namespace Sys2Proof.Machine

/-- The quotient of `a` by a positive `b` as one of its two neighbouring integers; 0 for a divisor that is not positive. -/
def openDiv (a b : Int) : Int :=
  if b ≤ 0 then 0
  else if a % b = 0 then a / b
  else if Config.roundUp a b then a / b + 1 else a / b

/-- `openDiv` for a divisor of either sign. -/
def openDivS (a b : Int) : Int := if b < 0 then openDiv (-a) (-b) else openDiv a b

end Sys2Proof.Machine
end

