-- ==== Sys2Proof/Machine/RegFile.lean ====
section
/-! DEFINITION. Register fields, registers and the sparse register file: a field that is not listed holds its reset value (R3, R4, R468). -/

namespace Sys2Proof.Machine

/-- Access codes of R4. `rwl` is writable while DEV_CTL.LOCK = 0. -/
inductive Acc where
  | rw | ro | wo | w1c | w1s | rc | rwl
deriving DecidableEq, Repr

/-- One register field. `off` is the offset of the (low) word in its unit. `lOnly` marks the fields that accept writes from the Lamplighter only (R262). -/
structure Fld where
  off : Nat
  lo : Nat
  width : Nat
  acc : Acc
  rst : Nat
  lOnly : Bool
deriving DecidableEq, Repr

/-- One register or register array: first offset, size in bytes, the (stride, count) of each index, outermost first, and the fields for given indices. -/
structure Reg where
  off : Nat
  bytes : Nat
  dims : List (Nat × Nat)
  fields : List Nat → List Fld

/-- The register file of one unit: (key, value) pairs, keys rising, none at its field's reset value. -/
abbrev Regs := List (Nat × Nat)

/-- The key of a field: its bit number in the unit's address space. -/
def Fld.key (f : Fld) : Nat := f.off * 64 + f.lo

/-- The value listed under key `k`. -/
def Regs.look (k : Nat) : Regs → Option Nat
  | [] => none
  | e :: t => if e.1 = k then some e.2 else Regs.look k t

/-- `r` with `v` listed under key `k`. -/
def Regs.put (k v : Nat) : Regs → Regs
  | [] => [(k, v)]
  | e :: t => if k < e.1 then (k, v) :: e :: t else if e.1 = k then (k, v) :: t else e :: Regs.put k v t

/-- `r` with nothing listed under key `k`. -/
def Regs.drop (k : Nat) (r : Regs) : Regs := r.filter fun e => decide (e.1 ≠ k)

/-- The value of a field. -/
def Regs.get (r : Regs) (f : Fld) : Nat := (r.look f.key).getD f.rst

/-- Is a one-bit field 1 (for wider fields: not 0). -/
def Regs.on (r : Regs) (f : Fld) : Bool := r.get f != 0

/-- The register file with `f` holding the low bits of `v`. -/
def Regs.set (r : Regs) (f : Fld) (v : Nat) : Regs :=
  if v % 2 ^ f.width = f.rst then r.drop f.key else (r.drop f.key).put f.key (v % 2 ^ f.width)

/-- A one-bit field set to `b`. -/
def Regs.setB (r : Regs) (f : Fld) (b : Bool) : Regs := r.set f (b2n b)

/-- A counter field advanced by `n`, stopping at its maximum. -/
def Regs.bump (r : Regs) (f : Fld) (n : Nat) : Regs := r.set f (satInc f.width (r.get f) n)

/-- A field back at its reset value. -/
def Regs.clear (r : Regs) (f : Fld) : Regs := r.set f f.rst

/-- Canonical form: keys strictly rising. -/
def Regs.wf : Regs → Bool
  | [] => true
  | [_] => true
  | a :: b :: t => decide (a.1 < b.1) && Regs.wf (b :: t)

/-- The indices at which offset `d` from the first element falls in an array of the given dimensions, with the rest. -/
def matchDims : List (Nat × Nat) → Nat → Option (List Nat × Nat)
  | [], d => some ([], d)
  | (st, cnt) :: t, d =>
    if d / st < cnt then (matchDims t (d % st)).map fun p => (d / st :: p.1, p.2) else none

/-- The fields of the register at word offset `off`, with the word (0 low, 1 high) it is. -/
def Reg.at? (g : Reg) (off : Nat) : Option (List Fld × Nat) :=
  if off < g.off then none
  else match matchDims g.dims (off - g.off) with
    | some (ix, r) => if r < g.bytes then some (g.fields ix, r / 4) else none
    | none => none

/-- The register at word offset `off` of a unit; no fields where no register lies (R466). -/
def fieldsAt (gs : List Reg) (off : Nat) : List Fld × Nat :=
  (gs.findSome? fun g => g.at? off).getD ([], 0)

/-- The part of field `f` that lies in word `h` of its register (0 low, 1 high). -/
def Fld.inWord (f : Fld) (h : Nat) : Bool := f.lo < 32 * (h + 1) && 32 * h < f.lo + f.width

/-- The 32-bit word `h` made of the fields' values; write-only fields read 0 (R3, R4). -/
def wordOf (r : Regs) (fs : List Fld) (h : Nat) : Nat :=
  let full := fs.foldl (fun a f => if f.acc = .wo then a else a + r.get f * 2 ^ f.lo) 0
  bits full (32 * h) 32

/-- The whole register, both words. -/
def pairOf (r : Regs) (fs : List Fld) : Nat :=
  fs.foldl (fun a f => if f.acc = .wo then a else a + r.get f * 2 ^ f.lo) 0

/-- The value field `f` takes from a write of word `h` with value `v`: its bits in the other word keep their value. -/
def Fld.merge (f : Fld) (r : Regs) (h v : Nat) : Nat :=
  let cur := r.get f * 2 ^ f.lo
  bits (setBits cur (32 * h) 32 v) f.lo f.width

/-- What a write of word `h` does to one field, by its access code (R4): RW stores, RWL stores while unlocked, W1C clears the bits written 1, W1S sets them, RO, RC and WO keep their value. -/
def Fld.write (f : Fld) (r : Regs) (locked lamp : Bool) (h v : Nat) : Regs :=
  if f.lOnly && !lamp then r
  else if !f.inWord h then r
  else match f.acc with
    | .rw => r.set f (f.merge r h v)
    | .rwl => if locked then r else r.set f (f.merge r h v)
    | .w1c => r.set f (bclear (r.get f) (bits (bits v 0 32 * 2 ^ (32 * h)) f.lo f.width))
    | .w1s => r.set f (bor (r.get f) (bits (bits v 0 32 * 2 ^ (32 * h)) f.lo f.width))
    | _ => r

/-- A write of word `h` of a register (R4). -/
def writeWord (r : Regs) (fs : List Fld) (locked lamp : Bool) (h v : Nat) : Regs :=
  fs.foldl (fun a f => f.write a locked lamp h v) r

/-- The RC fields of a register at their reset values after a read (R4). -/
def readClear (r : Regs) (fs : List Fld) (h : Nat) : Regs :=
  fs.foldl (fun a f => if f.acc = .rc && f.inWord h then a.clear f else a) r

end Sys2Proof.Machine
end

