-- ==== Sys2Proof/Machine/RegsChan.lean ====
section
/-! DEFINITION. The registers of a group (R179), of a channel (R105, R126, R155, R156, R180, R240, R309, R340) and of a step set, shadow or active (R154). Each field definition gives offset, lowest bit, width, access code, reset value and whether only the Lamplighter may write it; names are the spec's, register then field. -/

namespace Sys2Proof.Machine

def CH_MCTL_MRGX : Fld := .mk 0x100 8 1 .rw 0 false
def CH_MCTL_CALMODE : Fld := .mk 0x100 4 2 .rw 0 false
def CH_MCTL_IRANGE : Fld := .mk 0x100 0 1 .ro 0 false
/-- CH_MCTL, as R105 of spec/04_taper_measurement.md lays it out. -/
def CH_MCTL : Reg := ⟨0x100, 4, [], fun _ => [CH_MCTL_MRGX, CH_MCTL_CALMODE, CH_MCTL_IRANGE]⟩

def CH_VFLG_SEQ : Fld := .mk 0x110 24 8 .ro 0 false
def CH_VFLG_FLAGS : Fld := .mk 0x110 0 11 .ro 0 false
/-- CH_VFLG, as R105 of spec/04_taper_measurement.md lays it out. -/
def CH_VFLG : Reg := ⟨0x110, 4, [], fun _ => [CH_VFLG_SEQ, CH_VFLG_FLAGS]⟩

def CH_VCODE_CODE : Fld := .mk 0x114 0 32 .ro 0 false
/-- CH_VCODE, as R105 of spec/04_taper_measurement.md lays it out. -/
def CH_VCODE : Reg := ⟨0x114, 4, [], fun _ => [CH_VCODE_CODE]⟩

def CH_VDT_DT : Fld := .mk 0x118 0 64 .ro 0 false
/-- CH_VDT, as R105 of spec/04_taper_measurement.md lays it out. -/
def CH_VDT : Reg := ⟨0x118, 8, [], fun _ => [CH_VDT_DT]⟩

def CH_IFLG_SEQ : Fld := .mk 0x120 24 8 .ro 0 false
def CH_IFLG_FLAGS : Fld := .mk 0x120 0 12 .ro 0 false
/-- CH_IFLG, as R105 of spec/04_taper_measurement.md lays it out. -/
def CH_IFLG : Reg := ⟨0x120, 4, [], fun _ => [CH_IFLG_SEQ, CH_IFLG_FLAGS]⟩

def CH_ICODE_CODE : Fld := .mk 0x124 0 32 .ro 0 false
/-- CH_ICODE, as R105 of spec/04_taper_measurement.md lays it out. -/
def CH_ICODE : Reg := ⟨0x124, 4, [], fun _ => [CH_ICODE_CODE]⟩

def CH_IDT_DT : Fld := .mk 0x128 0 64 .ro 0 false
/-- CH_IDT, as R105 of spec/04_taper_measurement.md lays it out. -/
def CH_IDT : Reg := ⟨0x128, 8, [], fun _ => [CH_IDT_DT]⟩

def CH_VOFS_OFS : Fld := .mk 0x130 0 32 .rwl 0 false
/-- CH_VOFS, as R105 of spec/04_taper_measurement.md lays it out. -/
def CH_VOFS : Reg := ⟨0x130, 4, [], fun _ => [CH_VOFS_OFS]⟩

def CH_VGAIN_GAIN : Fld := .mk 0x134 0 32 .rwl 0x40000000 false
/-- CH_VGAIN, as R105 of spec/04_taper_measurement.md lays it out. -/
def CH_VGAIN : Reg := ⟨0x134, 4, [], fun _ => [CH_VGAIN_GAIN]⟩

def CH_VDLY_DLY : Fld := .mk 0x138 0 32 .rwl 0 false
/-- CH_VDLY, as R105 of spec/04_taper_measurement.md lays it out. -/
def CH_VDLY : Reg := ⟨0x138, 4, [], fun _ => [CH_VDLY_DLY]⟩

def CH_IOFSH_OFS : Fld := .mk 0x140 0 32 .rwl 0 false
/-- CH_IOFSH, as R105 of spec/04_taper_measurement.md lays it out. -/
def CH_IOFSH : Reg := ⟨0x140, 4, [], fun _ => [CH_IOFSH_OFS]⟩

def CH_IGAINH_GAIN : Fld := .mk 0x144 0 32 .rwl 0x40000000 false
/-- CH_IGAINH, as R105 of spec/04_taper_measurement.md lays it out. -/
def CH_IGAINH : Reg := ⟨0x144, 4, [], fun _ => [CH_IGAINH_GAIN]⟩

def CH_IOFSL_OFS : Fld := .mk 0x148 0 32 .rwl 0 false
/-- CH_IOFSL, as R105 of spec/04_taper_measurement.md lays it out. -/
def CH_IOFSL : Reg := ⟨0x148, 4, [], fun _ => [CH_IOFSL_OFS]⟩

def CH_IGAINL_GAIN : Fld := .mk 0x14c 0 32 .rwl 0x40000000 false
/-- CH_IGAINL, as R105 of spec/04_taper_measurement.md lays it out. -/
def CH_IGAINL : Reg := ⟨0x14c, 4, [], fun _ => [CH_IGAINL_GAIN]⟩

def CH_IDLY_DLY : Fld := .mk 0x150 0 32 .rwl 0 false
/-- CH_IDLY, as R105 of spec/04_taper_measurement.md lays it out. -/
def CH_IDLY : Reg := ⟨0x150, 4, [], fun _ => [CH_IDLY_DLY]⟩

def CH_CALAGE_IAGE : Fld := .mk 0x158 16 16 .ro 0xffff false
def CH_CALAGE_VAGE : Fld := .mk 0x158 0 16 .ro 0xffff false
/-- CH_CALAGE, as R105 of spec/04_taper_measurement.md lays it out. -/
def CH_CALAGE : Reg := ⟨0x158, 4, [], fun _ => [CH_CALAGE_IAGE, CH_CALAGE_VAGE]⟩

def CH_VWCFG_HYST : Fld := .mk 0x180 8 4 .ro 0 false
def CH_VWCFG_LO_EDGE : Fld := .mk 0x180 6 2 .ro 0 false
def CH_VWCFG_LO_SNF : Fld := .mk 0x180 5 1 .ro 0 false
def CH_VWCFG_LO_EN : Fld := .mk 0x180 4 1 .ro 0 false
def CH_VWCFG_HI_EDGE : Fld := .mk 0x180 2 2 .ro 0 false
def CH_VWCFG_HI_SNF : Fld := .mk 0x180 1 1 .ro 0 false
def CH_VWCFG_HI_EN : Fld := .mk 0x180 0 1 .ro 0 false
/-- CH_VWCFG, as R126 of spec/05_window_comparators_timing.md lays it out. -/
def CH_VWCFG : Reg := ⟨0x180, 4, [], fun _ => [CH_VWCFG_HYST, CH_VWCFG_LO_EDGE, CH_VWCFG_LO_SNF, CH_VWCFG_LO_EN, CH_VWCFG_HI_EDGE, CH_VWCFG_HI_SNF, CH_VWCFG_HI_EN]⟩

def CH_IWCFG_HYST : Fld := .mk 0x188 8 4 .ro 0 false
def CH_IWCFG_LO_EDGE : Fld := .mk 0x188 6 2 .ro 0 false
def CH_IWCFG_LO_SNF : Fld := .mk 0x188 5 1 .ro 0 false
def CH_IWCFG_LO_EN : Fld := .mk 0x188 4 1 .ro 0 false
def CH_IWCFG_HI_EDGE : Fld := .mk 0x188 2 2 .ro 0 false
def CH_IWCFG_HI_SNF : Fld := .mk 0x188 1 1 .ro 0 false
def CH_IWCFG_HI_EN : Fld := .mk 0x188 0 1 .ro 0 false
/-- CH_IWCFG: the layout of CH_VWCFG for the I-input (R126). -/
def CH_IWCFG : Reg := ⟨0x188, 4, [], fun _ => [CH_IWCFG_HYST, CH_IWCFG_LO_EDGE, CH_IWCFG_LO_SNF, CH_IWCFG_LO_EN, CH_IWCFG_HI_EDGE, CH_IWCFG_HI_SNF, CH_IWCFG_HI_EN]⟩

def CH_VWTHR_HI : Fld := .mk 0x184 16 16 .ro 0x7fff false
def CH_VWTHR_LO : Fld := .mk 0x184 0 16 .ro 0x8000 false
/-- CH_VWTHR, as R126 of spec/05_window_comparators_timing.md lays it out. -/
def CH_VWTHR : Reg := ⟨0x184, 4, [], fun _ => [CH_VWTHR_HI, CH_VWTHR_LO]⟩

def CH_IWTHR_HI : Fld := .mk 0x18c 16 16 .ro 0x7fff false
def CH_IWTHR_LO : Fld := .mk 0x18c 0 16 .ro 0x8000 false
/-- CH_IWTHR: the layout of CH_VWTHR for the I-input (R126). -/
def CH_IWTHR : Reg := ⟨0x18c, 4, [], fun _ => [CH_IWTHR_HI, CH_IWTHR_LO]⟩

def CH_VSKEW_SKEW : Fld := .mk 0x190 0 32 .rwl 0 false
/-- CH_VSKEW, as R126 of spec/05_window_comparators_timing.md lays it out. -/
def CH_VSKEW : Reg := ⟨0x190, 4, [], fun _ => [CH_VSKEW_SKEW]⟩

def CH_ISKEW_SKEW : Fld := .mk 0x194 0 32 .rwl 0 false
/-- CH_ISKEW, as R126 of spec/05_window_comparators_timing.md lays it out. -/
def CH_ISKEW : Reg := ⟨0x194, 4, [], fun _ => [CH_ISKEW_SKEW]⟩

def CH_WSTATE_ICLAMP : Fld := .mk 0x198 7 1 .ro 0 false
def CH_WSTATE_VCLAMP : Fld := .mk 0x198 6 1 .ro 0 false
def CH_WSTATE_IMASK : Fld := .mk 0x198 5 1 .ro 0 false
def CH_WSTATE_VMASK : Fld := .mk 0x198 4 1 .ro 0 false
def CH_WSTATE_STATE : Fld := .mk 0x198 0 4 .ro 0 false
/-- CH_WSTATE, as R126 of spec/05_window_comparators_timing.md lays it out. -/
def CH_WSTATE : Reg := ⟨0x198, 4, [], fun _ => [CH_WSTATE_ICLAMP, CH_WSTATE_VCLAMP, CH_WSTATE_IMASK, CH_WSTATE_VMASK, CH_WSTATE_STATE]⟩

def CH_WFSTAT_LOST : Fld := .mk 0x19c 16 16 .rc 0 false
def CH_WFSTAT_COUNT : Fld := .mk 0x19c 0 5 .ro 0 false
/-- CH_WFSTAT, as R126 of spec/05_window_comparators_timing.md lays it out. -/
def CH_WFSTAT : Reg := ⟨0x19c, 4, [], fun _ => [CH_WFSTAT_LOST, CH_WFSTAT_COUNT]⟩

def CH_WFINFO_VALID : Fld := .mk 0x1a0 7 1 .ro 0 false
def CH_WFINFO_SNF : Fld := .mk 0x1a0 6 1 .ro 0 false
def CH_WFINFO_LEVEL : Fld := .mk 0x1a0 5 1 .ro 0 false
def CH_WFINFO_UNC : Fld := .mk 0x1a0 4 1 .ro 0 false
def CH_WFINFO_MERGED : Fld := .mk 0x1a0 3 1 .ro 0 false
def CH_WFINFO_INTO : Fld := .mk 0x1a0 2 1 .ro 0 false
def CH_WFINFO_COMP : Fld := .mk 0x1a0 0 2 .ro 0 false
/-- CH_WFINFO, as R126 of spec/05_window_comparators_timing.md lays it out. -/
def CH_WFINFO : Reg := ⟨0x1a0, 4, [], fun _ => [CH_WFINFO_VALID, CH_WFINFO_SNF, CH_WFINFO_LEVEL, CH_WFINFO_UNC, CH_WFINFO_MERGED, CH_WFINFO_INTO, CH_WFINFO_COMP]⟩

def CH_WFDT_DT : Fld := .mk 0x1a8 0 64 .ro 0 false
/-- CH_WFDT, as R126 of spec/05_window_comparators_timing.md lays it out. -/
def CH_WFDT : Reg := ⟨0x1a8, 8, [], fun _ => [CH_WFDT_DT]⟩

def SET_MODE_UNC : Fld := .mk 0x0 31 1 .ro 0 false
def SET_MODE_LOOP : Fld := .mk 0x0 24 6 .ro 0 false
def SET_MODE_ENDACT : Fld := .mk 0x0 22 1 .ro 0 false
def SET_MODE_HOLDEN : Fld := .mk 0x0 21 1 .ro 0 false
def SET_MODE_IRANGE : Fld := .mk 0x0 20 1 .ro 0 false
def SET_MODE_ESET : Fld := .mk 0x0 16 4 .ro 0 false
def SET_MODE_XSET : Fld := .mk 0x0 12 4 .ro 0 false
def SET_MODE_LSET : Fld := .mk 0x0 8 4 .ro 0 false
def SET_MODE_FMT : Fld := .mk 0x0 4 4 .ro 0 false
def SET_MODE_MODE : Fld := .mk 0x0 0 4 .ro 0 false
/-- SET_MODE, as R154 of spec/06_regulation_formats_timing.md lays it out. -/
def SET_MODE : Reg := ⟨0x0, 4, [], fun _ => [SET_MODE_UNC, SET_MODE_LOOP, SET_MODE_ENDACT, SET_MODE_HOLDEN, SET_MODE_IRANGE, SET_MODE_ESET, SET_MODE_XSET, SET_MODE_LSET, SET_MODE_FMT, SET_MODE_MODE]⟩

def SET_SP_V (i : Nat) : Fld := .mk (0x4 + 0x4 * i) 0 32 .ro 0 false
/-- SET_SP, as R154 of spec/06_regulation_formats_timing.md lays it out. -/
def SET_SP : Reg := ⟨0x4, 4, [(0x4, 4)], fun ix => let i := ix.getD 0 0; [SET_SP_V i]⟩

def SET_LW_W (i : Nat) : Fld := .mk (0x14 + 0x4 * i) 0 32 .ro 0 false
/-- SET_LW, as R154 of spec/06_regulation_formats_timing.md lays it out. -/
def SET_LW : Reg := ⟨0x14, 4, [(0x4, 8)], fun ix => let i := ix.getD 0 0; [SET_LW_W i]⟩

def SET_FW_W (i : Nat) : Fld := .mk (0x34 + 0x4 * i) 0 32 .ro 0 false
/-- SET_FW, as R154 of spec/06_regulation_formats_timing.md lays it out. -/
def SET_FW : Reg := ⟨0x34, 4, [(0x4, 16)], fun ix => let i := ix.getD 0 0; [SET_FW_W i]⟩

def CH_PSSHUNT_SHUNT (r : Nat) : Fld := .mk (0x300 + 0x8 * r) 0 32 .rwl 0 false
/-- CH_PSSHUNT, as R155 of spec/06_regulation_formats_timing.md lays it out. -/
def CH_PSSHUNT : Reg := ⟨0x300, 4, [(0x8, 4)], fun ix => let r := ix.getD 0 0; [CH_PSSHUNT_SHUNT r]⟩

def CH_PSFS_FS (r : Nat) : Fld := .mk (0x304 + 0x8 * r) 0 32 .rwl 0 false
/-- CH_PSFS, as R155 of spec/06_regulation_formats_timing.md lays it out. -/
def CH_PSFS : Reg := ⟨0x304, 4, [(0x8, 4)], fun ix => let r := ix.getD 0 0; [CH_PSFS_FS r]⟩

def CH_ESDT_DT (j : Nat) : Fld := .mk (0x320 + 0x10 * j) 0 64 .rw 0 false
/-- CH_ESDT, as R155 of spec/06_regulation_formats_timing.md lays it out. -/
def CH_ESDT : Reg := ⟨0x320, 8, [(0x10, 4)], fun ix => let j := ix.getD 0 0; [CH_ESDT_DT j]⟩

def CH_ESCTL_SYNCNO (j : Nat) : Fld := .mk (0x328 + 0x10 * j) 16 8 .rw 0 false
def CH_ESCTL_LATE (j : Nat) : Fld := .mk (0x328 + 0x10 * j) 10 1 .w1c 0 false
def CH_ESCTL_FIRED (j : Nat) : Fld := .mk (0x328 + 0x10 * j) 9 1 .w1c 0 false
def CH_ESCTL_ARMED (j : Nat) : Fld := .mk (0x328 + 0x10 * j) 8 1 .ro 0 false
def CH_ESCTL_ACT (j : Nat) : Fld := .mk (0x328 + 0x10 * j) 0 2 .rw 0 false
/-- CH_ESCTL, as R155 of spec/06_regulation_formats_timing.md lays it out. -/
def CH_ESCTL : Reg := ⟨0x328, 4, [(0x10, 4)], fun ix => let j := ix.getD 0 0; [CH_ESCTL_SYNCNO j, CH_ESCTL_LATE j, CH_ESCTL_FIRED j, CH_ESCTL_ARMED j, CH_ESCTL_ACT j]⟩

def CH_DDSKEW_FRAMES : Fld := .mk 0x360 0 8 .rwl 0 false
/-- CH_DDSKEW, as R155 of spec/06_regulation_formats_timing.md lays it out. -/
def CH_DDSKEW : Reg := ⟨0x360, 4, [], fun _ => [CH_DDSKEW_FRAMES]⟩

def CH_QSTEP_NC : Fld := .mk 0x380 0 64 .ro 0 false
/-- CH_QSTEP, as R155 of spec/06_regulation_formats_timing.md lays it out. -/
def CH_QSTEP : Reg := ⟨0x380, 8, [], fun _ => [CH_QSTEP_NC]⟩

def CH_ESTEP_NJ : Fld := .mk 0x388 0 64 .ro 0 false
/-- CH_ESTEP, as R155 of spec/06_regulation_formats_timing.md lays it out. -/
def CH_ESTEP : Reg := ⟨0x388, 8, [], fun _ => [CH_ESTEP_NJ]⟩

def CH_QTOT_NC : Fld := .mk 0x390 0 64 .ro 0 false
/-- CH_QTOT, as R155 of spec/06_regulation_formats_timing.md lays it out. -/
def CH_QTOT : Reg := ⟨0x390, 8, [], fun _ => [CH_QTOT_NC]⟩

def CH_ETOT_NJ : Fld := .mk 0x398 0 64 .ro 0 false
/-- CH_ETOT, as R155 of spec/06_regulation_formats_timing.md lays it out. -/
def CH_ETOT : Reg := ⟨0x398, 8, [], fun _ => [CH_ETOT_NJ]⟩

def CH_TSTART_DT : Fld := .mk 0x3a0 0 64 .ro 0 false
/-- CH_TSTART, as R155 of spec/06_regulation_formats_timing.md lays it out. -/
def CH_TSTART : Reg := ⟨0x3a0, 8, [], fun _ => [CH_TSTART_DT]⟩

def CH_ACCCTL_CLRTOT : Fld := .mk 0x3a8 0 1 .w1s 0 false
/-- CH_ACCCTL, as R155 of spec/06_regulation_formats_timing.md lays it out. -/
def CH_ACCCTL : Reg := ⟨0x3a8, 4, [], fun _ => [CH_ACCCTL_CLRTOT]⟩

def CH_RSTAT_CAUSE : Fld := .mk 0x3b0 16 4 .ro 0 false
def CH_RSTAT_NOPEND : Fld := .mk 0x3b0 13 1 .w1c 0 false
def CH_RSTAT_MODEERR : Fld := .mk 0x3b0 12 1 .w1c 0 false
def CH_RSTAT_SATV : Fld := .mk 0x3b0 11 1 .ro 0 false
def CH_RSTAT_SATI : Fld := .mk 0x3b0 10 1 .ro 0 false
def CH_RSTAT_PSR : Fld := .mk 0x3b0 8 2 .ro 0 false
def CH_RSTAT_QGAP : Fld := .mk 0x3b0 7 1 .w1c 0 false
def CH_RSTAT_NSOVL : Fld := .mk 0x3b0 6 1 .ro 0 false
def CH_RSTAT_FROZEN : Fld := .mk 0x3b0 5 1 .ro 0 false
def CH_RSTAT_CVPH : Fld := .mk 0x3b0 4 1 .ro 0 false
def CH_RSTAT_ENDED : Fld := .mk 0x3b0 3 1 .ro 0 false
def CH_RSTAT_PEND : Fld := .mk 0x3b0 1 1 .ro 0 false
def CH_RSTAT_STEP_TRANSITION : Fld := .mk 0x3b0 0 1 .ro 0 false
/-- CH_RSTAT, as R155 of spec/06_regulation_formats_timing.md lays it out. -/
def CH_RSTAT : Reg := ⟨0x3b0, 4, [], fun _ => [CH_RSTAT_CAUSE, CH_RSTAT_NOPEND, CH_RSTAT_MODEERR, CH_RSTAT_SATV, CH_RSTAT_SATI, CH_RSTAT_PSR, CH_RSTAT_QGAP, CH_RSTAT_NSOVL, CH_RSTAT_FROZEN, CH_RSTAT_CVPH, CH_RSTAT_ENDED, CH_RSTAT_PEND, CH_RSTAT_STEP_TRANSITION]⟩

def CH_ENDMASK_MASK : Fld := .mk 0x3b4 0 16 .ro 0 false
/-- CH_ENDMASK, as R155 of spec/06_regulation_formats_timing.md lays it out. -/
def CH_ENDMASK : Reg := ⟨0x3b4, 4, [], fun _ => [CH_ENDMASK_MASK]⟩

def CH_DENS_D : Fld := .mk 0x3b8 0 32 .ro 0 false
/-- CH_DENS, as R155 of spec/06_regulation_formats_timing.md lays it out. -/
def CH_DENS : Reg := ⟨0x3b8, 4, [], fun _ => [CH_DENS_D]⟩

def CH_ENDDT_DT : Fld := .mk 0x3c0 0 64 .ro 0 false
/-- CH_ENDDT, as R155 of spec/06_regulation_formats_timing.md lays it out. -/
def CH_ENDDT : Reg := ⟨0x3c0, 8, [], fun _ => [CH_ENDDT_DT]⟩

def CH_ZSTAT_PER : Fld := .mk 0x400 16 16 .ro 0 false
def CH_ZSTAT_FREQERR : Fld := .mk 0x400 3 1 .w1c 0 false
def CH_ZSTAT_LOWN : Fld := .mk 0x400 2 1 .w1c 0 false
def CH_ZSTAT_DONE : Fld := .mk 0x400 1 1 .w1c 0 false
def CH_ZSTAT_BUSY : Fld := .mk 0x400 0 1 .ro 0 false
/-- CH_ZSTAT, as R156 of spec/06_regulation_formats_timing.md lays it out. -/
def CH_ZSTAT : Reg := ⟨0x400, 4, [], fun _ => [CH_ZSTAT_PER, CH_ZSTAT_FREQERR, CH_ZSTAT_LOWN, CH_ZSTAT_DONE, CH_ZSTAT_BUSY]⟩

def CH_PHVRE_VAL : Fld := .mk 0x408 0 64 .ro 0 false
/-- CH_PHVRE, as R156 of spec/06_regulation_formats_timing.md lays it out. -/
def CH_PHVRE : Reg := ⟨0x408, 8, [], fun _ => [CH_PHVRE_VAL]⟩

def CH_PHVIM_VAL : Fld := .mk 0x410 0 64 .ro 0 false
/-- CH_PHVIM, as R156 of spec/06_regulation_formats_timing.md lays it out. -/
def CH_PHVIM : Reg := ⟨0x410, 8, [], fun _ => [CH_PHVIM_VAL]⟩

def CH_PHIRE_VAL : Fld := .mk 0x418 0 64 .ro 0 false
/-- CH_PHIRE, as R156 of spec/06_regulation_formats_timing.md lays it out. -/
def CH_PHIRE : Reg := ⟨0x418, 8, [], fun _ => [CH_PHIRE_VAL]⟩

def CH_PHIIM_VAL : Fld := .mk 0x420 0 64 .ro 0 false
/-- CH_PHIIM, as R156 of spec/06_regulation_formats_timing.md lays it out. -/
def CH_PHIIM : Reg := ⟨0x420, 8, [], fun _ => [CH_PHIIM_VAL]⟩

def CH_ZRE_NOHM : Fld := .mk 0x428 0 32 .ro 0 false
/-- CH_ZRE, as R156 of spec/06_regulation_formats_timing.md lays it out. -/
def CH_ZRE : Reg := ⟨0x428, 4, [], fun _ => [CH_ZRE_NOHM]⟩

def CH_ZIM_NOHM : Fld := .mk 0x42c 0 32 .ro 0 false
/-- CH_ZIM, as R156 of spec/06_regulation_formats_timing.md lays it out. -/
def CH_ZIM : Reg := ⟨0x42c, 4, [], fun _ => [CH_ZIM_NOHM]⟩

def CH_ZMAG_NOHM : Fld := .mk 0x430 0 32 .ro 0 false
/-- CH_ZMAG, as R156 of spec/06_regulation_formats_timing.md lays it out. -/
def CH_ZMAG : Reg := ⟨0x430, 4, [], fun _ => [CH_ZMAG_NOHM]⟩

def CH_ZCNT_NI : Fld := .mk 0x434 16 16 .ro 0 false
def CH_ZCNT_NV : Fld := .mk 0x434 0 16 .ro 0 false
/-- CH_ZCNT, as R156 of spec/06_regulation_formats_timing.md lays it out. -/
def CH_ZCNT : Reg := ⟨0x434, 4, [], fun _ => [CH_ZCNT_NI, CH_ZCNT_NV]⟩

def GRP_DLCFG_SSTART : Fld := .mk 0x0 16 16 .rwl 0 false
def GRP_DLCFG_POL : Fld := .mk 0x0 0 8 .rwl 0 false
/-- GRP_DLCFG, as R179 of spec/07_drive_lane_snuffer.md lays it out. -/
def GRP_DLCFG : Reg := ⟨0x0, 4, [], fun _ => [GRP_DLCFG_SSTART, GRP_DLCFG_POL]⟩

def GRP_DLCMD_IDOFF : Fld := .mk 0x4 8 8 .wo 0 false
def GRP_DLCMD_IDON : Fld := .mk 0x4 0 8 .wo 0 false
/-- GRP_DLCMD, as R179 of spec/07_drive_lane_snuffer.md lays it out. -/
def GRP_DLCMD : Reg := ⟨0x4, 4, [], fun _ => [GRP_DLCMD_IDOFF, GRP_DLCMD_IDON]⟩

def GRP_DLSTAT_SFSEQ : Fld := .mk 0x8 16 16 .ro 0 false
def GRP_DLSTAT_SETUPPEND : Fld := .mk 0x8 8 8 .ro 0 false
def GRP_DLSTAT_RUN : Fld := .mk 0x8 0 8 .ro 0 false
/-- GRP_DLSTAT, as R179 of spec/07_drive_lane_snuffer.md lays it out. -/
def GRP_DLSTAT : Reg := ⟨0x8, 4, [], fun _ => [GRP_DLSTAT_SFSEQ, GRP_DLSTAT_SETUPPEND, GRP_DLSTAT_RUN]⟩

def GRP_SLCFG_HBCHK : Fld := .mk 0xc 8 1 .rwl 1 false
def GRP_SLCFG_TMAX : Fld := .mk 0xc 0 8 .rwl 0xdc false
/-- GRP_SLCFG, as R179 of spec/07_drive_lane_snuffer.md lays it out. -/
def GRP_SLCFG : Reg := ⟨0xc, 4, [], fun _ => [GRP_SLCFG_HBCHK, GRP_SLCFG_TMAX]⟩

def GRP_SLSTAT_TAG : Fld := .mk 0x10 24 8 .ro 0 false
def GRP_SLSTAT_FAULT : Fld := .mk 0x10 16 8 .ro 0 false
def GRP_SLSTAT_TEMP : Fld := .mk 0x10 8 8 .ro 0 false
def GRP_SLSTAT_IDACT : Fld := .mk 0x10 4 1 .ro 0 false
def GRP_SLSTAT_TWARN : Fld := .mk 0x10 3 1 .ro 0 false
def GRP_SLSTAT_READY : Fld := .mk 0x10 2 1 .ro 0 false
def GRP_SLSTAT_HBOK : Fld := .mk 0x10 1 1 .ro 0 false
def GRP_SLSTAT_LOCK : Fld := .mk 0x10 0 1 .ro 0 false
/-- GRP_SLSTAT, as R179 of spec/07_drive_lane_snuffer.md lays it out. -/
def GRP_SLSTAT : Reg := ⟨0x10, 4, [], fun _ => [GRP_SLSTAT_TAG, GRP_SLSTAT_FAULT, GRP_SLSTAT_TEMP, GRP_SLSTAT_IDACT, GRP_SLSTAT_TWARN, GRP_SLSTAT_READY, GRP_SLSTAT_HBOK, GRP_SLSTAT_LOCK]⟩

def GRP_SLRANGE_ECHO : Fld := .mk 0x14 24 8 .ro 0 false
def GRP_SLRANGE_RANGE : Fld := .mk 0x14 0 16 .ro 0 false
/-- GRP_SLRANGE, as R179 of spec/07_drive_lane_snuffer.md lays it out. -/
def GRP_SLRANGE : Reg := ⟨0x14, 4, [], fun _ => [GRP_SLRANGE_ECHO, GRP_SLRANGE_RANGE]⟩

def GRP_SLCNT_CRCERR : Fld := .mk 0x18 16 16 .rc 0 false
def GRP_SLCNT_LOCKLOSS : Fld := .mk 0x18 0 16 .rc 0 false
/-- GRP_SLCNT, as R179 of spec/07_drive_lane_snuffer.md lays it out. -/
def GRP_SLCNT : Reg := ⟨0x18, 4, [], fun _ => [GRP_SLCNT_CRCERR, GRP_SLCNT_LOCKLOSS]⟩

def GRP_SLDESC_DESC (i : Nat) : Fld := .mk (0x20 + 0x4 * i) 0 32 .ro 0 false
/-- GRP_SLDESC, as R179 of spec/07_drive_lane_snuffer.md lays it out. -/
def GRP_SLDESC : Reg := ⟨0x20, 4, [(0x4, 4)], fun ix => let i := ix.getD 0 0; [GRP_SLDESC_DESC i]⟩

def CH_SNFSTAT_REJ : Fld := .mk 0x480 3 1 .w1c 0 false
def CH_SNFSTAT_EN : Fld := .mk 0x480 2 1 .ro 0 false
def CH_SNFSTAT_ACTIVE : Fld := .mk 0x480 1 1 .ro 0 false
def CH_SNFSTAT_SNUFFED : Fld := .mk 0x480 0 1 .ro 0 false
/-- CH_SNFSTAT, as R180 of spec/07_drive_lane_snuffer.md lays it out. -/
def CH_SNFSTAT : Reg := ⟨0x480, 4, [], fun _ => [CH_SNFSTAT_REJ, CH_SNFSTAT_EN, CH_SNFSTAT_ACTIVE, CH_SNFSTAT_SNUFFED]⟩

def CH_SNFCAUSE_CAUSE : Fld := .mk 0x484 0 22 .w1c 0 false
/-- CH_SNFCAUSE, as R180 of spec/07_drive_lane_snuffer.md lays it out. -/
def CH_SNFCAUSE : Reg := ⟨0x484, 4, [], fun _ => [CH_SNFCAUSE_CAUSE]⟩

def CH_SNFFIRST_VALID : Fld := .mk 0x488 31 1 .ro 0 false
def CH_SNFFIRST_CAUSE : Fld := .mk 0x488 0 5 .ro 0 false
/-- CH_SNFFIRST, as R180 of spec/07_drive_lane_snuffer.md lays it out. -/
def CH_SNFFIRST : Reg := ⟨0x488, 4, [], fun _ => [CH_SNFFIRST_VALID, CH_SNFFIRST_CAUSE]⟩

def CH_SNFDT_DT : Fld := .mk 0x490 0 64 .ro 0 false
/-- CH_SNFDT, as R180 of spec/07_drive_lane_snuffer.md lays it out. -/
def CH_SNFDT : Reg := ⟨0x490, 8, [], fun _ => [CH_SNFDT_DT]⟩

def CH_SNFCTL_SNUFF : Fld := .mk 0x498 1 1 .w1s 0 false
def CH_SNFCTL_REARM : Fld := .mk 0x498 0 1 .w1s 0 false
/-- CH_SNFCTL, as R180 of spec/07_drive_lane_snuffer.md lays it out. -/
def CH_SNFCTL : Reg := ⟨0x498, 4, [], fun _ => [CH_SNFCTL_SNUFF, CH_SNFCTL_REARM]⟩

def CH_PSCTL_SOFT : Fld := .mk 0x4a0 16 16 .rw 0 false
def CH_PSCTL_TAG : Fld := .mk 0x4a0 8 8 .ro 0 false
def CH_PSCTL_TMO : Fld := .mk 0x4a0 3 1 .w1c 0 false
def CH_PSCTL_BUSY : Fld := .mk 0x4a0 2 1 .ro 0 false
def CH_PSCTL_TARGET : Fld := .mk 0x4a0 0 2 .ro 0 false
/-- CH_PSCTL, as R180 of spec/07_drive_lane_snuffer.md lays it out. -/
def CH_PSCTL : Reg := ⟨0x4a0, 4, [], fun _ => [CH_PSCTL_SOFT, CH_PSCTL_TAG, CH_PSCTL_TMO, CH_PSCTL_BUSY, CH_PSCTL_TARGET]⟩

def CH_XSTAT_FAILED : Fld := .mk 0x500 16 16 .ro 0 false
def CH_XSTAT_XSNF : Fld := .mk 0x500 9 1 .ro 0 false
def CH_XSTAT_XABORT : Fld := .mk 0x500 8 1 .ro 0 false
def CH_XSTAT_XID : Fld := .mk 0x500 0 4 .ro 0 false
/-- CH_XSTAT, as R240 of spec/09_step_measure_instructions.md lays it out. -/
def CH_XSTAT : Reg := ⟨0x500, 4, [], fun _ => [CH_XSTAT_FAILED, CH_XSTAT_XSNF, CH_XSTAT_XABORT, CH_XSTAT_XID]⟩

def CH_STEPIDX_IDX : Fld := .mk 0x504 0 32 .rw 0 false
/-- CH_STEPIDX, as R240 of spec/09_step_measure_instructions.md lays it out. -/
def CH_STEPIDX : Reg := ⟨0x504, 4, [], fun _ => [CH_STEPIDX_IDX]⟩

def CH_MSTAT_IDONE : Fld := .mk 0x508 3 1 .ro 0 false
def CH_MSTAT_VDONE : Fld := .mk 0x508 2 1 .ro 0 false
def CH_MSTAT_IBUSY : Fld := .mk 0x508 1 1 .ro 0 false
def CH_MSTAT_VBUSY : Fld := .mk 0x508 0 1 .ro 0 false
/-- CH_MSTAT, as R240 of spec/09_step_measure_instructions.md lays it out. -/
def CH_MSTAT : Reg := ⟨0x508, 4, [], fun _ => [CH_MSTAT_IDONE, CH_MSTAT_VDONE, CH_MSTAT_IBUSY, CH_MSTAT_VBUSY]⟩

def CH_MVRES_CODE : Fld := .mk 0x510 0 64 .ro 0 false
/-- CH_MVRES, as R240 of spec/09_step_measure_instructions.md lays it out. -/
def CH_MVRES : Reg := ⟨0x510, 8, [], fun _ => [CH_MVRES_CODE]⟩

def CH_MIRES_CODE : Fld := .mk 0x530 0 64 .ro 0 false
/-- CH_MIRES: the layout of CH_MVRES for the I-input (R240). -/
def CH_MIRES : Reg := ⟨0x530, 8, [], fun _ => [CH_MIRES_CODE]⟩

def CH_MVINFO_INFO : Fld := .mk 0x518 0 64 .ro 0 false
/-- CH_MVINFO, as R240 of spec/09_step_measure_instructions.md lays it out. -/
def CH_MVINFO : Reg := ⟨0x518, 8, [], fun _ => [CH_MVINFO_INFO]⟩

def CH_MIINFO_INFO : Fld := .mk 0x538 0 64 .ro 0 false
/-- CH_MIINFO: the layout of CH_MVINFO for the I-input (R240). -/
def CH_MIINFO : Reg := ⟨0x538, 8, [], fun _ => [CH_MIINFO_INFO]⟩

def CH_MVFIRST_DT : Fld := .mk 0x520 0 64 .ro 0 false
/-- CH_MVFIRST, as R240 of spec/09_step_measure_instructions.md lays it out. -/
def CH_MVFIRST : Reg := ⟨0x520, 8, [], fun _ => [CH_MVFIRST_DT]⟩

def CH_MIFIRST_DT : Fld := .mk 0x540 0 64 .ro 0 false
/-- CH_MIFIRST: the layout of CH_MVFIRST for the I-input (R240). -/
def CH_MIFIRST : Reg := ⟨0x540, 8, [], fun _ => [CH_MIFIRST_DT]⟩

def CH_MVLAST_DT : Fld := .mk 0x528 0 64 .ro 0 false
/-- CH_MVLAST, as R240 of spec/09_step_measure_instructions.md lays it out. -/
def CH_MVLAST : Reg := ⟨0x528, 8, [], fun _ => [CH_MVLAST_DT]⟩

def CH_MILAST_DT : Fld := .mk 0x548 0 64 .ro 0 false
/-- CH_MILAST: the layout of CH_MVLAST for the I-input (R240). -/
def CH_MILAST : Reg := ⟨0x548, 8, [], fun _ => [CH_MILAST_DT]⟩

def CH_STCFG_UREVT : Fld := .mk 0x580 6 1 .rw 1 false
def CH_STCFG_WMEVT : Fld := .mk 0x580 5 1 .rw 0 false
def CH_STCFG_CATCHUP : Fld := .mk 0x580 4 1 .rw 0 false
def CH_STCFG_POLICY : Fld := .mk 0x580 3 1 .rw 0 false
def CH_STCFG_INTERP : Fld := .mk 0x580 1 2 .rw 1 false
def CH_STCFG_KIND : Fld := .mk 0x580 0 1 .rw 0 false
/-- CH_STCFG, as R309 of spec/12_streamed_profiles.md lays it out. -/
def CH_STCFG : Reg := ⟨0x580, 4, [], fun _ => [CH_STCFG_UREVT, CH_STCFG_WMEVT, CH_STCFG_CATCHUP, CH_STCFG_POLICY, CH_STCFG_INTERP, CH_STCFG_KIND]⟩

def CH_STBASE_BASE : Fld := .mk 0x584 0 32 .rw 0 false
/-- CH_STBASE, as R309 of spec/12_streamed_profiles.md lays it out. -/
def CH_STBASE : Reg := ⟨0x584, 4, [], fun _ => [CH_STBASE_BASE]⟩

def CH_STSIZE_SIZE : Fld := .mk 0x588 0 32 .rw 0 false
/-- CH_STSIZE, as R309 of spec/12_streamed_profiles.md lays it out. -/
def CH_STSIZE : Reg := ⟨0x588, 4, [], fun _ => [CH_STSIZE_SIZE]⟩

def CH_STPER_TICKS : Fld := .mk 0x590 0 64 .rw 0x640 false
/-- CH_STPER, as R309 of spec/12_streamed_profiles.md lays it out. -/
def CH_STPER : Reg := ⟨0x590, 8, [], fun _ => [CH_STPER_TICKS]⟩

def CH_STSAFE_LEVEL : Fld := .mk 0x598 0 32 .rw 0 false
/-- CH_STSAFE, as R309 of spec/12_streamed_profiles.md lays it out. -/
def CH_STSAFE : Reg := ⟨0x598, 4, [], fun _ => [CH_STSAFE_LEVEL]⟩

def CH_STWM_ENTRIES : Fld := .mk 0x59c 0 32 .rw 0 false
/-- CH_STWM, as R309 of spec/12_streamed_profiles.md lays it out. -/
def CH_STWM : Reg := ⟨0x59c, 4, [], fun _ => [CH_STWM_ENTRIES]⟩

def CH_STWR_IDX : Fld := .mk 0x5a0 0 32 .rw 0 false
/-- CH_STWR, as R309 of spec/12_streamed_profiles.md lays it out. -/
def CH_STWR : Reg := ⟨0x5a0, 4, [], fun _ => [CH_STWR_IDX]⟩

def CH_STRD_IDX : Fld := .mk 0x5a4 0 32 .ro 0 false
/-- CH_STRD, as R309 of spec/12_streamed_profiles.md lays it out. -/
def CH_STRD : Reg := ⟨0x5a4, 4, [], fun _ => [CH_STRD_IDX]⟩

def CH_STRET_IDX : Fld := .mk 0x5a8 0 32 .ro 0 false
/-- CH_STRET, as R309 of spec/12_streamed_profiles.md lays it out. -/
def CH_STRET : Reg := ⟨0x5a8, 4, [], fun _ => [CH_STRET_IDX]⟩

def CH_STCMD_SEGNO : Fld := .mk 0x5ac 8 8 .wo 0 false
def CH_STCMD_WHEN : Fld := .mk 0x5ac 3 1 .wo 0 false
def CH_STCMD_JUMP : Fld := .mk 0x5ac 2 1 .wo 0 false
def CH_STCMD_GO : Fld := .mk 0x5ac 0 1 .wo 0 false
/-- CH_STCMD, as R309 of spec/12_streamed_profiles.md lays it out. -/
def CH_STCMD : Reg := ⟨0x5ac, 4, [], fun _ => [CH_STCMD_SEGNO, CH_STCMD_WHEN, CH_STCMD_JUMP, CH_STCMD_GO]⟩

def CH_STSTAT_RDERR : Fld := .mk 0x5b0 10 1 .w1c 0 false
def CH_STSTAT_LOWWM : Fld := .mk 0x5b0 9 1 .ro 0 false
def CH_STSTAT_CFGREJ : Fld := .mk 0x5b0 8 1 .w1c 0 false
def CH_STSTAT_WRERR : Fld := .mk 0x5b0 7 1 .w1c 0 false
def CH_STSTAT_FMTERR : Fld := .mk 0x5b0 6 1 .w1c 0 false
def CH_STSTAT_JPEND : Fld := .mk 0x5b0 5 1 .ro 0 false
def CH_STSTAT_JMISS : Fld := .mk 0x5b0 4 1 .w1c 0 false
def CH_STSTAT_URF : Fld := .mk 0x5b0 3 1 .w1c 0 false
def CH_STSTAT_UNDERRUN : Fld := .mk 0x5b0 2 1 .ro 0 false
def CH_STSTAT_WAITING : Fld := .mk 0x5b0 1 1 .ro 0 false
def CH_STSTAT_PLAY : Fld := .mk 0x5b0 0 1 .ro 0 false
/-- CH_STSTAT, as R309 of spec/12_streamed_profiles.md lays it out. -/
def CH_STSTAT : Reg := ⟨0x5b0, 4, [], fun _ => [CH_STSTAT_RDERR, CH_STSTAT_LOWWM, CH_STSTAT_CFGREJ, CH_STSTAT_WRERR, CH_STSTAT_FMTERR, CH_STSTAT_JPEND, CH_STSTAT_JMISS, CH_STSTAT_URF, CH_STSTAT_UNDERRUN, CH_STSTAT_WAITING, CH_STSTAT_PLAY]⟩

def CH_STPOS_SEGNO : Fld := .mk 0x5b4 24 8 .ro 0 false
def CH_STPOS_SAMPLE : Fld := .mk 0x5b4 0 24 .ro 0 false
/-- CH_STPOS, as R309 of spec/12_streamed_profiles.md lays it out. -/
def CH_STPOS : Reg := ⟨0x5b4, 4, [], fun _ => [CH_STPOS_SEGNO, CH_STPOS_SAMPLE]⟩

def CH_STPASS_LEFT : Fld := .mk 0x5b8 0 16 .ro 0 false
/-- CH_STPASS, as R309 of spec/12_streamed_profiles.md lays it out. -/
def CH_STPASS : Reg := ⟨0x5b8, 4, [], fun _ => [CH_STPASS_LEFT]⟩

def CH_STSLIP_TICKS : Fld := .mk 0x5c0 0 64 .ro 0 false
/-- CH_STSLIP, as R309 of spec/12_streamed_profiles.md lays it out. -/
def CH_STSLIP : Reg := ⟨0x5c0, 8, [], fun _ => [CH_STSLIP_TICKS]⟩

def CH_STLSLIP_TICKS : Fld := .mk 0x5c8 0 64 .ro 0 false
/-- CH_STLSLIP, as R309 of spec/12_streamed_profiles.md lays it out. -/
def CH_STLSLIP : Reg := ⟨0x5c8, 8, [], fun _ => [CH_STLSLIP_TICKS]⟩

def CH_STCNT_UNDERRUNS : Fld := .mk 0x5d0 0 16 .rc 0 false
/-- CH_STCNT, as R309 of spec/12_streamed_profiles.md lays it out. -/
def CH_STCNT : Reg := ⟨0x5d0, 4, [], fun _ => [CH_STCNT_UNDERRUNS]⟩

def CH_STSKIP_CNT : Fld := .mk 0x5d4 0 32 .rc 0 false
/-- CH_STSKIP, as R309 of spec/12_streamed_profiles.md lays it out. -/
def CH_STSKIP : Reg := ⟨0x5d4, 4, [], fun _ => [CH_STSKIP_CNT]⟩

def CH_STURDT_DT : Fld := .mk 0x5d8 0 64 .ro 0 false
/-- CH_STURDT, as R309 of spec/12_streamed_profiles.md lays it out. -/
def CH_STURDT : Reg := ⟨0x5d8, 8, [], fun _ => [CH_STURDT_DT]⟩

def CH_MWSTAT_WSEQ : Fld := .mk 0x600 8 8 .ro 0 false
def CH_MWSTAT_QUEUED : Fld := .mk 0x600 6 2 .ro 0 false
def CH_MWSTAT_GUARDED : Fld := .mk 0x600 5 1 .ro 0 false
def CH_MWSTAT_COAST : Fld := .mk 0x600 4 1 .ro 0 false
def CH_MWSTAT_CPLOSS : Fld := .mk 0x600 3 1 .ro 0 false
def CH_MWSTAT_NOCONTACT : Fld := .mk 0x600 2 1 .ro 0 false
def CH_MWSTAT_OPEN : Fld := .mk 0x600 0 1 .ro 0 false
/-- CH_MWSTAT, as R340 of spec/13_motion_grading.md lays it out. -/
def CH_MWSTAT : Reg := ⟨0x600, 4, [], fun _ => [CH_MWSTAT_WSEQ, CH_MWSTAT_QUEUED, CH_MWSTAT_GUARDED, CH_MWSTAT_COAST, CH_MWSTAT_CPLOSS, CH_MWSTAT_NOCONTACT, CH_MWSTAT_OPEN]⟩

def CH_MWOPEN_DT : Fld := .mk 0x608 0 64 .ro 0 false
/-- CH_MWOPEN, as R340 of spec/13_motion_grading.md lays it out. -/
def CH_MWOPEN : Reg := ⟨0x608, 8, [], fun _ => [CH_MWOPEN_DT]⟩

def CH_MWCLOSE_DT : Fld := .mk 0x610 0 64 .ro 0 false
/-- CH_MWCLOSE, as R340 of spec/13_motion_grading.md lays it out. -/
def CH_MWCLOSE : Reg := ⟨0x610, 8, [], fun _ => [CH_MWCLOSE_DT]⟩

def CH_MWPOS_POS : Fld := .mk 0x618 0 64 .ro 0 false
/-- CH_MWPOS, as R340 of spec/13_motion_grading.md lays it out. -/
def CH_MWPOS : Reg := ⟨0x618, 8, [], fun _ => [CH_MWPOS_POS]⟩

/-- Every register of the unit, for access by address. -/
def grpRegs : List Reg :=
  [GRP_DLCFG, GRP_DLCMD, GRP_DLSTAT, GRP_SLCFG, GRP_SLSTAT, GRP_SLRANGE, GRP_SLCNT, GRP_SLDESC]

/-- Every register of the unit, for access by address. -/
def chRegs : List Reg :=
  [CH_MCTL, CH_VFLG, CH_VCODE, CH_VDT, CH_IFLG, CH_ICODE, CH_IDT, CH_VOFS, CH_VGAIN, CH_VDLY, CH_IOFSH, CH_IGAINH] ++
  [CH_IOFSL, CH_IGAINL, CH_IDLY, CH_CALAGE, CH_VWCFG, CH_IWCFG, CH_VWTHR, CH_IWTHR, CH_VSKEW, CH_ISKEW, CH_WSTATE, CH_WFSTAT] ++
  [CH_WFINFO, CH_WFDT, CH_PSSHUNT, CH_PSFS, CH_ESDT, CH_ESCTL, CH_DDSKEW, CH_QSTEP, CH_ESTEP, CH_QTOT, CH_ETOT, CH_TSTART] ++
  [CH_ACCCTL, CH_RSTAT, CH_ENDMASK, CH_DENS, CH_ENDDT, CH_ZSTAT, CH_PHVRE, CH_PHVIM, CH_PHIRE, CH_PHIIM, CH_ZRE, CH_ZIM] ++
  [CH_ZMAG, CH_ZCNT, CH_SNFSTAT, CH_SNFCAUSE, CH_SNFFIRST, CH_SNFDT, CH_SNFCTL, CH_PSCTL, CH_XSTAT, CH_STEPIDX, CH_MSTAT, CH_MVRES] ++
  [CH_MIRES, CH_MVINFO, CH_MIINFO, CH_MVFIRST, CH_MIFIRST, CH_MVLAST, CH_MILAST, CH_STCFG, CH_STBASE, CH_STSIZE, CH_STPER, CH_STSAFE] ++
  [CH_STWM, CH_STWR, CH_STRD, CH_STRET, CH_STCMD, CH_STSTAT, CH_STPOS, CH_STPASS, CH_STSLIP, CH_STLSLIP, CH_STCNT, CH_STSKIP] ++
  [CH_STURDT, CH_MWSTAT, CH_MWOPEN, CH_MWCLOSE, CH_MWPOS]

/-- Every register of the unit, for access by address. -/
def setRegs : List Reg :=
  [SET_MODE, SET_SP, SET_LW, SET_FW]

end Sys2Proof.Machine
end

