-- ==== Sys2Proof/Machine/Units.lean ====
section
/-! DEFINITION. The plain data of the machine's units: what a channel, a group, a chiplet, a thread, an interval unit and a cluster hold beside their registers. -/

namespace Sys2Proof.Machine

/-- A set of the first meeting point (R11, R129, R213), shadow or active: the words of R154 in `regs`, the limit set (R219), the expectation set (R221: control, LO, HI, HANDLER, OPEN, CLOSE for each entry) and the end set (R224: control, VALUE for each entry). Words that are not listed are 0. -/
structure StepSet where
  regs : Regs := []
  lim : List Nat := []
  exps : List (List Nat) := []
  ends : List (Nat × Nat) := []
deriving DecidableEq, Repr

/-- One conversion (R88 to R92): `u` is the unrounded code with 32 fractional bits, `flags` is laid out as CH_IFLG.FLAGS. -/
structure Conv where
  isI : Bool
  code : Int
  u : Int
  dt : Nat
  flags : Nat
deriving DecidableEq, Repr

/-- One window-event FIFO entry (R115, R126). -/
structure WEntry where
  comp : Nat
  into : Bool
  merged : Bool
  unc : Bool
  level : Bool
  snf : Bool
  dt : Nat
deriving DecidableEq, Repr

/-- The mask of one comparator (R110, R111): `until_` is the end of the mask, none while a calibration keeps it open; `before` is the trip state the mask froze. -/
structure CompMask where
  until_ : Option Nat
  before : Bool
deriving DecidableEq, Repr

/-- An average in progress (R93, R229). -/
structure Avg where
  align : Bool
  issue : Nat
  need : Nat
  covered : Nat := 0
  m : Nat := 0
  sum : Int := 0
  marks : Nat := 0
  range : Option Bool := none
  first : Nat := 0
  last : Nat := 0
deriving DecidableEq, Repr

/-- A VALID I conversion waiting for integration (R145): code, DT, shunt in force, half-ramps since the VALID one before, flags. -/
structure IPoint where
  code : Int
  dt : Nat
  shunt : Nat
  halves : Nat
  flags : Nat := 0
deriving DecidableEq, Repr

/-- An impedance measurement (R151): periods asked, window start once open, fit samples (sine phase, code) of each input, and the disturbance mark. -/
structure Imped where
  periods : Nat
  req : Nat
  w0 : Option Nat := none
  vs : List (Nat × Int) := []
  is : List (Nat × Int) := []
  low : Bool := false
deriving DecidableEq, Repr

/-- A power-stage range change in progress (R167). -/
structure PsChange where
  target : Nat
  b0 : Nat
  tag : Option Nat := none
  pol : Bool := false
  sstart : Nat := 0
  sent : Nat := 0
  resume : Option Nat := none
  timedOut : Bool := false
  /-- boundary of the commit that waits for the change (R165) -/
  commits : Option Nat := none
deriving DecidableEq, Repr

/-- One step end (R142, R143): boundary, cause and the mask of true entries. -/
structure StepEnd where
  at_ : Nat
  cause : Nat
  mask : Nat
deriving DecidableEq, Repr

/-- The place of a sample in the ring's segments (R294, R297): header index (none for an implicit segment, whose `len` is 0), index of the segment's first sample, length, sample index, passes left including the present one. -/
structure SegPos where
  hdr : Option Nat
  first : Nat
  len : Nat
  idx : Nat
  left : Nat
  segno : Nat
  last : Bool
deriving DecidableEq, Repr

/-- Playback state of a stream (R293 to R304). `origin` is the DT of slot 0, `slot` the number of the next slot boundary, `pos` and `at_` the sample in play and its boundary, with its neighbours. -/
structure Stream where
  play : Bool := false
  origin : Nat := 0
  slot : Nat := 0
  pos : Option SegPos := none
  at_ : Nat := 0
  cur : Int := 0
  prev : Int := 0
  n1 : Int := 0
  n2 : Int := 0
  level : Int := 0
  /-- entries read ahead: index and value, none where the read failed (R296) -/
  read : List (Nat × Option Nat) := []
  /-- writer index values with the DT of their acknowledge, newest first (R295) -/
  wrs : List (Nat × Nat) := []
  /-- latched jump: SEGNO, pass end, acceptance DT (R300) -/
  jump : Option (Nat × Bool × Nat) := none
  /-- wait: index of its header, start DT; and the origin its trigger gives (R301) -/
  wait : Option (Nat × Nat) := none
  go : Option Nat := none
  /-- boundary of the underrun in progress (R302) -/
  under : Option Nat := none
  /-- a sample of the step has played; the header whose wait is over while its first sample is still absent (R299, R301) -/
  begun : Bool := false
  heldHdr : Option Nat := none
deriving DecidableEq, Repr

/-- A contact window of a channel, scheduled or open (R316, R333): positions, GUARD, the CP line it watches. -/
structure MWindow where
  open_ : Int
  close : Int
  guard : Bool
  cp : Option Nat
  opened : Bool := false
deriving DecidableEq, Repr

/-- A channel: its registers and what the spec gives it that no register shows. -/
structure Chan where
  regs : Regs := []
  sh : StepSet := {}
  ac : StepSet := {}
  /-- trigger of the pending set: 0 IMMEDIATE, 1 EDGE, 2 AT_END (R130) -/
  trig : Nat := 0
  /-- boundary, deskew included, at which a commit is due -/
  commitAt : Option Nat := none
  /-- that commit is late under R25 by this much -/
  lateBy : Nat := 0
  /-- a step has been committed since reset and has not ended -/
  running : Bool := false
  /-- the mode in force: MODE of the active set, or 0 where R129, R135, R140 make it REST -/
  mode : Nat := 0
  hold : Bool := false
  /-- the step in force asks for the enable bit -/
  enWant : Bool := false
  setupAcked : Bool := false
  /-- byte-A polarity in force since the last acknowledged SETUP (R161) -/
  polInv : Bool := false
  abortAt : Option Nat := none
  /-- FS was written 0 while regulating (R135) -/
  fsDead : Bool := false
  ai : Int := 0
  av : Int := 0
  lterm : Int := 0
  /-- i* of the last frame, and the i* of the last loop update before the clamp, 32 fractional bits -/
  iNow : Int := 0
  iOuter : Int := 0
  /-- i* that the first update of a voltage regulation continues (R139) -/
  avFrom : Option Int := none
  /-- group mean of V, 32 fractional bits (R133) -/
  groupV : Int := 0
  gv : List Int := []
  /-- loop errors i* − I, 32 fractional bits, with their FS, of the group's I conversions outside EBLK, and the codes of all its VALID ones -/
  gi : List (Int × Int) := []
  gic : List Int := []
  /-- results of a loop update waiting for their density boundary: boundary, L, i* before the clamp -/
  upd : List (Nat × Int × Int) := []
  /-- the boundary at which each edge slot last fired -/
  firedAt : List Nat := [0, 0, 0, 0]
  /-- slots armed after their own boundary, with the one at which they fire (R25, R147) -/
  slotLate : List (Nat × Nat) := []
  /-- format start boundary (none while it waits for FMT_START), last edge -/
  fmtStart : Option Nat := none
  fmtEdge : Nat := 0
  fmtLevel : Int := 0
  fmtDone : Bool := false
  vMax : Option Int := none
  vMeans : List (Nat × Int) := []
  nUpd : Nat := 0
  confirm : List Nat := []
  rampUp : Option Nat := none
  qstep : Int := 0
  estep : Int := 0
  qtot : Int := 0
  etot : Int := 0
  ipts : List IPoint := []
  /-- the last integrated I point with its V-code, 32 fractional bits (R145) -/
  accPrev : Option (IPoint × Int) := none
  vpts : List (Nat × Int) := []
  halves : Nat := 0
  /-- I-range before the last change, the DT of that change, and the end of the blanks (R94) -/
  irPrev : Nat := 0
  irAt : Nat := 0
  blank : Nat := 0
  /-- an I-range change at this DT holds the loop and the stream until a conversion without BLANK (R94) -/
  irHold : Option Nat := none
  blankV : Nat := 0
  cmV : Bool := false
  cmI : Bool := false
  calV : Bool := false
  calI : Bool := false
  /-- DT of the last completed calibration of the input (R97, R98) -/
  ageV : Option Nat := none
  ageI : Option Nat := none
  tdcV : Option Nat := none
  tdcI : Option Nat := none
  fifo : List WEntry := []
  masks : List (Option CompMask) := [none, none, none, none]
  avgV : Option Avg := none
  avgI : Option Avg := none
  imp : Option Imped := none
  ps : Option PsChange := none
  /-- the last range change ended with its acknowledge (R226) -/
  psOk : Bool := false
  /-- power-stage range before the last change, and the DT of that change (R167) -/
  psrPrev : Nat := 0
  psrFrom : Nat := 0
  stream : Stream := {}
  wins : List MWindow := []
  /-- the loaded shadow of expectations failed once already in this step -/
  acted : Nat := 0
deriving DecidableEq, Repr

/-- A control-channel message waiting for a slot (R160, R161): its 7 content bytes, the frame from which it is ready, and the channels of a SETUP. -/
structure LaneMsg where
  bytes : List Nat
  ready : Nat
deriving DecidableEq, Repr

/-- A group: lane registers, message queue, current slot, last frame sent, and the status lane's counters. -/
structure Grp where
  regs : Regs := []
  queue : List LaneMsg := []
  slot : List Nat := []
  tag : Nat := 0
  /-- bytes A, B, C, D of the last drive frame; empty while the lane is OFF (R157) -/
  frame : List Nat := []
  comma : Bool := false
  good : Nat := 0
  lastGood : Option Nat := none
  hot : Nat := 0
  hbBad : Bool := false
  tempBad : Bool := false
deriving DecidableEq, Repr

/-- A candidate of traceable calibration (R100): 0 to 8 tap, 9 range H, 10 range L. -/
structure Cand where
  point : Nat
  value : Int
  /-- AFE_CALX, Δ in 1/256 fine step, and the value before it (R418) -/
  calx : Int := 0
  delta : Int := 0
  prior : Int := 0
deriving DecidableEq, Repr

/-- An AFE chiplet. -/
structure Afe where
  regs : Regs := []
  /-- HALF and PHASE of the grid in force; the registers hold the staged values (R83) -/
  half : Nat := 1250
  phase : Nat := 0
  staged : Bool := false
  ramping : Bool := false
  stopping : Bool := false
  badHalves : Nat := 0
  /-- the last completed half-ramp: span, tap check failed (R87) -/
  lastStart : Nat := 0
  lastEnd : Nat := 0
  taperr : Bool := false
  cands : List Cand := []
  candAt : Option Nat := none
  /-- OP = 5 waits for the next half-ramp boundary; the candidates committed and not yet certified (R100, R418) -/
  committing : Bool := false
  traced : List Cand := []
  roundAt : Nat := 0
  /-- inputs (channel, is I) still to calibrate in the round; the head is on the cal bus once `onBus` (R97, R98) -/
  roundQ : List (Nat × Bool) := []
  onBus : Bool := false
  /-- traceable measurement in progress: point (0 to 8 tap, 9 H, 10 L) and half-ramp count at its start (R100) -/
  trace : Option (Nat × Nat) := none
  tdcBad : Bool := false
deriving DecidableEq, Repr

/-- A stamp taken by an interval unit (R121): DT, quantum in fine steps, marks (1 MERGED, 2 UNC, 4 COARSE). -/
structure Stamp where
  dt : Nat
  q : Nat
  marks : Nat
deriving DecidableEq, Repr

/-- An interval unit (R118 to R123): the arm DT while armed, the end of a level-arm window, and the edges stamped since, in stamp order. -/
structure Sti where
  regs : Regs := []
  armed : Option Nat := none
  closeAt : Option Nat := none
  starts : List Stamp := []
  stops : List Stamp := []
deriving DecidableEq, Repr

end Sys2Proof.Machine
end

