-- ==== Sys2Proof/Machine/Waveform.lean ====
section
/-! DEFINITION. Format records and their levels (R140, R141), the sine of R150, and the polynomials of the lanes (R158, R160). -/

namespace Sys2Proof.Machine

/-- Fine steps in one drive frame (R82) and in 1 µs. -/
def frameLen : Nat := 8192
def usLen : Nat := 204800

/-- The first drive-frame boundary at or after `t`. -/
def boundaryAt (t : Nat) : Nat := alignUp t frameLen
/-- The first drive-frame boundary after `t`. -/
def boundaryAfter (t : Nat) : Nat := (t / frameLen + 1) * frameLen
/-- The boundary of the first frame whose content is sampled after `t`; content is sampled 20 ns before the boundary (R169). -/
def sampledFrame (t : Nat) : Nat := boundaryAfter (t + 4096)

/-- Word `i` of the set's format record, as stored. -/
def StepSet.fw (s : StepSet) (i : Nat) : Nat := s.regs.get (SET_FW_W i)
/-- Word `i` of the format record, signed. -/
def StepSet.fwS (s : StepSet) (i : Nat) : Int := sgn 32 (s.fw i)
/-- Setpoint word: 0 SP_A, 1 SP_B, 2 IMAX, 3 IMIN (R137). -/
def StepSet.sp (s : StepSet) (i : Nat) : Int := sgn 32 (s.regs.get (SET_SP_V i))
/-- Loop-entry word: 0 KPI, 1 KII, 2 KPV, 3 KIV, 4 AWI, 5 AWV, 6 DMAX, 7 EBLK (R137). -/
def StepSet.lw (s : StepSet) (i : Nat) : Nat := s.regs.get (SET_LW_W i)

def StepSet.fmtType (s : StepSet) : Nat := bits (s.fw 0) 0 4
/-- KIND of the format: voltage levels (R140); a SINE is always a current. -/
def StepSet.fmtVolt (s : StepSet) : Bool := bit (s.fw 0) 4 && s.fmtType != 2
def StepSet.fmtStartBit (s : StepSet) : Bool := bit (s.fw 0) 5
def StepSet.fmtDoneEnd (s : StepSet) : Bool := bit (s.fw 0) 6
def StepSet.fmtCount (s : StepSet) : Nat := bits (s.fw 0) 16 16
def StepSet.arbSegs (s : StepSet) : Nat := bits (s.fw 1) 0 3

/-- A duration of 0 is treated as 1 (R141). -/
def dur (n : Nat) : Nat := max n 1

/-- Frames of ARB segment `i`. -/
def StepSet.arbDur (s : StepSet) (i : Nat) : Nat := dur (s.fw (3 + 2 * i))
/-- Level of ARB segment `i`. -/
def StepSet.arbLevel (s : StepSet) (i : Nat) : Int := s.fwS (2 + 2 * i)

/-- Frames of one repetition: of one dwell for STAIR (R141). -/
def StepSet.repLen (s : StepSet) : Nat :=
  match s.fmtType with
  | 1 => dur (s.fw 3) + dur (s.fw 4)
  | 3 => dur (s.fw 3)
  | 4 => dur (s.fw 3)
  | 5 => (List.range s.arbSegs).foldl (fun a i => a + s.arbDur i) 0
  | _ => 1

/-- The ARB segment that holds frame `j` of a repetition, searching from segment `i`. -/
def StepSet.arbAt (s : StepSet) : Nat → Nat → Nat → Nat
  | 0, i, _ => i
  | k + 1, i, j => if j < s.arbDur i then i else s.arbAt k (i + 1) (j - s.arbDur i)

/-- π with 96 fractional bits. -/
def piQ96 : Nat := 248902613312231085230521944622

/-- Σ of the sine series from term `k` on, terms in Q96. -/
def sinSeries (x2 : Int) : Nat → Nat → Int → Int → Int
  | 0, _, _, acc => acc
  | n + 1, k, term, acc =>
    let t := -(term * x2 / (2 ^ 96 : Nat)) / ((2 * k) * (2 * k + 1) : Nat)
    sinSeries x2 n (k + 1) t (acc + t)

/-- Entry `i` of the fixed sine table (R150, step 1). -/
def sineTable (i : Nat) : Int :=
  let x : Int := (piQ96 * (2 * i + 1) / 16384 : Nat)
  let x2 := x * x / (2 ^ 96 : Nat)
  roundDiv ((2 ^ 23 - 1) * sinSeries x2 18 1 x x) (2 ^ 96 : Nat)

/-- The point value w(m) (R150, step 2). -/
def sinePoint (m : Nat) : Int :=
  let q := m / 4096 % 4
  let x := m % 4096
  match q with
  | 0 => sineTable x
  | 1 => sineTable (4095 - x)
  | 2 => -sineTable x
  | _ => -sineTable (4095 - x)

/-- s of R150, step 4, for a 32-bit phase. -/
def sineAt (ph : Nat) : Int :=
  let m := bits ph 18 14
  let f := bits ph 0 18
  let w := sinePoint m
  roundDiv (w * (2 ^ 18 : Nat) + (sinePoint ((m + 1) % 16384) - w) * (f : Int)) (2 ^ 18 : Nat)

/-- FTW within the range R150 accepts. -/
def StepSet.ftw (s : StepSet) : Nat := max 2 (min (s.fw 3) 1717986)

/-- Phase of the sine at format frame `j`. -/
def StepSet.phaseAt (s : StepSet) (j : Nat) : Nat := (s.fw 4 + s.ftw * j) % 2 ^ 32

/-- i* of a SINE for a phase (R150); AMP below 0 is used as 0. -/
def StepSet.sineLevel (s : StepSet) (ph : Nat) : Int :=
  roundDiv (s.fwS 1 * (2 ^ 23 - 1) + max 0 (s.fwS 2) * sineAt ph) (2 ^ 23 - 1)

/-- Level held after the last repetition (R141). -/
def StepSet.lastLevel (s : StepSet) : Int :=
  match s.fmtType with
  | 1 => s.fwS 2
  | 3 => s.fwS 2
  | 4 => s.fwS 1 + ((s.fmtCount - 1 : Nat) : Int) * s.fwS 2
  | 5 => s.arbLevel (s.arbSegs - 1)
  | _ => s.sineLevel (s.phaseAt 0)

/-- The format level at format frame `j` (R141). -/
def StepSet.levelAt (s : StepSet) (j : Nat) : Int :=
  let rep := j / s.repLen
  let jj := j % s.repLen
  if s.fmtType != 2 && s.fmtCount != 0 && s.fmtCount ≤ rep then s.lastLevel
  else match s.fmtType with
    | 1 => if jj < dur (s.fw 3) then s.fwS 1 else s.fwS 2
    | 2 => s.sineLevel (s.phaseAt j)
    | 3 => s.fwS 1 + roundDiv ((s.fwS 2 - s.fwS 1) * (jj : Int)) (dur (s.fw 3) : Int)
    | 4 => s.fwS 1 + (rep : Int) * s.fwS 2
    | 5 => s.arbLevel (s.arbAt s.arbSegs 0 jj)
    | _ => 0

/-- Frames from the format start to its completion; none for a SINE and for COUNT = 0 (R140, R141). -/
def StepSet.doneFrames (s : StepSet) : Option Nat :=
  if s.fmtType == 2 || s.fmtCount == 0 then none else some (s.fmtCount * s.repLen)

/-- Is frame `j` a format frame at which the level edge of PULSE, STAIR or ARB falls (R141). -/
def StepSet.edgeAt (s : StepSet) (j : Nat) : Bool :=
  j == 0 || (s.fmtType != 2 && s.fmtType != 3 && s.levelAt j != s.levelAt (j - 1)) ||
    (s.fmtType == 3 && j % s.repLen == 0)

/-- Frames of the ARB segments before segment `i`. -/
def StepSet.arbBefore (s : StepSet) (i : Nat) : Nat := (List.range i).foldl (fun a k => a + s.arbDur k) 0

/-- The frame at or before `j` at which a segment, a stair or a repetition begins, or the completion (R136, R141). -/
def StepSet.lastEdge (s : StepSet) (j : Nat) : Nat :=
  let rep := j / s.repLen
  let jj := j % s.repLen
  if s.fmtType == 2 then 0
  else if s.fmtCount != 0 && s.fmtCount ≤ rep then s.fmtCount * s.repLen
  else match s.fmtType with
    | 1 => rep * s.repLen + (if jj < dur (s.fw 3) then 0 else dur (s.fw 3))
    | 5 => rep * s.repLen + s.arbBefore (s.arbAt s.arbSegs 0 jj)
    | _ => rep * s.repLen

/-- The TYPE a format mode needs (R217). -/
def modeType (m : Nat) : Option Nat :=
  match m with | 6 => some 1 | 7 => some 2 | 8 => some 3 | 9 => some 4 | 11 => some 5 | _ => none

/-- Does the format record commit for mode `m` (R140, R217). -/
def StepSet.fmtOk (s : StepSet) (m : Nat) : Bool :=
  match modeType m with
  | none => true
  | some t => s.fmtType == t && bits (s.fw 0) 7 9 == 0 &&
      (t != 5 || (s.arbSegs != 0 && bits (s.fw 1) 3 29 == 0))

/-- One MSB-first CRC step over `n` bits with polynomial `p` of width `w`. -/
def crcBits (w p : Nat) : Nat → Nat → Nat
  | 0, r => r
  | n + 1, r => crcBits w p n (if bit r (w - 1) then bxor (r * 2 % 2 ^ w) p else r * 2 % 2 ^ w)

/-- CRC-8 of R158 over a byte list. -/
def crc8 (bs : List Nat) : Nat := bs.foldl (fun r b => crcBits 8 0x07 8 (bxor r (b % 256))) 0xFF

/-- CRC-16 of R160 over a byte list. -/
def crc16 (bs : List Nat) : Nat :=
  bs.foldl (fun r b => crcBits 16 0x1021 8 (bxor r (b % 256 * 256))) 0xFFFF

end Sys2Proof.Machine
end

