-- ==== Sys2Proof/Machine/Regulate.lean ====
section
/-! DEFINITION. Regulation of one channel: step ends, commit, loop engine, drive frame, edge slots (R129 to R149). Every operation takes the channel to the channel. -/

namespace Sys2Proof.Machine

/-- Field access of a channel. -/
def Chan.get (c : Chan) (f : Fld) : Nat := c.regs.get f
def Chan.on (c : Chan) (f : Fld) : Bool := c.regs.on f
def Chan.set (f : Fld) (v : Nat) (c : Chan) : Chan := { c with regs := c.regs.set f v }
def Chan.setB (f : Fld) (b : Bool) (c : Chan) : Chan := { c with regs := c.regs.setB f b }
def Chan.bump (f : Fld) (n : Nat) (c : Chan) : Chan := { c with regs := c.regs.bump f n }

/-- Drive deskew in fine steps (R148). -/
def Chan.deskew (c : Chan) : Nat := c.get CH_DDSKEW_FRAMES * frameLen

/-- SHUNT and FS of the active power-stage range (R135, R167). -/
def Chan.psr (c : Chan) : Nat := c.get CH_RSTAT_PSR
def Chan.shunt (c : Chan) : Nat := c.get (CH_PSSHUNT_SHUNT c.psr)
def Chan.fs (c : Chan) : Int := (c.get (CH_PSFS_FS c.psr) : Int)
/-- The power-stage range at a conversion, with its SHUNT and FS: the old one before the acknowledge (R145, R167). -/
def Chan.psrAt (c : Chan) (t : Nat) : Nat := if t < c.psrFrom then c.psrPrev else c.psr
def Chan.shuntAt (c : Chan) (t : Nat) : Nat := c.get (CH_PSSHUNT_SHUNT (c.psrAt t))
def Chan.fsAt (c : Chan) (t : Nat) : Int := (c.get (CH_PSFS_FS (c.psrAt t)) : Int)

/-- MODE, HOLDEN, ENDACT, LOOP of a set's mode word (R154). -/
def StepSet.mode (s : StepSet) : Nat := s.regs.get SET_MODE_MODE
def StepSet.holden (s : StepSet) : Bool := s.regs.on SET_MODE_HOLDEN
def StepSet.endact (s : StepSet) : Bool := s.regs.on SET_MODE_ENDACT
def StepSet.loop (s : StepSet) : Nat := s.regs.get SET_MODE_LOOP

/-- Rank of ends that fall on one boundary (R143): a snuff, then ends found by an update, TIME, FMT_DONE and STREAM_END, ABORT, SUPERSEDED. -/
def endRank (cause : Nat) : Nat :=
  match cause with
  | 10 => 6 | 1 => 4 | 9 => 3 | 13 => 3 | 11 => 2 | 12 => 1 | 0 => 0 | _ => 5

/-- Does end `e` govern over an end recorded at `at_` with `cause` (R142, R143, R222). -/
def StepEnd.governs (e : StepEnd) (at_ cause : Nat) : Bool :=
  e.at_ < at_ || (e.at_ == at_ && endRank cause < endRank e.cause)

/-- The active step is over from boundary `t` on with no regulation left (R144, ENDACT = 0). -/
def Chan.restFrom (c : Chan) (t : Nat) : Bool :=
  c.on CH_RSTAT_ENDED && (!c.ac.endact || c.get CH_RSTAT_CAUSE == 10) && c.get CH_ENDDT_DT ≤ t

/-- Records a step end (R142 to R144): the end of a running step, or an earlier or stronger end of a step whose end is recorded but not yet in force. A pending AT_END commit falls due at the end boundary. -/
def Chan.endStep (e : StepEnd) (c : Chan) : Chan :=
  if c.running || (c.on CH_RSTAT_ENDED && e.governs (c.get CH_ENDDT_DT) (c.get CH_RSTAT_CAUSE)) then
    let m := if c.running then e.mask else bor e.mask (c.get CH_ENDMASK_MASK)
    let r := (((c.regs.set CH_RSTAT_CAUSE e.cause).set CH_ENDDT_DT e.at_).set CH_ENDMASK_MASK m).setB CH_RSTAT_ENDED true
    let r := if c.imp.isSome then r.setB CH_ZSTAT_BUSY false else r
    { c with
      regs := r
      running := false
      abortAt := none
      imp := none
      commitAt := if c.on CH_RSTAT_PEND && c.trig == 2 then some e.at_ else c.commitAt }
  else c

/-- Did the end change the record (R144 raises GRP.g then). -/
def Chan.endsBy (e : StepEnd) (c : Chan) : Bool :=
  c.running || (c.on CH_RSTAT_ENDED && e.governs (c.get CH_ENDDT_DT) (c.get CH_RSTAT_CAUSE))

/-- The integrator and loop contribution at zero, as when the enable bit goes to 0 (R139). -/
def Chan.clearLoop (c : Chan) : Chan := { c with ai := 0, lterm := 0, upd := [] }

/-- What the Snuffer does to a channel when `cause` reaches it, frame boundary `bnd` (R169, R171). The frames before `bnd` keep the enable bit of the last one. -/
def Chan.snuff (cause bnd : Nat) (c : Chan) : Chan :=
  let first := !c.on CH_SNFSTAT_SNUFFED
  let r := c.regs.set CH_SNFCAUSE_CAUSE (bor (c.get CH_SNFCAUSE_CAUSE) (2 ^ cause))
  let r := r.setB CH_SNFSTAT_SNUFFED true
  let r :=
    if first then ((r.setB CH_SNFFIRST_VALID true).set CH_SNFFIRST_CAUSE cause).set CH_SNFDT_DT bnd
    else if c.get CH_SNFDT_DT == bnd && cause < c.get CH_SNFFIRST_CAUSE then r.set CH_SNFFIRST_CAUSE cause
    else r
  ({ c with regs := r, enWant := false } : Chan).endStep ⟨bnd, 10, 0⟩

/-- An accepted re-arm (R172). The enable bit stays 0 until the next enabling commit. -/
def Chan.rearm (c : Chan) : Chan :=
  if c.on CH_SNFSTAT_SNUFFED then
    (c.setB CH_SNFSTAT_SNUFFED false).setB CH_SNFFIRST_VALID false
  else c

/-! ### Streams: the ring and the level (R293 to R299) -/

/-- Entries of the ring: CH_STSIZE / 8 for 4 KiB to 256 KiB in steps of 4 KiB, else 0 (R293, R309). -/
def Chan.ringLen (c : Chan) : Nat :=
  let s := c.get CH_STSIZE_SIZE
  if s % 4096 = 0 && s ≤ 262144 then s / 8 else 0

/-- Sample period in fine steps, clamped (R297, R309). -/
def Chan.streamT (c : Chan) : Nat := 128 * max 1600 (min (c.get CH_STPER_TICKS) 5760000000000)

/-- How far the free-running index `b` lies ahead of `a` (R295). -/
def ahead (a b : Nat) : Nat := (b + 2 ^ 32 - a % 2 ^ 32) % 2 ^ 32

/-- The level at `t` of the slot in play (R299); outside a slot the level stands. -/
def Chan.streamLevel (c : Chan) (t : Nat) : Int :=
  let s := c.stream
  if !s.play || s.pos.isNone || s.under.isSome || s.wait.isSome then s.level
  else
    let T : Int := c.streamT
    let x : Int := min (t - s.at_) c.streamT
    match c.get CH_STCFG_INTERP with
    | 0 => s.cur
    | 2 =>
      let a := 2 * x ^ 3 - 3 * x ^ 2 * T + T ^ 3
      let b := x ^ 3 - 2 * x ^ 2 * T + x * T ^ 2
      let e := 3 * x ^ 2 * T - 2 * x ^ 3
      let f := x ^ 3 - x ^ 2 * T
      roundDiv (2 * a * s.cur + b * (s.n1 - s.prev) + 2 * e * s.n1 + f * (s.n2 - s.cur)) (2 * T ^ 3)
    | _ => roundDiv (s.cur * T + x * (s.n1 - s.cur)) T

/-- The level moves to that of `t`. -/
def Chan.streamTick (t : Nat) (c : Chan) : Chan := { c with stream := { c.stream with level := c.streamLevel t } }

/-- A STREAM step whose end boundary has passed (R298): for every cause but STREAM_END the segment in progress is abandoned and RD moves past it, no further than WR; a wait leaves its header. -/
def Chan.streamSettle (t : Nat) (c : Chan) : Chan :=
  let s := c.stream
  if s.play && c.on CH_RSTAT_ENDED && c.get CH_ENDDT_DT ≤ t then
    let lv := c.streamLevel (c.get CH_ENDDT_DT)
    let rd := c.get CH_STRD_IDX
    let to_ := match s.wait, s.pos with
      | none, some p => if p.hdr.isSome && c.get CH_RSTAT_CAUSE != 13 then p.first + p.len else rd
      | _, _ => rd
    let wr := c.get CH_STWR_IDX
    let to_ := if ahead rd wr < ahead rd to_ then wr else to_
    let r := ((c.regs.set CH_STRD_IDX to_).set CH_STRET_IDX to_).setB CH_STSTAT_PLAY false
    let r := ((r.setB CH_STSTAT_WAITING false).setB CH_STSTAT_UNDERRUN false).setB CH_STSTAT_JPEND false
    { c with regs := r, stream := { wrs := s.wrs, level := lv } }
  else c

/-! ### Commit -/

/-- The effective mode and HOLDEN of a committed set, and whether MODEERR is set for it (R129, R135, R140, R217). -/
def Chan.modeOf (c : Chan) (s : StepSet) : Nat × Bool × Bool :=
  let bad := 12 ≤ s.mode || !s.fmtOk s.mode || (s.mode == 10 && c.ringLen == 0)
  let m := if bad then 0 else s.mode
  if (m != 0 || s.holden) && c.fs == 0 then (0, false, true) else (m, s.holden, bad)

/-- IMIN above 0 or IMAX below 0 makes both 0 (R135). -/
def StepSet.clampErr (s : StepSet) : Bool := 0 < s.sp 3 || s.sp 2 < 0
def StepSet.imin (s : StepSet) : Int := if s.clampErr then 0 else s.sp 3
def StepSet.imax (s : StepSet) : Int := if s.clampErr then 0 else s.sp 2

/-- Loop limits in force: AWI, AWV below 0 are used as 0, DMAX is limited to 0 … 2^30 (R137). -/
def StepSet.awi (s : StepSet) : Int := max 0 (sgn 32 (s.lw 4))
def StepSet.awv (s : StepSet) : Int := max 0 (sgn 32 (s.lw 5))
def StepSet.dmax (s : StepSet) : Int := max 0 (min (sgn 32 (s.lw 6)) (2 ^ 30 : Nat))
def StepSet.loopErr (s : StepSet) : Bool :=
  sgn 32 (s.lw 4) < 0 || sgn 32 (s.lw 5) < 0 || sgn 32 (s.lw 6) < 0 || (2 ^ 30 : Nat) < s.lw 6

/-- FTW and AMP outside what R150 accepts. -/
def StepSet.sineErr (s : StepSet) (m : Nat) : Bool :=
  m == 7 && (s.fw 3 < 2 || 1717986 < s.fw 3 || s.fwS 2 < 0)

/-- Word `w` of expectation entry `e`: 0 control, 1 LO, 2 HI, 3 HANDLER, 4 OPEN, 5 CLOSE (R221). -/
def StepSet.xw (s : StepSet) (e w : Nat) : Nat := (s.exps.getD e []).getD w 0
/-- Control and VALUE of end entry `e` (R224). -/
def StepSet.ew (s : StepSet) (e : Nat) : Nat × Nat := s.ends.getD e (0, 0)
/-- Word `w` of the limit set (R219). -/
def StepSet.limw (s : StepSet) (w : Nat) : Nat := s.lim.getD w 0

def StepSet.xEn (s : StepSet) (e : Nat) : Bool := bit (s.xw e 0) 0 && bits (s.xw e 0) 1 3 < 5
def StepSet.xErr (s : StepSet) : Bool :=
  (List.range 16).any fun e => bit (s.xw e 0) 0 && 5 ≤ bits (s.xw e 0) 1 3
def StepSet.endCause (s : StepSet) (e : Nat) : Nat := bits (s.ew e).1 1 4
def StepSet.endEn (s : StepSet) (e : Nat) : Bool :=
  bit (s.ew e).1 0 && 1 ≤ s.endCause e && s.endCause e ≤ 8
def StepSet.endErr (s : StepSet) : Bool :=
  (List.range 16).any fun e => bit (s.ew e).1 0 && !(1 ≤ s.endCause e && s.endCause e ≤ 8)

/-- Is the step regulating a voltage with the given mode and phase (R136, R139). -/
def Chan.voltMode (c : Chan) (m : Nat) (cvph : Bool) (s : StepSet) : Bool :=
  match m with
  | 2 => true
  | 5 => cvph
  | 6 => s.fmtVolt | 8 => s.fmtVolt | 9 => s.fmtVolt | 11 => s.fmtVolt
  | 10 => c.get CH_STCFG_KIND == 1
  | _ => false

/-- A whole code with 32 fractional bits. -/
def fx (i : Int) : Int := i * (2 ^ 32 : Nat)

/-- The level of the active format at `t` (R141): before its start that of frame 0; from the end of a step that goes on regulating, its last level (R144). -/
def Chan.levelNow (c : Chan) (t : Nat) : Int :=
  match c.fmtStart with
  | some s =>
    let e := c.get CH_ENDDT_DT
    let t := if c.on CH_RSTAT_ENDED && c.get CH_RSTAT_CAUSE != 9 && e ≤ t then e - frameLen else t
    c.ac.levelAt ((t - s) / frameLen)
  | none => c.ac.levelAt 0

/-- V target of a voltage regulation at an update at `B` whose density boundary is `due` (R129, R136, R141). -/
def Chan.vset (c : Chan) (B due : Nat) : Int :=
  match c.mode with
  | 2 => c.ac.sp 0
  | 5 => c.ac.sp 1
  | 10 => c.stream.level
  | 8 => c.levelNow due
  | _ => c.levelNow B

/-- KPV × e_v as Q2.30, V with 32 fractional bits (R136). -/
def Chan.kpvErr (s : StepSet) (vset v : Int) : Int :=
  openDiv ((s.lw 2 : Int) * (fx vset - v) * (2 ^ 30 : Nat)) ((2 ^ 48 : Nat) * 4000000)

/-- A density Q2.30 as an I-code with 32 fractional bits at full scale FS. -/
def ofDens (fs d : Int) : Int := 4 * fs * d
/-- An I-code with 32 fractional bits as a density Q2.30 at full scale FS. -/
def toDens (fs i : Int) : Int := openDiv i (4 * fs)

def clampI (lo hi x : Int) : Int := max lo (min hi x)

/-- i* of CP and CR from the group mean of V, 32 fractional bits (R135). -/
def Chan.powerTarget (c : Chan) (m : Nat) (s : StepSet) : Int :=
  if m == 3 then openDiv (s.sp 0 * (c.shunt : Int) * 6400 * (2 ^ 64 : Nat)) (max c.groupV (fx 400000))
  else if s.sp 0 ≤ 0 then 0 else openDiv (-2 * c.groupV * (c.shunt : Int)) (5 * s.sp 0)

/-- TIME end boundary of entry `e` (R142): CH_TSTART plus the duration in ticks, up to a frame boundary. -/
def Chan.timeEnd (c : Chan) (e : Nat) : Nat :=
  boundaryAt (c.get CH_TSTART_DT + (c.ac.ew e).2 * 128)

/-- The TIME entries due at `t`. -/
def Chan.timeDue (c : Chan) (t : Nat) : List Nat :=
  (List.range 16).filter fun e => c.ac.endEn e && c.ac.endCause e == 1 && c.timeEnd e ≤ t

/-- The end that the TIME entries due at `t` give: the earliest boundary, with the entries true at it (R142, R143). -/
def Chan.timeStop (c : Chan) (t : Nat) : Option StepEnd :=
  match c.timeDue t with
  | [] => none
  | e :: es =>
    let b := es.foldl (fun b i => min b (c.timeEnd i)) (c.timeEnd e)
    some ⟨b, 1, maskOf 16 fun i => (c.timeDue t).contains i && c.timeEnd i == b⟩

/-- The format-completion boundary (R140, R141). -/
def Chan.fmtDoneAt (c : Chan) : Option Nat :=
  if (modeType c.mode).isNone then none
  else match c.fmtStart, c.ac.doneFrames with
    | some s, some n => some (s + n * frameLen)
    | _, _ => none

/-- The ends of the timing generator that fall at or before boundary `C`: TIME, FMT_DONE, ABORT (R142, R143). -/
def Chan.dueEnds (C : Nat) (c : Chan) : List StepEnd :=
  (c.timeStop C).toList ++
    (match c.fmtDoneAt with
      | some b => if b ≤ C && c.ac.fmtDoneEnd && !c.fmtDone then [⟨b, 9, 0⟩] else []
      | none => []) ++
    (match c.abortAt with | some b => if b ≤ C then [⟨b, 11, 0⟩] else [] | none => [])

/-- The commit at boundary `C` of a pending set (R131, R135, R139, R222, R224): copies the shadow set, starts the step. The caller has looked at PEND. Window thresholds, snuffs and group events are added by the caller. -/
def Chan.commit (C : Nat) (c : Chan) : Chan :=
  let old := c
  let c := ((c.dueEnds C).foldl (fun c e => c.endStep e) c)
  let c := (c.endStep ⟨C, 12, 0⟩).streamSettle C
  let s := { c.sh with regs := c.sh.regs.setB SET_MODE_UNC false }
  let (m, h, err) := c.modeOf s
  let en := (m != 0 || h) && !c.on CH_SNFSTAT_SNUFFED
  let err := err || s.clampErr || s.loopErr || s.sineErr m || s.xErr || s.endErr ||
    (m == 4 && s.sp 0 ≤ 0)
  let keepAi := old.enWant && !old.restFrom C && en
  let wasVolt := old.voltMode old.mode (old.on CH_RSTAT_CVPH) old.ac && !old.restFrom C
  let isVolt := c.voltMode m false s
  let fmtMode := (modeType m).isSome
  let wait := fmtMode && s.fmtStartBit
  let keepAv := isVolt && wasVolt && old.ac.loop == s.loop
  let r := c.regs
  let r := ((((r.set CH_TSTART_DT C).setB CH_RSTAT_PEND false).setB CH_RSTAT_ENDED false).setB CH_RSTAT_CVPH false).set CH_RSTAT_CAUSE 0
  let r := (r.set CH_XSTAT_FAILED 0).setB CH_XSTAT_XABORT false |>.setB CH_XSTAT_XSNF false |>.set CH_XSTAT_XID 0
  let r := r.set CH_STEPIDX_IDX (c.get CH_STEPIDX_IDX + 1)
  let r := if err then r.setB CH_RSTAT_MODEERR true else r
  let r := if c.imp.isSome then r.setB CH_ZSTAT_BUSY false else r
  let r := r.setB CH_STSTAT_PLAY (m == 10)
  let ir := s.regs.get SET_MODE_IRANGE
  let irChange := ir != c.get CH_MCTL_IRANGE
  let r := r.set CH_MCTL_IRANGE ir
  { c with
    regs := r
    ac := s
    sh := s
    trig := 0
    commitAt := none
    running := true
    mode := m
    hold := h
    enWant := en
    fsDead := false
    abortAt := none
    ai := if keepAi then old.ai else 0
    lterm := if keepAi then old.lterm else 0
    upd := if keepAi then old.upd else []
    av := if keepAv then old.av else 0
    avFrom := if isVolt && !wasVolt && old.enWant && !old.restFrom C then some old.iNow
      else if keepAv then old.avFrom else none
    iOuter := if m == 3 || m == 4 then old.powerTarget m s else old.iNow
    qstep := 0
    estep := 0
    fmtStart := if fmtMode && !wait then some C else none
    fmtEdge := if fmtMode then C else 0
    fmtLevel := if fmtMode then s.levelAt 0 else 0
    fmtDone := false
    vMax := none
    vMeans := []
    nUpd := 0
    confirm := []
    imp := none
    acted := 0
    irPrev := if irChange then c.get CH_MCTL_IRANGE else c.irPrev
    irAt := if irChange then C else c.irAt
    blank := if irChange then C + 20 * usLen else c.blank
    irHold := if irChange then some C else c.irHold
    stream := { play := m == 10, origin := C, wrs := c.stream.wrs, level := c.stream.level } }

/-! ### The loop engine -/

/-- The channel with REST in force once the end boundary of a step with ENDACT = 0, or a snuff, has passed (R144, R169), and with its integrator cleared from B0 of a range change (R167). -/
def Chan.settle (t : Nat) (c : Chan) : Chan :=
  let c := c.streamSettle t
  let c := match c.ps with
    | some p => if p.b0 ≤ t && p.resume.isNone then c.clearLoop else c
    | none => c
  if (c.restFrom t || (c.on CH_SNFSTAT_SNUFFED && c.get CH_SNFDT_DT ≤ t && !c.running)) && (c.mode != 0 || c.hold || c.enWant) then
    ({ c with mode := 0, hold := false, enWant := false, fmtStart := none } : Chan).clearLoop
  else c

/-- Mean of a list of codes with 32 fractional bits (R133). -/
def meanOf (xs : List Int) : Int := openDiv (fx (xs.foldl (· + ·) 0)) (max 1 xs.length : Nat)

/-- Σ (i* − I) / FS over the group as numerator, 32 fractional bits, and denominator (R136). -/
def errSum (xs : List (Int × Int)) : Int × Int :=
  xs.foldl (fun a x => if a.2 = x.2 then (a.1 + x.1, a.2) else (a.1 * x.2 + x.1 * a.2, a.2 * x.2)) (0, (xs.head?.map (·.2)).getD 1)

/-- The target i*, 32 fractional bits, before the clamp, in a frame whose format level is `lvl` (R135). -/
def Chan.rawTarget (c : Chan) (lvl : Int) : Int :=
  match c.mode with
  | 1 => fx (c.ac.sp 0)
  | 2 => c.iOuter
  | 3 => c.iOuter
  | 4 => c.iOuter
  | 5 => if c.on CH_RSTAT_CVPH then c.iOuter else fx (c.ac.sp 0)
  | 7 => fx lvl
  | 10 => if c.get CH_STCFG_KIND == 1 then c.iOuter else fx c.stream.level
  | 0 => 0
  | _ => if c.ac.fmtVolt then c.iOuter else fx lvl

/-- The clamp of R135, narrowed in CV phase by R138. -/
def Chan.clampTarget (c : Chan) (i : Int) : Int :=
  let i :=
    if c.mode == 5 && c.on CH_RSTAT_CVPH then
      if 0 ≤ c.ac.sp 0 then clampI 0 (fx (c.ac.sp 0)) i else clampI (fx (c.ac.sp 0)) 0 i
    else i
  clampI (fx c.ac.imin) (fx c.ac.imax) i

/-- The stream holds its last density: an I-range change until a conversion without BLANK (R94), or a calibration with CALMODE = 0 (R97). -/
def Chan.heldStream (c : Chan) : Bool := c.irHold.isSome || ((c.calV || c.calI) && c.get CH_MCTL_CALMODE == 0)

/-- Is a loop of this channel frozen apart from missing conversions (R134). -/
def Chan.frozenBy (c : Chan) (dt : Nat) (hold : Bool) : Bool :=
  hold || c.heldStream ||
    (match c.ps with | some p => p.b0 ≤ dt && p.resume.isNone | none => false)

/-- Least-squares slope of (DT, value) points as numerator and denominator, in code per fine step. -/
def slopeOf (ps : List (Nat × Int)) : Int × Int :=
  let n : Int := ps.length
  let st := ps.foldl (fun a p => a + (p.1 : Int)) 0
  let sv := ps.foldl (fun a p => a + p.2) 0
  let stv := ps.foldl (fun a p => a + (p.1 : Int) * p.2) 0
  let stt := ps.foldl (fun a p => a + (p.1 : Int) * (p.1 : Int)) 0
  (n * stv - st * sv, n * stt - st * st)

/-- Fine steps in one second. -/
def secLen : Int := 204800000000

/-- Is end entry `e` true at this update (R142, R224); `v` and `i` are the group means, 32 fractional bits. -/
def Chan.endTrue (c : Chan) (e : Nat) (v i : Option Int) (qs es : Int) : Bool :=
  let w := c.ac.ew e
  let val := sgn 64 w.2
  match c.ac.endCause e with
  | 2 => match v with | some v => fx val ≤ v | none => false
  | 3 => match v with | some v => v ≤ fx val | none => false
  | 4 => c.confirm.getD e 0 ≥ max 1 (bits w.1 16 8) && i.isSome
  | 5 => val ≤ (qs.natAbs : Int)
  | 6 => val ≤ (es.natAbs : Int)
  | 7 =>
    let n := max 2 (bits w.1 24 8)
    if v.isNone || c.vMeans.length < n then false
    else
      let (a, b) := slopeOf (c.vMeans.take n)
      if b = 0 then false
      else if bit w.1 8 then a * secLen ≤ fx val * b else fx val * b ≤ a * secLen
  | 8 => match v, c.vMax with | some v, some m => fx val ≤ m - v | _, _ => false
  | _ => false

/-- Whole nC or nJ of an accumulator with 32 fractional bits, truncated toward zero (R145). -/
def accWhole (a : Int) : Int := truncDiv a (2 ^ 32 : Nat)

/-- The end conditions at an update whose density boundary is `due` (R142): those that need conversions only where the loop is not frozen (R134). -/
def Chan.updateEnds (due : Nat) (v imean : Option Int) (c : Chan) : Chan :=
  let cv := c.mode == 2 || (c.mode == 5 && c.on CH_RSTAT_CVPH)
  let conf := (List.range 16).map fun e =>
    if c.ac.endCause e == 4 then
      match imean with
      | some i => if cv && (i.natAbs : Int) ≤ fx (sgn 64 (c.ac.ew e).2) then c.confirm.getD e 0 + 1 else 0
      | none => if cv then c.confirm.getD e 0 else 0
    else 0
  let c := { c with confirm := conf }
  let i4 := if cv then imean else none
  let trueAt := fun e => c.ac.endEn e && c.endTrue e v i4 (accWhole c.qstep) (accWhole c.estep)
  match (List.range 16).find? trueAt with
  | some e => if c.running then c.endStep ⟨due, c.ac.endCause e, maskOf 16 trueAt⟩ else c
  | none => c

/-- One loop update at group end `B` (R133 to R138, R142): `hold` is a Taper hold or stop. The result channel carries the update for its density boundary and, when an end condition is true, its end. -/
def Chan.loopUpdate (B : Nat) (hold : Bool) (c : Chan) : Chan :=
  let c := c.settle B
  let due := B + 30 * frameLen + c.deskew
  let c := if c.mode == 10 && c.get CH_STCFG_KIND == 1 then c.streamTick due else c
  let cvph0 := c.on CH_RSTAT_CVPH
  let isV := c.voltMode c.mode cvph0 c.ac || c.mode == 3 || c.mode == 4 || c.mode == 5
  let isI := c.mode != 0 || c.hold
  let frozen := c.frozenBy B hold || (isV && c.gv.isEmpty) || (isI && c.gic.isEmpty)
  let v := if c.gv.isEmpty then none else some (meanOf c.gv)
  let imean := if c.gic.isEmpty then none else some (meanOf c.gic)
  let c0 := { (c.setB CH_RSTAT_FROZEN frozen) with gv := [], gi := [], gic := [] }
  if frozen then c0.updateEnds due none none
  else
    let c1 := { c0 with
      groupV := v.getD c.groupV
      nUpd := if v.isSome then c.nUpd + 1 else c.nUpd
      vMeans := match v with | some v => ((B, v) :: c.vMeans).take 255 | none => c.vMeans
      vMax := match v with
        | some v => some (match c.vMax with | some m => max m v | none => v)
        | none => c.vMax }
    -- CCCV phase entry (R138)
    let enter := c.mode == 5 && !cvph0 && (match v with
      | some v => if 0 ≤ c.ac.sp 0 then c.ac.sp 1 ≤ v else v ≤ c.ac.sp 1
      | none => false)
    let c2 := if enter then
        { (c1.setB CH_RSTAT_CVPH true) with avFrom := some c.iNow }
      else c1
    -- outer loop (R136)
    let volt : Bool := c2.voltMode c2.mode (c2.on CH_RSTAT_CVPH) c2.ac
    let vset := c2.vset B due
    let kpv := Chan.kpvErr c2.ac vset c2.groupV
    let av0 := match c2.avFrom with
      | some i => if volt && 0 < c2.fs then toDens c2.fs i - kpv else c2.av
      | none => c2.av
    let ev := fx vset - c2.groupV
    let raw := ofDens c2.fs (kpv + av0)
    let io := c2.clampTarget raw
    let skipV := (io < raw && 0 < ev) || (raw < io && ev < 0)
    let dAv := openDiv ((c2.ac.lw 3 : Int) * ev * (2 ^ 30 : Nat)) ((2 ^ 48 : Nat) * 4000000)
    let av := if !volt then c2.av else if skipV then av0
      else clampI (-c2.ac.awv) c2.ac.awv (av0 + dAv)
    let outer : Int := bif volt then raw else if c2.mode == 3 || c2.mode == 4 then c2.powerTarget c2.mode c2.ac else c2.iOuter
    -- inner loop (R136)
    let n := if isI then c.gi.length else 0
    let (sum, fs) := errSum c.gi
    let den := (2 ^ 48 : Nat) * (n : Int) * fs
    let l := if n = 0 || fs = 0 then c2.lterm
      else openDiv ((c2.ac.lw 0 : Int) * sum * (2 ^ 30 : Nat)) den + c2.ai
    let d := sgn 32 (c2.get CH_DENS_D)
    let skipI := c2.on CH_RSTAT_SATI && ((0 < d && 0 < sum) || (d < 0 && sum < 0))
    let ai := if n = 0 || fs = 0 || skipI then c2.ai
      else clampI (-c2.ac.awi) c2.ac.awi
        (c2.ai + openDiv ((c2.ac.lw 1 : Int) * sum * (2 ^ 30 : Nat)) den)
    let c3 := { c2 with av := av, ai := ai, avFrom := if volt then none else c2.avFrom
                        upd := c2.upd ++ [(due, l, outer)] }
    c3.updateEnds due v imean

/-! ### The drive frame -/

/-- The density clamp of the frame at `t`: DMAX, ramped after a range change over CH_PSCTL.SOFT frames (R137, R167). -/
def Chan.dmaxAt (c : Chan) (t : Nat) : Int :=
  match c.rampUp with
  | none => c.ac.dmax
  | some r =>
    let soft := c.get CH_PSCTL_SOFT
    let k := (t - r) / frameLen
    if soft ≤ k then c.ac.dmax else openDiv (c.ac.dmax * (k : Int)) soft

/-- Loop results whose density boundary has come (R133). -/
def Chan.applyUpd (t : Nat) (c : Chan) : Chan :=
  match (c.upd.filter fun u => u.1 ≤ t).getLast? with
  | some u => { c with lterm := u.2.1, iOuter := u.2.2, upd := c.upd.filter fun u => t < u.1 }
  | none => c

/-- The set in force in the frame at `t`: ends settled, loop results and a current stream's level taken (R133, R144, R299). -/
def Chan.inForce (t : Nat) (c : Chan) : Chan :=
  let c := (c.settle t).applyUpd t
  if c.mode == 10 && c.get CH_STCFG_KIND == 0 then c.streamTick t else c

/-- i* at `t`, 32 fractional bits, before and after the clamp (R135). -/
def Chan.target (c : Chan) (t : Nat) : Int × Int :=
  let raw := c.rawTarget (if (modeType c.mode).isSome then c.levelNow t else 0)
  (raw, c.clampTarget raw)

/-- i* at the DT of a conversion (R136); before the active step began, that of the last frame. -/
def Chan.targetAt (c : Chan) (t : Nat) : Int :=
  if t < c.get CH_TSTART_DT then c.iNow else ((c.inForce t).target t).2

/-- The last format edge at or before `t` (R136, R141). -/
def Chan.edgeDt (c : Chan) (t : Nat) : Nat :=
  match c.fmtStart with
  | some s => if s ≤ t then s + c.ac.lastEdge ((t - s) / frameLen) * frameLen else c.fmtEdge
  | none => c.fmtEdge

/-- Is a conversion at `t` excluded from the loop error, within EBLK frames of a format edge (R136). -/
def Chan.edgeBlank (c : Chan) (t : Nat) : Bool :=
  (modeType c.mode).isSome && c.edgeDt t ≤ t && t < c.edgeDt t + bits (c.ac.lw 7) 0 16 * frameLen

/-- Content of the drive frame that begins at boundary `t` (R134 to R136, R139, R149, R167, R169): `live` means lane in RUN and status lane locked, `fb` is the open bit of the noise shaper's sequence. Answers the channel, its stream bit and its enable bit. -/
def Chan.frame (t : Nat) (live fb : Bool) (c : Chan) : Chan × Bool × Bool :=
  let c := c.inForce t
  let snuffed := c.on CH_SNFSTAT_SNUFFED && c.get CH_SNFDT_DT ≤ t
  let en := live && !snuffed && (c.enWant || (c.on CH_SNFSTAT_SNUFFED && c.on CH_SNFSTAT_EN))
  let (raw, i) := c.target t
  let dm := c.dmaxAt t
  let forced := c.fsDead || c.fs ≤ 0 ||
    (match c.ps with | some p => p.b0 ≤ t && (match p.resume with | some r => t < r | none => true) | none => false)
  let want := toDens (max 1 c.fs) i + c.lterm
  let d := if !en || forced then 0
    else if c.heldStream then sgn 32 (c.get CH_DENS_D)
    else clampI (-dm) dm want
  let sati := en && !forced && !c.heldStream && d != want
  let ovl := en && (9 * (2 ^ 30 : Nat) : Int) < 10 * (d.natAbs : Int)
  let r := ((((c.regs.set CH_DENS_D (uns 32 d)).setB CH_RSTAT_SATI sati).setB CH_RSTAT_SATV (i != raw)).setB CH_RSTAT_NSOVL ovl).setB CH_SNFSTAT_EN en
  let c := { c with regs := r, iNow := i }
  let c := if en then c else c.clearLoop
  let bitOut := if en && !(forced) then fb else t / frameLen % 2 == 0
  (c, bitOut, en)

/-! ### Format start, edge slots -/

/-- FMT_START at boundary `b`: the format of the running step starts or restarts (R147). -/
def Chan.startFormat (b : Nat) (c : Chan) : Chan :=
  if (modeType c.mode).isSome && !c.on CH_RSTAT_ENDED then
    { c with fmtStart := some b, fmtDone := false, fmtEdge := b,
             fmtLevel := c.ac.levelAt 0 }
  else c

/-- The boundary of edge slot `j` at its DT, deskew included (R147, R148). -/
def Chan.slotAt (c : Chan) (j : Nat) : Nat := boundaryAt (c.get (CH_ESDT_DT j)) + c.deskew

/-- Slot `j` is armed at DT `now` with its DT and ACT in the registers (R147): FIRED and LATE clear; a slot whose boundary has passed fires at the next one (R25). -/
def Chan.slotArmed (j now : Nat) (c : Chan) : Chan :=
  let late := c.get (CH_ESCTL_ACT j) != 3 && c.slotAt j < now
  { ((c.setB (CH_ESCTL_ARMED j) true).setB (CH_ESCTL_FIRED j) false).setB (CH_ESCTL_LATE j) false with
    slotLate := (if late then [(j, boundaryAfter now)] else []) ++ c.slotLate.filter fun x => x.1 != j }

/-- Arms slot `j` at DT `now` with an action, a DT and a SYNC number (R147, R233). -/
def Chan.armSlot (j act dtv sync now : Nat) (c : Chan) : Chan :=
  (((c.set (CH_ESCTL_ACT j) act).set (CH_ESDT_DT j) dtv).set (CH_ESCTL_SYNCNO j) sync).slotArmed j now

/-- The reaction to a write of CH_ESjCTL at DT `now` once ACT stands in the register (R147). -/
def Chan.slotWritten (j now : Nat) (c : Chan) : Chan :=
  if c.get (CH_ESCTL_ACT j) = 0 then c.setB (CH_ESCTL_ARMED j) false else c.slotArmed j now

/-- The boundary at which an armed slot fires, and whether it is late (R25, R147). -/
def Chan.slotDue (c : Chan) (j : Nat) : Nat × Bool :=
  match c.slotLate.find? fun x => x.1 == j with
  | some x => (x.2, true)
  | none => (c.slotAt j, false)

/-- Requests the commit of a pending set by an edge slot at boundary `b`; a set with another trigger stays pending and NOPEND is set (R130). -/
def Chan.edgeCommit (b : Nat) (c : Chan) : Chan :=
  if c.on CH_RSTAT_PEND && c.trig == 1 then { c with commitAt := some b }
  else c.setB CH_RSTAT_NOPEND true

/-- Slot `j` fires at boundary `b`, late by `late` fine steps if its own boundary had passed when it was armed. -/
def Chan.fireSlot (j b : Nat) (late : Bool) (c : Chan) : Chan :=
  let act := c.get (CH_ESCTL_ACT j)
  let r := (c.regs.setB (CH_ESCTL_ARMED j) false).setB (CH_ESCTL_FIRED j) true
  let r := if late then r.setB (CH_ESCTL_LATE j) true else r
  let c := { c with regs := r, firedAt := c.firedAt.set j b }
  match act with
  | 1 => c.edgeCommit b
  | 2 => c.startFormat b
  | 3 => c.edgeCommit b
  | _ => c

end Sys2Proof.Machine
end

