-- ==== Sys2Proof/Machine/Measure.lean ====
section
/-! DEFINITION. What one channel does with stamps and conversions: codes and flags (R86 to R94), averages (R93, R229), window comparators (R106 to R115), accumulators (R145, R146), expectations (R222) and impedance (R151, R152). -/

namespace Sys2Proof.Machine

/-! ### Stamps and codes -/

/-- The dead time of a TDC, 100 ns in fine steps (R114). -/
def tdcDead : Nat := 20480

/-- The stamp of an edge at raw DT `t` on a TDC last taken at `last`: within the dead time it is coarse and MERGED (R114). Answers the stamp, the mark and when the TDC was last taken. -/
def tdcStamp (last : Option Nat) (t : Nat) : Nat × Bool × Option Nat :=
  match last with
  | some l => if l ≤ t && t - l < tdcDead then (t / 128 * 128, true, some l) else (t, false, some t)
  | none => (t, false, some t)

/-- The stamp of a window comparator's edge: coarse and MERGED too where the Taper comparator holds the TDC (R114). -/
def tdcShared (held : Bool) (last : Option Nat) (t : Nat) : Nat × Bool × Option Nat :=
  if held then (t / 128 * 128, true, last) else tdcStamp last t

/-- Index of the first tap, in crossing order, of the segment that holds `sx`: the last tap crossed at or before it, or the first or last segment (R88). -/
def segmentOf (stamps : List Nat) (sx : Int) : Nat :=
  min 7 ((stamps.filter fun (s : Nat) => decide ((s : Int) ≤ sx)).length - 1)

/-- T of R88 with 32 fractional bits: `stamps` and `volts` in crossing order. -/
def rawT (stamps : List Nat) (volts : List Int) (sx : Int) : Int :=
  let i := segmentOf stamps sx
  let sj : Int := stamps.getD i 0
  let sk : Int := stamps.getD (i + 1) 0
  let cj := volts.getD i 0
  let ck := volts.getD (i + 1) 0
  if sk = sj then cj * (2 ^ 32 : Nat)
  else cj * (2 ^ 32 : Nat) + roundDiv ((sx - sj) * (ck - cj) * (2 ^ 32 : Nat)) (sk - sj)

/-- A GAIN of 0 is used as 2^30 (R89). -/
def gainOf (g : Nat) : Int := if g = 0 then (2 ^ 30 : Nat) else (g : Int)

/-- OFS and GAIN of an input in a range (R89). -/
def Chan.coefs (c : Chan) (isI low : Bool) : Int × Int :=
  if !isI then (sgn 32 (c.get CH_VOFS_OFS), gainOf (c.get CH_VGAIN_GAIN))
  else if low then (sgn 32 (c.get CH_IOFSL_OFS), gainOf (c.get CH_IGAINL_GAIN))
  else (sgn 32 (c.get CH_IOFSH_OFS), gainOf (c.get CH_IGAINH_GAIN))

/-- The unrounded code, 32 fractional bits, of a raw T value with as many (R89). -/
def Chan.uOf (c : Chan) (isI low : Bool) (t32 : Int) : Int :=
  let (ofs, gain) := c.coefs isI low
  let tc := roundDiv ((t32 - ofs * (2 ^ 32 : Nat)) * gain) (2 ^ 30 : Nat)
  if isI && !low then tc else roundDiv tc 10

/-- The code of a raw T value, rounded once (R89). -/
def Chan.codeOf (c : Chan) (isI low : Bool) (t32 : Int) : Int :=
  let (ofs, gain) := c.coefs isI low
  let tc := roundDiv ((t32 - ofs * (2 ^ 32 : Nat)) * gain) (2 ^ 30 : Nat)
  roundDiv tc (if isI && !low then (2 ^ 32 : Nat) else 10 * (2 ^ 32 : Nat))

/-- Outside the specified range (R90). -/
def ovrOf (isI low : Bool) (code : Int) : Bool :=
  if !isI then code < -16000000 || 24000000 < code
  else if low then code < -16000000 || 16000000 < code
  else code < -160000000 || 160000000 < code

/-- The span-end code of a CLIP conversion (R90). -/
def clipCode (isI low above : Bool) : Int :=
  if isI && !low then (if above then 248000000 else -168000000)
  else (if above then 24800000 else -16800000)

/-- The I-range in force at DT `t`: 1 = L (R94). -/
def Chan.rangeAt (c : Chan) (t : Nat) : Bool :=
  if t < c.irAt then c.irPrev == 1 else c.on CH_MCTL_IRANGE

/-- Age in whole minutes of the last completed calibration at DT `t`; none before the first (R97). -/
def Chan.calAge (c : Chan) (isI : Bool) (t : Nat) : Option Nat :=
  (if isI then c.ageI else c.ageV).map fun a => (t - a) / (60 * 204800000000)

/-- The flag word of a conversion (R91, bit order of CH_IFLG). STALE: the last calibration is more than 60 minutes old. -/
def Chan.flagsOf (c : Chan) (isI falling ovr clip merged taperr tdcerr : Bool) (dt : Nat) : Nat :=
  let low := c.rangeAt dt
  let blank := if isI then c.irAt ≤ dt && dt < c.blank else dt < c.blankV
  let cm := if isI then c.cmI else c.cmV
  let calb := if isI then c.calI else c.calV
  let stale := match (if isI then c.ageI else c.ageV) with
    | some a => a + 3600 * 204800000000 < dt
    | none => true
  let bad := clip || taperr || blank || cm || calb || tdcerr || (merged && c.on CH_MCTL_MRGX)
  b2n (!bad) + 2 * b2n falling + 4 * b2n ovr + 8 * b2n clip + 16 * b2n merged + 32 * b2n taperr +
    64 * b2n blank + 128 * b2n cm + 256 * b2n calb + 512 * b2n stale + 1024 * b2n tdcerr +
    2048 * b2n (isI && low)

/-- A conversion with a crossing: raw stamp `s`, coarse and MERGED where another comparator holds the TDC (R114), tap stamps in crossing order (R88 to R92). -/
def Chan.convert (c : Chan) (isI falling taperr tdcerr merged : Bool) (s : Nat) (stamps : List Nat)
    (volts : List Int) (halfEnd : Nat) : Conv :=
  let (s, merged, _) := tdcShared merged (if isI then c.tdcI else c.tdcV) s
  let dly := sgn 32 (c.get (if isI then CH_IDLY_DLY else CH_VDLY_DLY))
  let sx := (s : Int) - dly
  let low := isI && c.rangeAt sx.toNat
  let t := rawT stamps volts sx
  let code := c.codeOf isI low t
  let dt := if taperr then halfEnd else sx.toNat
  ⟨isI, code, c.uOf isI low t, dt,
    c.flagsOf isI falling (ovrOf isI low code) false merged taperr tdcerr dt⟩

/-- A CLIP conversion, formed at the end of its half-ramp (R90, R92). -/
def Chan.clip (c : Chan) (isI falling taperr tdcerr above : Bool) (halfEnd : Nat) : Conv :=
  let code := clipCode isI (c.rangeAt halfEnd) above
  ⟨isI, code, code * (2 ^ 32 : Nat), halfEnd, c.flagsOf isI falling false true false taperr tdcerr halfEnd⟩

def Conv.valid (k : Conv) : Bool := bit k.flags 0
def Conv.falling (k : Conv) : Bool := bit k.flags 1

/-! ### Averages -/

/-- One conversion offered to an average (R93, R229). -/
def Avg.take (a : Avg) (k : Conv) : Avg :=
  if a.need ≤ a.covered then a
  else if k.dt < a.issue || (a.align && a.covered == 0 && k.falling) then a
  else
    let a := { a with covered := a.covered + 1 }
    let rg := bit k.flags 11
    let a := match a.range with
      | some r => { a with marks := if r != rg then bor a.marks 8 else a.marks, range := some rg }
      | none => { a with range := some rg }
    if k.valid then
      { a with
        m := a.m + 1
        sum := a.sum + k.u
        marks := bor a.marks (b2n (bit k.flags 2) + 2 * b2n (bit k.flags 4) + 4 * b2n (bit k.flags 9))
        first := if a.m == 0 then k.dt else a.first
        last := k.dt }
    else a

/-- The extended code of an average (R93); 0 when no conversion was VALID. -/
def Avg.code (a : Avg) : Int := if a.m = 0 then 0 else roundDiv (256 * a.sum) ((a.m : Int) * (2 ^ 32 : Nat))

/-- The info word of R229. -/
def Avg.info (a : Avg) (short : Bool) : Nat :=
  a.m + a.marks * 2 ^ 24 + b2n short * 2 ^ 28 + b2n (a.m == 0) * 2 ^ 29 + a.covered * 2 ^ 32

/-- The result of an average placed in CH_MV or CH_MI (R229). -/
def Chan.putAvg (isI short : Bool) (a : Avg) (c : Chan) : Chan :=
  let r := c.regs
  if isI then
    let r := (((r.set CH_MIRES_CODE (uns 64 a.code)).set CH_MIINFO_INFO (a.info short)).set CH_MIFIRST_DT a.first).set CH_MILAST_DT a.last
    { c with regs := (r.setB CH_MSTAT_IBUSY false).setB CH_MSTAT_IDONE true, avgI := none }
  else
    let r := (((r.set CH_MVRES_CODE (uns 64 a.code)).set CH_MVINFO_INFO (a.info short)).set CH_MVFIRST_DT a.first).set CH_MVLAST_DT a.last
    { c with regs := (r.setB CH_MSTAT_VBUSY false).setB CH_MSTAT_VDONE true, avgV := none }

/-- A new average on an input (R229, R230): an earlier one is discarded. -/
def Chan.startAvg (isI : Bool) (a : Avg) (c : Chan) : Chan :=
  if isI then
    { c with regs := (c.regs.setB CH_MSTAT_IBUSY true).setB CH_MSTAT_IDONE false, avgI := some a }
  else
    { c with regs := (c.regs.setB CH_MSTAT_VBUSY true).setB CH_MSTAT_VDONE false, avgV := some a }

/-! ### Expectations -/

/-- Does entry `e` test quantity `q` at DT `t` (R117, R222). -/
def Chan.xOpen (c : Chan) (e q t : Nat) : Bool :=
  let t0 := c.get CH_TSTART_DT
  let close := c.ac.xw e 5
  c.ac.xEn e && bits (c.ac.xw e 0) 1 3 == q && c.get CH_TSTART_DT ≤ t && t0 + c.ac.xw e 4 * 128 ≤ t &&
    (close == 0 || t < t0 + close * 128) && (c.running || t < c.get CH_ENDDT_DT)

/-- The entries whose test of quantity `q` fails for the value at DT `t` (R222). -/
def Chan.xFails (c : Chan) (q t : Nat) (v : Int) : List Nat :=
  (List.range 16).filter fun e =>
    c.xOpen e q t && !(sgn 32 (c.ac.xw e 1) ≤ v && v ≤ sgn 32 (c.ac.xw e 2))

/-- Marks a failure of entry `e`: FAILED, and that its action has been taken (R222). -/
def Chan.xMark (e : Nat) (c : Chan) : Chan :=
  { c.set CH_XSTAT_FAILED (bor (c.get CH_XSTAT_FAILED) (2 ^ e)) with acted := bor c.acted (2 ^ e) }

/-- The step's XID, XABORT and XSNF after an ABORT or SNUFF action of entry `e` (R222, R240). -/
def Chan.xAction (e : Nat) (abort : Bool) (c : Chan) : Chan :=
  let had := c.on CH_XSTAT_XABORT || c.on CH_XSTAT_XSNF
  let c := if had then c else c.set CH_XSTAT_XID e
  if abort then c.setB CH_XSTAT_XABORT true else c.setB CH_XSTAT_XSNF true

/-! ### Impedance -/

/-- Sine phase at DT `t` of a format started at `s`, in units of 2^-13 of the 32-bit accumulator, not reduced (R151). -/
def StepSet.finePhase (st : StepSet) (s t : Nat) : Nat := st.fw 4 * 8192 + st.ftw * (t - s)

/-- The DT at which the fine phase first reaches `k` whole turns. -/
def StepSet.wrapAt (st : StepSet) (s k : Nat) : Nat :=
  s + (k * 2 ^ 45 - st.fw 4 * 8192 + st.ftw - 1) / st.ftw

/-- The first phase wrap at or after `t` (R151): its number and DT. -/
def StepSet.wrapFrom (st : StepSet) (s t : Nat) : Nat × Nat :=
  let k := (st.finePhase s (max s t) + 2 ^ 45 - 1) / 2 ^ 45
  let k := if st.wrapAt s k < t then k + 1 else k
  (k, st.wrapAt s k)

/-- The end of a window of `m` periods that opens at `w0` (R151). -/
def StepSet.windowEnd (st : StepSet) (s w0 m : Nat) : Nat :=
  st.wrapAt s (st.finePhase s w0 / 2 ^ 45 + m)

/-- sin and cos, 60 fractional bits, of a fine phase. -/
def sinCos (ph : Nat) : Int × Int :=
  let p := ph % 2 ^ 45
  let q := p / 2 ^ 43
  let x : Int := (piQ96 * (p % 2 ^ 43) / 2 ^ 44 : Nat)
  let y : Int := (piQ96 / 2 : Nat) - x
  let f := fun z : Int => roundDiv (sinSeries (z * z / (2 ^ 96 : Nat)) 24 1 z z) (2 ^ 36 : Nat)
  let s := f x
  let c := f y
  match q with
  | 0 => (s, c)
  | 1 => (c, -s)
  | 2 => (-s, -c)
  | _ => (-c, s)

/-- Least-squares sums of a sample list: n, Σs, Σc, Σss, Σsc, Σcc, Σx, Σxs, Σxc. -/
def fitSums (xs : List (Nat × Int)) : List Int :=
  xs.foldl (fun a p =>
    let (s, c) := sinCos p.1
    List.zipWith (· + ·) a [1, s, c, s * s, s * c, c * c, p.2, p.2 * s, p.2 * c])
    [0, 0, 0, 0, 0, 0, 0, 0, 0]

def det3 (a b c d e f g h i : Int) : Int := a * (e * i - f * h) - b * (d * i - f * g) + c * (d * h - e * g)

/-- XR and XI of the fit as extended codes; none when it cannot be solved (R151, R152). -/
def fitPhasor (xs : List (Nat × Int)) : Option (Int × Int) :=
  if xs.length < 3 then none
  else match fitSums xs with
    | [n, s, c, ss, sc, cc, x, xs', xc] =>
      let d := det3 n s c s ss sc c sc cc
      if d = 0 then none
      else
        -- unknowns scale: sin and cos carry 60 fractional bits
        let dr := det3 n x c s xs' sc c xc cc
        let di := det3 n s x s ss xs' c sc xc
        some (roundDiv (256 * (2 ^ 60 : Nat) * dr) d, roundDiv (256 * (2 ^ 60 : Nat) * di) d)
    | _ => none

/-- Nearest integer to the square root of a / b. -/
def sqrtDiv (a b : Nat) : Nat := (isqrt (4 * a / b) + 1) / 2

/-- A result in `w` signed bits, or the free value where it does not fit the register (log entry 2). -/
def fitOr (w : Nat) (fv : Nat) (i : Int) : Nat :=
  if -((2 ^ (w - 1) : Nat) : Int) ≤ i && i < ((2 ^ (w - 1) : Nat) : Int) then uns w i else fv % 2 ^ w

/-- The impedance window completes at its end (R151, R152); `low` adds LOWN for fewer than 3 VALID conversions per period. -/
def Chan.impedEnd (fv : Nat) (c : Chan) : Chan :=
  match c.imp with
  | none => c
  | some m =>
    let pv := fitPhasor m.vs
    let pi := fitPhasor m.is
    let (vr, vi) := pv.getD (0, 0)
    let (ir, ii) := pi.getD (0, 0)
    let den := ir * ir + ii * ii
    let k := (c.shunt : Int) * 400
    let zr := if den = 0 then 0 else roundDiv ((vr * ir + vi * ii) * k) den
    let zi := if den = 0 then 0 else roundDiv ((vi * ir - vr * ii) * k) den
    let zm : Int := if den = 0 then 0
      else (sqrtDiv ((vr * vr + vi * vi) * k * k).toNat den.toNat : Nat)
    let low := m.low || pv.isNone || pi.isNone || den = 0 ||
      m.vs.length < 3 * m.periods || m.is.length < 3 * m.periods
    let r := c.regs
    let r := ((r.set CH_PHVRE_VAL (uns 64 vr)).set CH_PHVIM_VAL (uns 64 vi)).set CH_PHIRE_VAL (uns 64 ir)
    let r := ((r.set CH_PHIIM_VAL (uns 64 ii)).set CH_ZRE_NOHM (fitOr 32 fv zr)).set CH_ZIM_NOHM (fitOr 32 (fv / 2 ^ 32) zi)
    let r := r.set CH_ZMAG_NOHM (if zm < (2 ^ 32 : Nat) then zm.toNat else fv / 2 ^ 64)
    let r := (r.set CH_ZCNT_NV (min 65535 m.vs.length)).set CH_ZCNT_NI (min 65535 m.is.length)
    let r := ((r.setB CH_ZSTAT_BUSY false).setB CH_ZSTAT_DONE true).set CH_ZSTAT_PER m.periods
    { c with regs := if low then r.setB CH_ZSTAT_LOWN true else r, imp := none }

/-- A VALID conversion inside an open impedance window (R151). -/
def Chan.impedTake (k : Conv) (c : Chan) : Chan :=
  match c.imp, c.fmtStart with
  | some m, some s =>
    match m.w0 with
    | some w0 =>
      if k.valid && w0 ≤ k.dt && k.dt < c.ac.windowEnd s w0 m.periods then
        let ph := c.ac.finePhase s k.dt % 2 ^ 45
        let m := if k.isI then { m with is := m.is ++ [(ph, k.code)] } else { m with vs := m.vs ++ [(ph, k.code)] }
        let per := c.ac.finePhase s k.dt / 2 ^ 45 - c.ac.finePhase s w0 / 2 ^ 45
        { c.set CH_ZSTAT_PER per with imp := some m }
      else c
    | none => c
  | _, _ => c

/-! ### Conversions reach the channel -/

/-- A conversion enters the channel's result registers, the loop group, averages, accumulators and the impedance window (R92, R93, R105, R136, R145, R151). -/
def Chan.take (k : Conv) (c : Chan) : Chan :=
  let r := c.regs
  let r :=
    if k.isI then
      (((r.set CH_IFLG_SEQ (c.get CH_IFLG_SEQ + 1)).set CH_IFLG_FLAGS k.flags).set CH_ICODE_CODE (uns 32 k.code)).set CH_IDT_DT k.dt
    else
      (((r.set CH_VFLG_SEQ (c.get CH_VFLG_SEQ + 1)).set CH_VFLG_FLAGS k.flags).set CH_VCODE_CODE (uns 32 k.code)).set CH_VDT_DT k.dt
  let c := { c with regs := r }
  let c := if k.isI then { c with avgI := c.avgI.map fun a => Avg.take a k }
    else { c with avgV := c.avgV.map fun a => Avg.take a k }
  let c := c.impedTake k
  let c := if k.isI && !bit k.flags 6 && c.irHold.any (· ≤ k.dt) then { c with irHold := none } else c
  if !k.valid then c
  else if k.isI then
    { c with
      gic := c.gic ++ [k.code]
      gi := if c.edgeBlank k.dt then c.gi else c.gi ++ [(c.targetAt k.dt - fx k.code, c.fsAt k.dt)]
      ipts := c.ipts ++ [⟨k.code, k.dt, c.shuntAt k.dt, c.halves, k.flags⟩]
      halves := 0 }
  else { c with gv := c.gv ++ [k.code], vpts := (c.vpts ++ [(k.dt, k.code)]) }

/-! ### Accumulators -/

/-- The V-code, 32 fractional bits, at DT `t` from the bracketing VALID V conversions within `p` of it; none when there is neither (R145). -/
def Chan.vAt (c : Chan) (t p : Nat) : Option Int :=
  let before := (c.vpts.filter fun v => v.1 ≤ t && t ≤ v.1 + p).getLast?
  let after := (c.vpts.filter fun v => t < v.1 && v.1 ≤ t + p).head?
  match before, after with
  | some a, some b => some (a.2 * (2 ^ 32 : Nat) + openDiv ((b.2 - a.2) * ((t - a.1 : Nat) : Int) * (2 ^ 32 : Nat)) ((b.1 - a.1 : Nat) : Int))
  | some a, none => some (a.2 * (2 ^ 32 : Nat))
  | none, some b => some (b.2 * (2 ^ 32 : Nat))
  | none, none => none

/-- Are the bracketing V values of an I conversion at `t` known at `now`: a later one within `p`, or `p` and 1 µs gone (R145). -/
def Chan.vKnown (c : Chan) (t p now : Nat) : Bool :=
  (c.vpts.any fun v => t < v.1 && v.1 ≤ t + p) || t + p + usLen ≤ now

/-- ΔQ and ΔE of an interval with 32 fractional bits (R145): codes, shunts, V-codes with 32 fractional bits, length in fine steps. -/
def deltaQE (a b : IPoint) (va vb : Int) : Int × Int :=
  let d : Int := ((b.dt - a.dt : Nat) : Int)
  let ca := if a.shunt = 0 then 0 else a.code
  let cb := if b.shunt = 0 then 0 else b.code
  let sa : Int := (max 1 a.shunt : Nat)
  let sb : Int := (max 1 b.shunt : Nat)
  (openDiv ((ca * sb + cb * sa) * 6250 * d * (2 ^ 32 : Nat)) (2 * 1000 * 2048 * sa * sb),
   openDiv ((va * ca * sb + vb * cb * sa) * d * 1562500) (2 * 1000000000 * 1000 * 2048 * sa * sb))

/-- Power in mW of an I point with its V-code, 32 fractional bits (R222): V in 250 nV, I in 0.625 nV over nΩ. -/
def powerMw (p : IPoint) (v : Int) : Int :=
  if p.shunt = 0 then 0 else openDiv (v * p.code * 15625) ((2 ^ 32 : Nat) * 100000000 * (p.shunt : Int))

/-- Adds an interval to the accumulators: the whole to the totals, the part after the commit to the step (R145). -/
def Chan.addInterval (a b : IPoint) (va vb : Int) (c : Chan) : Chan :=
  let (q, e) := deltaQE a b va vb
  let t0 := c.get CH_TSTART_DT
  let len : Int := ((b.dt - a.dt : Nat) : Int)
  let part : Int := ((b.dt - max a.dt t0 : Nat) : Int)
  let share := fun x : Int => if t0 ≤ a.dt then x else openDiv (x * part) (max 1 len)
  { c with
    qtot := sat 96 (c.qtot + q), etot := sat 96 (c.etot + e)
    qstep := sat 96 (c.qstep + share q), estep := sat 96 (c.estep + share e) }

/-- One I point leaves the queue once its V is known (R145, R146): the interval from the point before is integrated. Answers the point, its power strobe and the channel; `p` is the Taper period. -/
def Chan.integrate (p now : Nat) (c : Chan) : Chan × Option (IPoint × Int) :=
  match c.ipts with
  | [] => (c, none)
  | b :: rest =>
    if !c.vKnown b.dt p now then (c, none)
    else
      let v := c.vAt b.dt p
      let vb := v.getD 0
      let gap := v.isNone || b.shunt = 0 || 4 < b.halves
      let c := if gap then c.setB CH_RSTAT_QGAP true else c
      let c := match c.accPrev with
        | some (a, va) => c.addInterval a b va vb
        | none => c
      let keep := c.vpts.filter fun v => b.dt ≤ v.1 + p
      ({ c with ipts := rest, accPrev := some (b, vb), vpts := keep }, some (b, powerMw b vb))

/-! ### Window comparators -/

/-- The DAC code of a threshold given as a V-code or I-code (R107), and whether it was clamped. -/
def Chan.dacOf (c : Chan) (isI low : Bool) (code : Int) : Int × Bool :=
  let (ofs, gain) := c.coefs isI low
  let tc := if isI && !low then code else 10 * code
  let d := roundDiv (tc * (2 ^ 30 : Nat) + ofs * gain) (gain * 8000)
  (clampI (-32768) 32767 d, d < -32768 || 32767 < d)

/-- Loads the thresholds, hysteresis, edges and snuff enables of the active limit set for one input (R107, R126), recording clamps. -/
def Chan.loadInput (isI : Bool) (c : Chan) : Chan :=
  let low := isI && c.on CH_MCTL_IRANGE
  let (hi, ch) := c.dacOf isI low (sgn 32 (c.ac.limw (if isI then 2 else 0)))
  let (lo, cl) := c.dacOf isI low (sgn 32 (c.ac.limw (if isI then 3 else 1)))
  let w := c.ac.limw (if isI then 5 else 4)
  let r := c.regs
  if isI then
    let r := ((((((r.set CH_IWCFG_HI_EN (bits w 0 1)).set CH_IWCFG_HI_SNF (bits w 1 1)).set CH_IWCFG_HI_EDGE (bits w 2 2)).set CH_IWCFG_LO_EN (bits w 4 1)).set CH_IWCFG_LO_SNF (bits w 5 1)).set CH_IWCFG_LO_EDGE (bits w 6 2)).set CH_IWCFG_HYST (bits w 8 4)
    { c with regs := ((r.set CH_IWTHR_HI (uns 16 hi)).set CH_IWTHR_LO (uns 16 lo)).setB CH_WSTATE_ICLAMP (ch || cl) }
  else
    let r := ((((((r.set CH_VWCFG_HI_EN (bits w 0 1)).set CH_VWCFG_HI_SNF (bits w 1 1)).set CH_VWCFG_HI_EDGE (bits w 2 2)).set CH_VWCFG_LO_EN (bits w 4 1)).set CH_VWCFG_LO_SNF (bits w 5 1)).set CH_VWCFG_LO_EDGE (bits w 6 2)).set CH_VWCFG_HYST (bits w 8 4)
    { c with regs := ((r.set CH_VWTHR_HI (uns 16 hi)).set CH_VWTHR_LO (uns 16 lo)).setB CH_WSTATE_VCLAMP (ch || cl) }

/-- Enable, SNF, EDGE and the (threshold, hysteresis, enable) triple of comparator `k`: 0 V.HI, 1 V.LO, 2 I.HI, 3 I.LO. -/
def Chan.cmpEn (c : Chan) (k : Nat) : Bool :=
  c.on (match k with | 0 => CH_VWCFG_HI_EN | 1 => CH_VWCFG_LO_EN | 2 => CH_IWCFG_HI_EN | _ => CH_IWCFG_LO_EN)
def Chan.cmpSnf (c : Chan) (k : Nat) : Bool :=
  c.on (match k with | 0 => CH_VWCFG_HI_SNF | 1 => CH_VWCFG_LO_SNF | 2 => CH_IWCFG_HI_SNF | _ => CH_IWCFG_LO_SNF)
def Chan.cmpEdge (c : Chan) (k : Nat) : Nat :=
  c.get (match k with | 0 => CH_VWCFG_HI_EDGE | 1 => CH_VWCFG_LO_EDGE | 2 => CH_IWCFG_HI_EDGE | _ => CH_IWCFG_LO_EDGE)
def Chan.cmpKey (c : Chan) (k : Nat) : Nat × Nat × Bool :=
  (c.get (match k with | 0 => CH_VWTHR_HI | 1 => CH_VWTHR_LO | 2 => CH_IWTHR_HI | _ => CH_IWTHR_LO),
   c.get (if k < 2 then CH_VWCFG_HYST else CH_IWCFG_HYST), c.cmpEn k)

/-- Trip state of comparator `k` (R106). -/
def Chan.tripped (c : Chan) (k : Nat) : Bool := bit (c.get CH_WSTATE_STATE) k
def Chan.setTrip (k : Nat) (b : Bool) (c : Chan) : Chan :=
  c.set CH_WSTATE_STATE (setBit (c.get CH_WSTATE_STATE) k b)

/-- Does EDGE select the direction: 1 into trip, 2 out of it, 3 both (R109, R126). -/
def edgeSelects (edge : Nat) (into : Bool) : Bool := if into then bit edge 0 else bit edge 1

/-- The comparator is masked. -/
def Chan.masked (c : Chan) (k : Nat) : Bool := ((c.masks.getD k none)).isSome

/-- VMASK and IMASK follow the comparators' masks (R111). -/
def Chan.showMasks (c : Chan) : Chan :=
  (c.setB CH_WSTATE_VMASK (c.masked 0 || c.masked 1)).setB CH_WSTATE_IMASK (c.masked 2 || c.masked 3)

/-- Masks comparator `k` until `e`; a mask already running keeps its frozen state (R110, R111). -/
def Chan.mask (k : Nat) (e : Option Nat) (c : Chan) : Chan :=
  let before := match c.masks.getD k none with | some m => m.before | none => c.tripped k
  { c with masks := c.masks.set k (some ⟨e, before⟩) }.showMasks

/-- Loads both inputs at a commit at `C` and masks every comparator whose threshold, hysteresis or enable changed; a disabled comparator leaves its trip state (R107, R110). A range change masks the I comparators for its BLANK (R111). -/
def Chan.loadWindows (C : Nat) (c : Chan) : Chan :=
  let n := (c.loadInput false).loadInput true
  let n := (List.range 4).foldl (fun a k =>
    if a.cmpKey k != c.cmpKey k then
      let a := a.mask k (some (C + usLen))
      if a.cmpEn k then a else a.setTrip k false
    else a) n
  if n.irAt == C && C < n.blank then (n.mask 2 (some n.blank)).mask 3 (some n.blank) else n

/-- Appends a window event; a full FIFO counts it as LOST (R115). The Bool says that it was lost. -/
def Chan.pushEvent (e : WEntry) (c : Chan) : Chan × Bool :=
  if c.fifo.length < 16 then ({ c with fifo := c.fifo ++ [e] }, false)
  else (c.bump CH_WFSTAT_LOST 1, true)

/-- A transition of comparator `k`: the stamp is taken on the input's TDC, coarse where another comparator holds it (`held`), and corrected by its signed skew (R109, R112 to R114). Answers the channel, the entry written if any, whether it was lost, and whether it trips the Snuffer. -/
def Chan.transition (k : Nat) (into unc held : Bool) (t : Nat) (c : Chan) : Chan × Option WEntry × Bool × Bool :=
  if !c.cmpEn k || c.masked k || c.tripped k == into then (c, none, false, false)
  else
    let isI := 2 ≤ k
    let (s, merged, last) := tdcShared held (if isI then c.tdcI else c.tdcV) t
    let skew := sgn 32 (c.get (if isI then CH_ISKEW_SKEW else CH_VSKEW_SKEW))
    let trip := into && c.cmpSnf k
    let c := if isI then { c with tdcI := last } else { c with tdcV := last }
    let c := c.setTrip k into
    if edgeSelects (c.cmpEdge k) into || trip then
      let e : WEntry := ⟨k, into, merged, unc, false, trip, ((s : Int) - skew).toNat⟩
      let (c, lost) := c.pushEvent e
      (c, some e, lost, trip)
    else (c, none, false, false)

/-- The end of a comparator's mask with the state `now` found as a level (R110). -/
def Chan.maskEnd (k : Nat) (now : Bool) (t : Nat) (c : Chan) : Chan × Option WEntry × Bool × Bool :=
  match c.masks.getD k none with
  | none => (c, none, false, false)
  | some m =>
    let c := { c with masks := c.masks.set k none }.showMasks
    let st := now && c.cmpEn k
    let c := c.setTrip k st
    let trip := st && c.cmpSnf k
    if st != m.before && (edgeSelects (c.cmpEdge k) st || trip) then
      let e : WEntry := ⟨k, st, false, false, true, trip, t⟩
      let (c, lost) := c.pushEvent e
      (c, some e, lost, trip)
    else (c, none, false, trip)

/-- CH_WFINFO of an entry. -/
def WEntry.info (e : WEntry) : Nat :=
  e.comp + 4 * b2n e.into + 8 * b2n e.merged + 16 * b2n e.unc + 32 * b2n e.level + 64 * b2n e.snf + 128

end Sys2Proof.Machine
end

