-- ==== Sys2Proof/Machine/Lanes.lean ====
section
/-! DEFINITION. The drive lane and the status lane of a group (R157 to R167). -/

namespace Sys2Proof.Machine

def Grp.get (g : Grp) (f : Fld) : Nat := g.regs.get f
def Grp.on (g : Grp) (f : Fld) : Bool := g.regs.on f
def Grp.set (f : Fld) (v : Nat) (g : Grp) : Grp := { g with regs := g.regs.set f v }
def Grp.setB (f : Fld) (b : Bool) (g : Grp) : Grp := { g with regs := g.regs.setB f b }
def Grp.bump (f : Fld) (n : Nat) (g : Grp) : Grp := { g with regs := g.regs.bump f n }

/-- The 9 bytes of a message: 7 content bytes and their CRC-16, low byte first (R160). -/
def sealMsg (bs : List Nat) : List Nat := bs ++ toBytes 2 (crc16 bs)

/-- HEARTBEAT of global group `gg` in the superframe with sequence number `sf` (R160). -/
def heartbeat (gg sf : Nat) : List Nat := [0x01, 0xFF] ++ toBytes 2 sf ++ [gg, 0, 0]
def idleMsg : List Nat := [0, 0, 0, 0, 0, 0, 0]
/-- SETUP for channel mask `tgt` (R160). -/
def setupMsg (tgt range pol sstart tag : Nat) : List Nat :=
  [0x02, tgt, range + 4 * pol] ++ toBytes 2 sstart ++ [tag, 0]
def identifyMsg (tgt on : Nat) : List Nat := [0x03, tgt, on, 0, 0, 0, 0]

/-- Queues a message that became ready in frame `f` (R161). -/
def Grp.send (bs : List Nat) (f : Nat) (g : Grp) : Grp := { g with queue := g.queue ++ [⟨bs, f⟩] }

/-- Is `m` a waiting SETUP with the same range, polarity and soft start: then a further request joins it (R161). -/
def LaneMsg.joins (m : LaneMsg) (range pol sstart : Nat) : Bool :=
  m.bytes.getD 0 0 == 2 && m.bytes.getD 2 0 == range + 4 * pol && (m.bytes.drop 3).take 2 == toBytes 2 sstart

/-- Queues a SETUP of ball index `i` ready in frame `f`: joined to an identical pending one, or with the next TAG of the group (R161). Answers its TAG. -/
def Grp.sendSetup (i range f : Nat) (g : Grp) : Grp × Nat :=
  let pol := bits (g.get GRP_DLCFG_POL) i 1
  let ss := g.get GRP_DLCFG_SSTART
  match g.queue.find? fun m => m.joins range pol ss with
  | some m =>
    let tag := m.bytes.getD 5 0
    let m' : LaneMsg := { m with
      bytes := setupMsg (bor (m.bytes.getD 1 0) (2 ^ i)) range pol ss tag, ready := max m.ready f }
    ({ g with queue := g.queue.map fun x => if x = m then m' else x }, tag)
  | none =>
    let tag := (g.tag + 1) % 256
    ({ g.send (setupMsg (2 ^ i) range pol ss tag) f with tag := tag }, tag)

/-- The control-channel byte of frame `F` for global group `gg`, with the queue after it (R159 to R161). The comma of frame 0 has the 8-bit value 0xBC (R158). -/
def Grp.control (gg F : Nat) (g : Grp) : Grp × Nat :=
  let fs := F % 64
  let g := if fs == 0 then g.set GRP_DLSTAT_SFSEQ (F / 64) else g
  let g :=
    if fs % 9 == 1 then
      if fs == 1 then { g with slot := sealMsg (heartbeat gg (F / 64 % 65536)) }
      else match g.queue.find? fun m => m.ready < F with
        | some m => { g with slot := sealMsg m.bytes, queue := g.queue.erase m }
        | none => { g with slot := sealMsg idleMsg }
    else g
  (g, if fs == 0 then 0xBC else g.slot.getD ((fs - 1) % 9) 0)

/-- The drive frame with stream byte `a` and enable byte `b` (R157, R158). -/
def Grp.sendFrame (gg F a b : Nat) (g : Grp) : Grp :=
  let (g, c) := g.control gg F
  { g with frame := [a, b, c, crc8 [a, b, c]], comma := F % 64 == 0 }

/-- A good status frame in the group's registers (R162, R163): lock after 4 in a row, heartbeat and temperature checks. -/
def Grp.status (now fault range temp echo tag flags : Nat) (desc : Nat) (g : Grp) : Grp :=
  let late := 8 < (g.get GRP_DLSTAT_SFSEQ + 256 - echo % 256) % 256
  let hot := g.get GRP_SLCFG_TMAX ≤ temp
  let n := if hot then g.hot + 1 else 0
  let d := bits flags 4 4
  let r := g.regs
  let r := (((r.set GRP_SLSTAT_TAG tag).set GRP_SLSTAT_FAULT fault).set GRP_SLSTAT_TEMP temp).setB GRP_SLSTAT_IDACT (bit flags 2)
  let r := ((r.setB GRP_SLSTAT_TWARN (bit flags 1)).setB GRP_SLSTAT_READY (bit flags 0)).setB GRP_SLSTAT_HBOK (!late)
  let r := (r.set GRP_SLRANGE_ECHO echo).set GRP_SLRANGE_RANGE range
  let r := r.set (GRP_SLDESC_DESC (d / 4)) (setBits (r.get (GRP_SLDESC_DESC (d / 4))) (8 * (d % 4)) 8 desc)
  let r := if 4 ≤ g.good + 1 then r.setB GRP_SLSTAT_LOCK true else r
  { g with
    regs := r
    good := min 4 (g.good + 1)
    lastGood := some now
    hot := min 4 n
    hbBad := late && (g.on GRP_SLCFG_HBCHK || g.hbBad)
    tempBad := hot && (4 ≤ n || g.tempBad) }

/-- A bad status frame: discarded and counted (R163). -/
def Grp.badStatus (g : Grp) : Grp := { g.bump GRP_SLCNT_CRCERR 1 with good := 0, hot := 0 }

/-! ### Range changes of a channel -/

/-- The request of a power-stage range change at DT `now` (R167, step 1). -/
def Chan.requestRange (now target : Nat) (commits : Option Nat) (c : Chan) : Chan :=
  let b0 := boundaryAfter now + c.deskew
  let r := (c.regs.setB CH_PSCTL_BUSY true).set CH_PSCTL_TARGET target
  { c with regs := r, ps := some { target := target, b0 := b0, commits := commits } }

/-- The SETUP of the change has been queued with TAG `tag`, its polarity and its soft start (R161, R167, step 2). -/
def Chan.setupSent (tag : Nat) (pol : Bool) (sstart now : Nat) (c : Chan) : Chan :=
  { c with
    regs := c.regs.set CH_PSCTL_TAG tag
    ps := c.ps.map fun p => { p with tag := some tag, pol := pol, sstart := sstart, sent := now } }

/-- Waits the channel's change for the acknowledge of `tag`. -/
def Chan.waitsTag (tag : Nat) (c : Chan) : Bool :=
  match c.ps with | some p => p.tag == some tag && p.resume.isNone | none => false

/-- The acknowledge is accepted at decision DT `now` (R167, steps 3 and 4). -/
def Chan.acked (now : Nat) (c : Chan) : Chan :=
  match c.ps with
  | some p =>
    { c with
      regs := c.regs.set CH_RSTAT_PSR p.target
      psrPrev := c.psr
      psrFrom := now
      setupAcked := true
      polInv := p.pol
      imp := c.imp.map fun m => { m with low := true }
      ps := some { p with resume := some (boundaryAfter now + c.deskew) } }
  | none => c

/-- The acknowledge timeout at `now` (R167, step 5); the caller snuffs with PS_RANGE. -/
def Chan.ackTimeout (now : Nat) (c : Chan) : Chan :=
  match c.ps with
  | some p =>
    { c.setB CH_PSCTL_TMO true with
      ps := some { p with timedOut := true, resume := some (boundaryAfter now + c.deskew) } }
  | none => c

/-- The resume boundary (R167, steps 4 and 5): BUSY clears, the clamp ramps from here, and a commit that waited for the implicit change falls due (R165). -/
def Chan.resumeRange (c : Chan) : Chan :=
  match c.ps with
  | some p =>
    match p.resume with
    | some r =>
      { c.setB CH_PSCTL_BUSY false with
        ps := none
        psOk := !p.timedOut
        rampUp := if c.get CH_PSCTL_SOFT = 0 then none else some r
        commitAt := if p.commits.isSome then some r else c.commitAt
        lateBy := match p.commits with | some C => r - C | none => c.lateBy }
    | none => c
  | none => c

end Sys2Proof.Machine
end

