-- ==== Sys2Proof/Machine/Cells.lean ====
section
/-! DEFINITION. Cells of addressed memory in their canonical form: what the banks, DDR5 space and the set-up buffer are made of (R1, R363, R433). -/

namespace Sys2Proof.Machine

/-- What a byte that is not listed reads as: 0 (R363, R433). -/
def memDefault : BitVec 8 := 0

/-- The byte at `a`. -/
def memGet (a : Nat) : List Host.Cell → BitVec 8
  | [] => memDefault
  | c :: t => if c.1 = a then c.2 else memGet a t

/-- A cell put in its place. -/
def cellPut (a : Nat) (b : BitVec 8) : List Host.Cell → List Host.Cell
  | [] => [(a, b)]
  | c :: t => if a < c.1 then (a, b) :: c :: t else c :: cellPut a b t

/-- The cells with byte `a` holding `b`: addresses stay rising, and a byte at its default is not listed. -/
def memPut (a : Nat) (b : BitVec 8) (m : List Host.Cell) : List Host.Cell :=
  let rest := m.filter fun c => decide (c.1 ≠ a)
  if b = memDefault then rest else cellPut a b rest

/-- The canonical form: addresses strictly rising, no byte at its default. -/
def Memory.wf : List Host.Cell → Bool
  | [] => true
  | [c] => decide (c.2 ≠ memDefault)
  | c :: d :: t => decide (c.2 ≠ memDefault) && decide (c.1 < d.1) && Memory.wf (d :: t)

/-- Writes the bytes of `v`, `n` of them, from `a` on (R1). -/
def memWrite (a v : Nat) : Nat → List Host.Cell → List Host.Cell
  | 0, m => m
  | n + 1, m => memWrite (a + 1) (v / 256) n (memPut a (BitVec.ofNat 8 v) m)

/-- The `n` bytes from `a` on as one value (R1). -/
def memRead (m : List Host.Cell) (a : Nat) : Nat → Nat
  | 0 => 0
  | n + 1 => (memGet a m).toNat + 256 * memRead m (a + 1) n

end Sys2Proof.Machine
end

