-- ==== Sys2Proof/Machine/Tab.lean ====
section
/-! DEFINITION. A fixed number of like units, numbered from 0: chiplets, clusters, threads, channels and so on. -/

namespace Sys2Proof.Machine

/-- `n` units. -/
structure Tab (α : Type) (n : Nat) where
  val : List α
  len : val.length = n
deriving DecidableEq, Repr

/-- `n` units, all alike. -/
def Tab.all_ {n : Nat} {α : Type} (x : α) : Tab α n := ⟨List.replicate n x, List.length_replicate⟩

/-- Unit `i`; past the last, `x`. -/
def Tab.getD {n : Nat} {α : Type} (t : Tab α n) (i : Nat) (x : α) : α := t.val.getD i x

/-- Unit `i` changed by `f`; past the last, nothing is. -/
def Tab.modify {n : Nat} {α : Type} (t : Tab α n) (i : Nat) (f : α → α) : Tab α n :=
  ⟨t.val.modify i f, (List.length_modify f t.val i).trans t.len⟩

/-- Every unit changed by `f`. -/
def Tab.map {n : Nat} {α : Type} (f : α → α) (t : Tab α n) : Tab α n :=
  ⟨t.val.map f, (List.length_map f).trans t.len⟩

/-- Every unit changed by `f`, which is given its number. -/
def Tab.mapIdx {n : Nat} {α : Type} (f : Nat → α → α) (t : Tab α n) : Tab α n :=
  ⟨t.val.mapIdx f, List.length_mapIdx.trans t.len⟩

/-- Unit `i` replaced. -/
def Tab.set {n : Nat} {α : Type} (t : Tab α n) (i : Nat) (x : α) : Tab α n := t.modify i fun _ => x

def Tab.all {n : Nat} {α : Type} (t : Tab α n) (p : α → Bool) : Bool := t.val.all p
def Tab.any {n : Nat} {α : Type} (t : Tab α n) (p : α → Bool) : Bool := t.val.any p
/-- The units for which `p` holds. -/
def Tab.filter {n : Nat} {α : Type} (p : α → Bool) (t : Tab α n) : List α := t.val.filter p

end Sys2Proof.Machine
end

