-- ==== Sys2Proof/Machine/Parts.lean ====
section
/-! DEFINITION. What the device's shared engines hold beside their registers: Beacon and Fefitil time transfer, fail unit, motion and cell table, DDR5 controller, display, sessions, flash and security, power. -/

namespace Sys2Proof.Machine

/-! ### Beacon and Fefitil (R59 to R76, R396, R397) -/

/-- A downstream Beacon frame (R62, R64). -/
structure BFrame where
  typ : Nat
  dest : Nat := 0xFF
  seq : Nat := 0
  execAt : Nat := 0
  payload : Nat := 0
  /-- the TRIG or SYNC came in an EVREL, which is forwarded and not sent anew (R397) -/
  relayed : Bool := false
deriving DecidableEq, Repr

/-- A Beacon execute-at waiting for its DT (R69): kind 0 TRIG, 1 SYNC, 2 ESTOP. -/
structure BExec where
  kind : Nat
  num : Nat
  origin : Nat
  at_ : Nat
deriving DecidableEq, Repr

/-- Delay calibration of one member (R67): position, exchanges done, sum of the round trips. -/
structure BCal where
  pos : Nat
  n : Nat
  sum : Int
deriving DecidableEq, Repr

/-- Beacon state. -/
structure Beacon where
  /-- frames the master has to send, in order -/
  downQ : List BFrame := []
  seq : Nat := 0
  /-- the downstream frame of the present cycle, empty when nothing was sent -/
  down : List Nat := []
  /-- a member's queued owned-slot requests (TYPE, number), its ESTOP, and its reply: due DT, TYPE, payload -/
  upQ : List (Nat × Nat) := []
  upEstop : Option Nat := none
  reply : Option (Nat × Nat × Nat) := none
  /-- the last upstream frame sent -/
  up : List Nat := []
  execs : List BExec := []
  /-- enumeration in progress: position offered (255 for the overflow probe), members acknowledged, DT of the offer (R66) -/
  enumPos : Option Nat := none
  found : Nat := 0
  offeredAt : Option Nat := none
  cal : Option BCal := none
  /-- instant of the last DREQ sent (R67) -/
  t1 : Nat := 0
  /-- cycles of a reply window still to come: 2 the silent one next, 1 the one after it (R65) -/
  hush : Nat := 0
  lastFrame : Nat := 0
  epochAt : Nat := 0
  /-- the last EXEC_AT at which each trigger number became visible, and the last boundary of each sync-start (R69) -/
  trigs : List (Nat × Nat) := []
  syncs : List (Nat × Nat) := []
deriving DecidableEq, Repr

/-- The timebase (R50 to R58). -/
structure Timebase where
  /-- a first lock has happened since power-on -/
  locked : Bool := false
  /-- pull-in to a re-qualified reference in progress: 1 REFIN, 2 Beacon clock -/
  pullIn : Option Nat := none
  /-- DT from which the present holdover counts whole milliseconds (R53) -/
  heldFrom : Option Nat := none
  /-- DT value that takes effect at the next tick boundary, and a DT step waiting for it (R56, R68) -/
  load : Option Nat := none
  stepBy : Option Int := none
deriving DecidableEq, Repr

/-- A reliable Fefitil frame (R396): link sequence number, type, content, DT last sent, tries. -/
structure FFrame where
  seq : Nat
  typ : Nat
  body : List Nat
  sent : Nat
  tries : Nat
deriving DecidableEq, Repr

/-- A Fefitil link: doubled offsets and round trips of the last clean exchanges (newest first), unclean run, instant of the last exchange sent, unacknowledged frames, next sequence number, and an offset to be removed (R73, R74, R396, R397). -/
structure FefLink where
  hist : List (Int × Int) := []
  unclean : Nat := 0
  t1 : Nat := 0
  fixOfs : Bool := false
  tx : List FFrame := []
  seq : Nat := 0
deriving DecidableEq, Repr

/-! ### Fail unit (R264 to R271) -/

/-- A failure queued for the fail unit (R265): the record but its SEQ, and the channel whose counter it adds to. -/
structure FailItem where
  ch : Nat
  src : Nat
  bytes : List Nat
deriving DecidableEq, Repr

/-- The fail unit. -/
structure FailUnit where
  queue : List FailItem := []
  /-- increments not yet added to the channel counters: (channel, SRC, count) (R270) -/
  carried : List (Nat × Nat × Nat) := []
  /-- DTs of the records waiting in the bank ring, oldest first (R268) -/
  waiting : List Nat := []
  /-- a drop since the ring was last not full (R269) -/
  dropped : Bool := false
  stopped : Bool := false
deriving DecidableEq, Repr

/-! ### Motion and the cell table (R310 to R341) -/

/-- One entry of the position schedule (R313). `arg` is the channel, sort slot, output or source; `slot` and `act` the edge slot of a WOPEN; `host` marks host entries. -/
structure Sched where
  pos : Int
  code : Nat
  arg : Nat
  slot : Nat := 0
  act : Nat := 0
  host : Bool := false
deriving DecidableEq, Repr

/-- A due entry and its stamp. -/
structure DueEntry where
  e : Sched
  stamp : Nat
deriving DecidableEq, Repr

/-- A sort slot (R328): cell, gate output once armed, the thread whose MSORT is in progress and its request block, the deadline missed, the gate cancelled meanwhile, the gate's position, entries left. -/
structure SortSlot where
  slot : Nat
  cell : Nat
  out : Option Nat := none
  owner : Option Nat := none
  block : Nat := 0
  late : Bool := false
  cut : Bool := false
  left : Nat := 2
deriving DecidableEq, Repr

/-- The motion engine. -/
structure Motion where
  /-- levels of A (1) and B (2) as decoded -/
  ab : Nat := 0
  /-- when the vernier TDCs of A, B, Z and XG were last taken -/
  tdc : List (Option Nat) := [none, none, none, none]
  sched : List Sched := []
  due : List DueEntry := []
  slots : List SortSlot := []
  /-- gate outputs that conduct or are about to: (output, start, end) -/
  gates : List (Nat × Nat × Nat) := []
  /-- counts (+1 or −1) with their stamps within the last millisecond, newest first (R310) -/
  counts : List (Int × Nat) := []
  /-- stamps of the forward counts that last reached the positions up to the present one, newest first (R195, class mpos) -/
  ups : List (Int × Nat) := []
  velAt : Nat := 0
deriving DecidableEq, Repr

/-- One leaf: record handle, UPDDT and digest bytes (R322). -/
structure Leaf where
  handle : Nat
  upd : Nat
  digest : List Nat
deriving DecidableEq, Repr

/-- A closed batch: number, leaves, close DT. -/
structure Batch where
  num : Nat
  leaves : List Leaf
  closeAt : Nat
deriving DecidableEq, Repr

/-- A bucket line of the cell cache (R321). -/
structure CLine where
  way : Nat
  bucket : Nat
  dirty : Bool
deriving DecidableEq, Repr

/-- The cell-table engine: cached buckets, most recently used first; the open batch and the DT of its first leaf; closed batches, oldest first. -/
structure CellTab where
  lines : List CLine := []
  leaves : List Leaf := []
  first : Nat := 0
  closed : List Batch := []
deriving DecidableEq, Repr

/-! ### DDR5 (R361 to R383) -/

/-- A queued DDR5 request: address of its line, write, DT of arrival, times bypassed. -/
structure DReq where
  line : Nat
  write : Bool
  bypassed : Nat := 0
deriving DecidableEq, Repr

/-- One activate-count table entry (R372): rank, bank (bank group and bank), row, count. -/
structure RhEntry where
  rank : Nat
  bank : Nat
  row : Nat
  count : Nat
deriving DecidableEq, Repr

/-- A DDR5 channel: queue, open rows (rank, bank, row), owed refreshes (rank, bank index, count), activate counts, actions due (rank, bank, row), drain mode, when the queue became empty, intervals of each rank since its clearing, self-refresh entry in progress. -/
structure DdrCh where
  queue : List DReq := []
  open_ : List (Nat × Nat × Nat) := []
  debt : List (Nat × Nat × Nat) := []
  rh : List RhEntry := []
  acts : List (Nat × Nat × Nat) := []
  drain : Bool := false
  emptyAt : Nat := 0
  ivals : List (Nat × Nat) := []
  rhSeen : Bool := false
  entering : Bool := false
deriving DecidableEq, Repr

/-- The DDR5 controller: DIMM organisation, channels, patrol position, stored bits with a correctable error: (line or word, device). -/
structure Ddr where
  ranks2 : Bool := false
  dens32 : Bool := false
  ch : Tab DdrCh 2 := Tab.all_ {}
  patrol : Nat := 0
deriving DecidableEq, Repr

/-! ### Display (R451 to R464) -/

/-- A mode: HACT, HFP, HSYNC, HBP, VACT, VFP, VSYNC, VBP, PCLK, LINK word (R452). -/
structure DMode where
  hact : Nat := 0xA00
  hfp : Nat := 0x30
  hsync : Nat := 0x20
  hbp : Nat := 0x50
  vact : Nat := 0x640
  vfp : Nat := 3
  vsync : Nat := 6
  vbp : Nat := 0x25
  khz : Nat := 0x418D4
  link : Nat := 0xA
deriving DecidableEq, Repr

/-- A layer as latched (R460). -/
structure DLayer where
  en : Bool := false
  fmt : Nat := 0
  opaque_ : Bool := false
  galpha : Nat := 0xFF
  wm : Nat := 4
  x : Nat := 0
  y : Nat := 0
  w : Nat := 0
  h : Nat := 0
  stride : Nat := 0
  addr : Nat := 0
deriving DecidableEq, Repr

/-- A display output: mode in force, mode staged, layers in force, inside vertical blank, line just composed, covered lines of the frame so far, underrun seen in the frame (a bit per layer). -/
structure Dsp where
  mode : DMode := {}
  staged : Option DMode := none
  layers : List DLayer := [{}, {}, {}]
  blank : Bool := true
  line : List Nat := []
  cov : List Nat := [0, 0, 0]
  under : Bool := false
  /-- training for a newly latched mode; training has failed -/
  fresh : Bool := false
  failed : Bool := false
deriving DecidableEq, Repr

/-! ### Sessions (R389 to R394) -/

/-- A message of the device (R389): SEQ (0 in ACK), TYPE, FLAGS, ARG, payload, DT last sent, retransmissions. -/
structure LMsg where
  seq : Nat
  kind : Nat
  flags : Nat
  arg : Nat
  body : List Nat
  sent : Nat
  tries : Nat
deriving DecidableEq, Repr

/-- A LAP session (R390 to R393): SESSION, port and DT of the latest authenticated message, last SEQ executed, requests held until the gap fills, next SEQ to send, unacknowledged messages in order (the first 64 are in flight), the DT from which an acknowledgement is owed, the last 64 responses by request SEQ, the BULK write in progress (address, length, bytes done). -/
structure Sess where
  open_ : Bool := false
  id : Nat := 0
  port : Nat := 0
  last : Nat := 0
  rx : Nat := 0
  held : List (Nat × LReq) := []
  tx : Nat := 1
  unacked : List LMsg := []
  ackDue : Option Nat := none
  done : List (Nat × List LMsg) := []
  bulk : Option (Nat × Nat × Nat) := none
deriving DecidableEq, Repr

/-! ### Flash, security engine and power (R402 to R446) -/

/-- A firmware slot (R405, R406): does its magic, format, REV, digest and signature check; its SVN. -/
structure Slot where
  ok : Bool := true
  svn : Nat := 0
deriving DecidableEq, Repr

/-- A patch container of the store (R408, R409): LEVEL, MINSVN, REV and PART match DEV_ID, RECORDS. -/
structure Patch where
  level : Nat
  minSvn : Nat
  fits : Bool
  records : Nat
deriving DecidableEq, Repr

/-- What the flash keeps across every reset (R404): ACTIVE and TRIAL, the slots, the patch store, the host-key fingerprints (32 words), the calibration store (per chiplet, per channel; empty while nothing is stored) and the wear snapshots of the service log, newest first. -/
structure Flash where
  active : Nat := 0
  trial : Option Nat := none
  slots : List Slot := [{}, {}]
  store : List Patch := []
  keys : List Nat := List.replicate 32 0
  calAfe : List Regs := []
  calCh : List Regs := []
  wear : List (List (Nat × Nat)) := []
deriving DecidableEq, Repr

/-- The security engine (R402 to R420). `op` is the command in progress (0 none), `image` and `patch` what PROGRAM and STORE checked, `setup` the DT of the last activity of a session set-up and whether BEGIN has completed, `buf` the 128 KiB set-up buffer, `fused` the blown fuses. -/
structure Sec where
  fused : Nat := 0
  flash : Flash := {}
  op : Nat := 0
  image : Option Slot := none
  patch : Option Patch := none
  setup : Option (Nat × Bool) := none
  buf : List Host.Cell := []
deriving DecidableEq, Repr

/-- Power and the Pilot domain (R41 to R48, R423 to R441). `phase`: 0 off, 1 held at the first step by RESET_N, 2 powered, 3 in DOZE. -/
structure Power where
  phase : Nat := 2
  /-- DT of the detection of a power-fail sequence in progress -/
  failAt : Option Nat := none
  /-- RESET_N is low; its release is a power-on -/
  rstLow : Bool := false
  cold : Bool := false
  /-- the Pilot domain runs -/
  pilot : Bool := true
  /-- fine steps since the last Pilot tick -/
  frac : Nat := 0
  /-- PIL_TIME when the core went off -/
  offAt : Option Nat := none
  /-- wake sources held during DOZE entry (R428) -/
  wake : Nat := 0
  /-- PIL_TIME at the entry edge, TB_HOLDUNC at entry, Pilot frequency measured at entry in micro-Hz (R430) -/
  dozeTick : Nat := 0
  dozeUnc : Nat := 0
  dozeFp : Nat := 32768000000
  /-- the last reset was a watchdog, host or MCK-escalation reset: event 376 follows at READY (R433) -/
  told : Bool := false
deriving DecidableEq, Repr

/-- Health evaluation (R446): hourly lives (DT, element and life where it is not 0), newest first; elements whose prediction is at or below HORIZON. -/
structure Health where
  hist : List (Nat × List (Nat × Nat)) := []
  soon : List Nat := []
  at_ : Nat := 0
deriving DecidableEq, Repr

end Sys2Proof.Machine
end

