-- ==== Sys2Proof/Machine/RegsAfe.lean ====
section
/-! DEFINITION. The registers of an AFE chiplet block: R104 and R127. Offsets count from the chiplet block. Each field definition gives offset, lowest bit, width, access code, reset value and whether only the Lamplighter may write it; names are the spec's, register then field. -/

namespace Sys2Proof.Machine

/-- Nominal reference-tap voltages, T-code (the table under R104). -/
def tapReset (j : Nat) : Nat :=
  [0xf6769800, 0xfa0a1f00, 0xfd9da600, 0x0, 0x2625a00, 0x5f5e100, 0x9896800, 0xbebc200, 0xe4e1c00].getD j 0

def AFE_CTL_TPR_EN : Fld := .mk 0x0 0 1 .rw 0 false
/-- AFE_CTL, as R104 of spec/04_taper_measurement.md lays it out. -/
def AFE_CTL : Reg := ⟨0x0, 4, [], fun _ => [AFE_CTL_TPR_EN]⟩

def AFE_TPRHALF_HALF : Fld := .mk 0x4 0 18 .rw 0x4e2 false
/-- AFE_TPRHALF, as R104 of spec/04_taper_measurement.md lays it out. -/
def AFE_TPRHALF : Reg := ⟨0x4, 4, [], fun _ => [AFE_TPRHALF_HALF]⟩

def AFE_TPRPHASE_PHASE : Fld := .mk 0x8 0 18 .rw 0 false
/-- AFE_TPRPHASE, as R104 of spec/04_taper_measurement.md lays it out. -/
def AFE_TPRPHASE : Reg := ⟨0x8, 4, [], fun _ => [AFE_TPRPHASE_PHASE]⟩

def AFE_TPRSTAT_HRCNT : Fld := .mk 0xc 16 16 .ro 0 false
def AFE_TPRSTAT_ENREJ : Fld := .mk 0xc 5 1 .w1c 0 false
def AFE_TPRSTAT_TAPFAIL4 : Fld := .mk 0xc 4 1 .ro 0 false
def AFE_TPRSTAT_TAPERR : Fld := .mk 0xc 3 1 .w1c 0 false
def AFE_TPRSTAT_RETIME : Fld := .mk 0xc 2 1 .ro 0 false
def AFE_TPRSTAT_DIR : Fld := .mk 0xc 1 1 .ro 0 false
def AFE_TPRSTAT_RUN : Fld := .mk 0xc 0 1 .ro 0 false
/-- AFE_TPRSTAT, as R104 of spec/04_taper_measurement.md lays it out. -/
def AFE_TPRSTAT : Reg := ⟨0xc, 4, [], fun _ => [AFE_TPRSTAT_HRCNT, AFE_TPRSTAT_ENREJ, AFE_TPRSTAT_TAPFAIL4, AFE_TPRSTAT_TAPERR, AFE_TPRSTAT_RETIME, AFE_TPRSTAT_DIR, AFE_TPRSTAT_RUN]⟩

def AFE_TPRSTART_DT : Fld := .mk 0x10 0 64 .ro 0 false
/-- AFE_TPRSTART, as R104 of spec/04_taper_measurement.md lays it out. -/
def AFE_TPRSTART : Reg := ⟨0x10, 8, [], fun _ => [AFE_TPRSTART_DT]⟩

def AFE_TAPV_V (j : Nat) : Fld := .mk (0x20 + 0x4 * j) 0 32 .rwl (tapReset j) false
/-- AFE_TAPV, as R104 of spec/04_taper_measurement.md lays it out. -/
def AFE_TAPV : Reg := ⟨0x20, 4, [(0x4, 9)], fun ix => let j := ix.getD 0 0; [AFE_TAPV_V j]⟩

def AFE_CALB_V : Fld := .mk 0x50 0 32 .rwl 0xbebc200 false
/-- AFE_CALB, as R104 of spec/04_taper_measurement.md lays it out. -/
def AFE_CALB : Reg := ⟨0x50, 4, [], fun _ => [AFE_CALB_V]⟩

def AFE_CALIH_I : Fld := .mk 0x54 0 32 .rwl 0x7a12000 false
/-- AFE_CALIH, as R104 of spec/04_taper_measurement.md lays it out. -/
def AFE_CALIH : Reg := ⟨0x54, 4, [], fun _ => [AFE_CALIH_I]⟩

def AFE_CALIL_I : Fld := .mk 0x58 0 32 .rwl 0xc35000 false
/-- AFE_CALIL, as R104 of spec/04_taper_measurement.md lays it out. -/
def AFE_CALIL : Reg := ⟨0x58, 4, [], fun _ => [AFE_CALIL_I]⟩

def AFE_CALCFG_INTERVAL : Fld := .mk 0x60 16 16 .rw 0x3c false
def AFE_CALCFG_NCAL : Fld := .mk 0x60 8 8 .rw 0x10 false
/-- AFE_CALCFG, as R104 of spec/04_taper_measurement.md lays it out. -/
def AFE_CALCFG : Reg := ⟨0x60, 4, [], fun _ => [AFE_CALCFG_INTERVAL, AFE_CALCFG_NCAL]⟩

def AFE_CALCMD_MASK : Fld := .mk 0x64 16 8 .wo 0 false
def AFE_CALCMD_TAP : Fld := .mk 0x64 8 4 .wo 0 false
def AFE_CALCMD_OP : Fld := .mk 0x64 0 4 .wo 0 false
/-- AFE_CALCMD, as R104 of spec/04_taper_measurement.md lays it out. -/
def AFE_CALCMD : Reg := ⟨0x64, 4, [], fun _ => [AFE_CALCMD_MASK, AFE_CALCMD_TAP, AFE_CALCMD_OP]⟩

def AFE_CALX_VAL : Fld := .mk 0x68 0 32 .rw 0 false
/-- AFE_CALX, as R104 of spec/04_taper_measurement.md lays it out. -/
def AFE_CALX : Reg := ⟨0x68, 4, [], fun _ => [AFE_CALX_VAL]⟩

def AFE_CALSTAT_RESULT : Fld := .mk 0x70 4 4 .ro 0 false
def AFE_CALSTAT_BUSY : Fld := .mk 0x70 0 1 .ro 0 false
/-- AFE_CALSTAT, as R104 of spec/04_taper_measurement.md lays it out. -/
def AFE_CALSTAT : Reg := ⟨0x70, 4, [], fun _ => [AFE_CALSTAT_RESULT, AFE_CALSTAT_BUSY]⟩

def AFE_CALRES_RES : Fld := .mk 0x74 0 32 .ro 0 false
/-- AFE_CALRES, as R104 of spec/04_taper_measurement.md lays it out. -/
def AFE_CALRES : Reg := ⟨0x74, 4, [], fun _ => [AFE_CALRES_RES]⟩

def AFE_SKCMD_MASK : Fld := .mk 0x80 16 8 .wo 0 false
def AFE_SKCMD_GO : Fld := .mk 0x80 0 1 .wo 0 false
/-- AFE_SKCMD, as R127 of spec/05_window_comparators_timing.md lays it out. -/
def AFE_SKCMD : Reg := ⟨0x80, 4, [], fun _ => [AFE_SKCMD_MASK, AFE_SKCMD_GO]⟩

def AFE_SKSTAT_SKIPPED : Fld := .mk 0x84 16 16 .ro 0 false
def AFE_SKSTAT_ERR : Fld := .mk 0x84 1 1 .w1c 0 false
def AFE_SKSTAT_BUSY : Fld := .mk 0x84 0 1 .ro 0 false
/-- AFE_SKSTAT, as R127 of spec/05_window_comparators_timing.md lays it out. -/
def AFE_SKSTAT : Reg := ⟨0x84, 4, [], fun _ => [AFE_SKSTAT_SKIPPED, AFE_SKSTAT_ERR, AFE_SKSTAT_BUSY]⟩

/-- Every register of the unit, for access by address. -/
def afeRegs : List Reg :=
  [AFE_CTL, AFE_TPRHALF, AFE_TPRPHASE, AFE_TPRSTAT, AFE_TPRSTART, AFE_TAPV, AFE_CALB, AFE_CALIH, AFE_CALIL, AFE_CALCFG, AFE_CALCMD, AFE_CALX] ++
  [AFE_CALSTAT, AFE_CALRES, AFE_SKCMD, AFE_SKSTAT]

end Sys2Proof.Machine
end

