-- ==== Sys2Proof/Machine/RegsCluster.lean ====
section
/-! DEFINITION. The registers of a cluster block: SEQ, MCE, dispatch, CAP and RG (R211, R262, R263, R290, R153, R239) by offset in the cluster block; thread (R212), capture channel (R291) and interval unit (R128) by offset in their own part. Each field definition gives offset, lowest bit, width, access code, reset value and whether only the Lamplighter may write it; names are the spec's, register then field. -/

namespace Sys2Proof.Machine

def STI_CTL_EVT : Fld := .mk 0x0 12 1 .rw 0 false
def STI_CTL_STOP_EDGE : Fld := .mk 0x0 10 2 .rw 0 false
def STI_CTL_START_EDGE : Fld := .mk 0x0 8 2 .rw 0 false
def STI_CTL_ARM : Fld := .mk 0x0 4 2 .rw 0 false
def STI_CTL_MODE : Fld := .mk 0x0 0 3 .rw 0 false
/-- STI_CTL, as R128 of spec/05_window_comparators_timing.md lays it out. -/
def STI_CTL : Reg := ⟨0x0, 4, [], fun _ => [STI_CTL_EVT, STI_CTL_STOP_EDGE, STI_CTL_START_EDGE, STI_CTL_ARM, STI_CTL_MODE]⟩

def STI_START_SEL : Fld := .mk 0x4 0 16 .rw 0 false
/-- STI_START, as R128 of spec/05_window_comparators_timing.md lays it out. -/
def STI_START : Reg := ⟨0x4, 4, [], fun _ => [STI_START_SEL]⟩

def STI_STOP_SEL : Fld := .mk 0x8 0 16 .rw 0 false
/-- STI_STOP, as R128 of spec/05_window_comparators_timing.md lays it out. -/
def STI_STOP : Reg := ⟨0x8, 4, [], fun _ => [STI_STOP_SEL]⟩

def STI_TMO_VAL : Fld := .mk 0xc 0 32 .rw 0 false
/-- STI_TMO, as R128 of spec/05_window_comparators_timing.md lays it out. -/
def STI_TMO : Reg := ⟨0xc, 4, [], fun _ => [STI_TMO_VAL]⟩

def STI_CMD_DISARM : Fld := .mk 0x10 1 1 .wo 0 false
def STI_CMD_ARM : Fld := .mk 0x10 0 1 .wo 0 false
/-- STI_CMD, as R128 of spec/05_window_comparators_timing.md lays it out. -/
def STI_CMD : Reg := ⟨0x10, 4, [], fun _ => [STI_CMD_DISARM, STI_CMD_ARM]⟩

def STI_STAT_ERR : Fld := .mk 0x14 9 1 .w1c 0 false
def STI_STAT_COARSE : Fld := .mk 0x14 8 1 .ro 0 false
def STI_STAT_UNC : Fld := .mk 0x14 7 1 .ro 0 false
def STI_STAT_MERGED : Fld := .mk 0x14 6 1 .ro 0 false
def STI_STAT_TIMEOUT : Fld := .mk 0x14 5 1 .w1c 0 false
def STI_STAT_SUB_RES : Fld := .mk 0x14 4 1 .ro 0 false
def STI_STAT_ORDER : Fld := .mk 0x14 3 1 .ro 0 false
def STI_STAT_DONE : Fld := .mk 0x14 2 1 .w1c 0 false
def STI_STAT_STARTED : Fld := .mk 0x14 1 1 .ro 0 false
def STI_STAT_ARMED : Fld := .mk 0x14 0 1 .ro 0 false
/-- STI_STAT, as R128 of spec/05_window_comparators_timing.md lays it out. -/
def STI_STAT : Reg := ⟨0x14, 4, [], fun _ => [STI_STAT_ERR, STI_STAT_COARSE, STI_STAT_UNC, STI_STAT_MERGED, STI_STAT_TIMEOUT, STI_STAT_SUB_RES, STI_STAT_ORDER, STI_STAT_DONE, STI_STAT_STARTED, STI_STAT_ARMED]⟩

def STI_RES_VAL : Fld := .mk 0x18 0 64 .ro 0 false
/-- STI_RES, as R128 of spec/05_window_comparators_timing.md lays it out. -/
def STI_RES : Reg := ⟨0x18, 8, [], fun _ => [STI_RES_VAL]⟩

def STI_TSTART_DT : Fld := .mk 0x20 0 64 .ro 0 false
/-- STI_TSTART, as R128 of spec/05_window_comparators_timing.md lays it out. -/
def STI_TSTART : Reg := ⟨0x20, 8, [], fun _ => [STI_TSTART_DT]⟩

def STI_TSTOP_DT : Fld := .mk 0x28 0 64 .ro 0 false
/-- STI_TSTOP, as R128 of spec/05_window_comparators_timing.md lays it out. -/
def STI_TSTOP : Reg := ⟨0x28, 8, [], fun _ => [STI_TSTOP_DT]⟩

def STI_TARM_DT : Fld := .mk 0x30 0 64 .ro 0 false
/-- STI_TARM, as R128 of spec/05_window_comparators_timing.md lays it out. -/
def STI_TARM : Reg := ⟨0x30, 8, [], fun _ => [STI_TARM_DT]⟩

def STI_CNT_CNT : Fld := .mk 0x38 0 32 .ro 0 false
/-- STI_CNT, as R128 of spec/05_window_comparators_timing.md lays it out. -/
def STI_CNT : Reg := ⟨0x38, 4, [], fun _ => [STI_CNT_CNT]⟩

def STI_FREQ_MHZ : Fld := .mk 0x40 0 64 .ro 0 false
/-- STI_FREQ, as R128 of spec/05_window_comparators_timing.md lays it out. -/
def STI_FREQ : Reg := ⟨0x40, 8, [], fun _ => [STI_FREQ_MHZ]⟩

def RG_LTBASE_BASE : Fld := .mk 0x31000 0 32 .rwl 0 false
/-- RG_LTBASE, as R153 of spec/06_regulation_formats_timing.md lays it out. -/
def RG_LTBASE : Reg := ⟨0x31000, 4, [], fun _ => [RG_LTBASE_BASE]⟩

def RG_SPBASE_BASE : Fld := .mk 0x31004 0 32 .rwl 0 false
/-- RG_SPBASE, as R153 of spec/06_regulation_formats_timing.md lays it out. -/
def RG_SPBASE : Reg := ⟨0x31004, 4, [], fun _ => [RG_SPBASE_BASE]⟩

def RG_SPCNT_CNT : Fld := .mk 0x31008 0 16 .rwl 0 false
/-- RG_SPCNT, as R153 of spec/06_regulation_formats_timing.md lays it out. -/
def RG_SPCNT : Reg := ⟨0x31008, 4, [], fun _ => [RG_SPCNT_CNT]⟩

def RG_FMTBASE_BASE : Fld := .mk 0x3100c 0 32 .rwl 0 false
/-- RG_FMTBASE, as R153 of spec/06_regulation_formats_timing.md lays it out. -/
def RG_FMTBASE : Reg := ⟨0x3100c, 4, [], fun _ => [RG_FMTBASE_BASE]⟩

def SEQ_CTL_HALT_EVT : Fld := .mk 0x0 9 1 .rw 1 false
def SEQ_CTL_QUIESCE : Fld := .mk 0x0 0 1 .rw 0 false
/-- SEQ_CTL, as R211 of spec/08_program_model_control.md lays it out. -/
def SEQ_CTL : Reg := ⟨0x0, 4, [], fun _ => [SEQ_CTL_HALT_EVT, SEQ_CTL_QUIESCE]⟩

def SEQ_STAT_HALTED : Fld := .mk 0x4 8 7 .ro 0x40 false
def SEQ_STAT_CFGREJ : Fld := .mk 0x4 1 1 .w1c 0 false
def SEQ_STAT_QUIESCED : Fld := .mk 0x4 0 1 .ro 0 false
/-- SEQ_STAT, as R211 of spec/08_program_model_control.md lays it out. -/
def SEQ_STAT : Reg := ⟨0x4, 4, [], fun _ => [SEQ_STAT_HALTED, SEQ_STAT_CFGREJ, SEQ_STAT_QUIESCED]⟩

def SEQ_PBASE_BASE : Fld := .mk 0x8 0 32 .rw 0 false
/-- SEQ_PBASE, as R211 of spec/08_program_model_control.md lays it out. -/
def SEQ_PBASE : Reg := ⟨0x8, 4, [], fun _ => [SEQ_PBASE_BASE]⟩

def SEQ_PSIZE_WORDS : Fld := .mk 0xc 0 19 .rw 0 false
/-- SEQ_PSIZE, as R211 of spec/08_program_model_control.md lays it out. -/
def SEQ_PSIZE : Reg := ⟨0xc, 4, [], fun _ => [SEQ_PSIZE_WORDS]⟩

def SEQ_CAUSE_STI : Fld := .mk 0x10 3 1 .w1c 0 false
def SEQ_CAUSE_PACE_LOW : Fld := .mk 0x10 2 1 .w1c 0 false
def SEQ_CAUSE_HALT : Fld := .mk 0x10 1 1 .w1c 0 false
def SEQ_CAUSE_OVERRUN : Fld := .mk 0x10 0 1 .w1c 0 false
/-- SEQ_CAUSE, as R211 of spec/08_program_model_control.md lays it out. -/
def SEQ_CAUSE : Reg := ⟨0x10, 4, [], fun _ => [SEQ_CAUSE_STI, SEQ_CAUSE_PACE_LOW, SEQ_CAUSE_HALT, SEQ_CAUSE_OVERRUN]⟩

def SEQ_HALTMASK_MASK : Fld := .mk 0x18 0 64 .ro 0xffffffffffffffff false
/-- SEQ_HALTMASK, as R211 of spec/08_program_model_control.md lays it out. -/
def SEQ_HALTMASK : Reg := ⟨0x18, 8, [], fun _ => [SEQ_HALTMASK_MASK]⟩

def SEQ_RUNMASK_MASK : Fld := .mk 0x20 0 64 .wo 0 false
/-- SEQ_RUNMASK, as R211 of spec/08_program_model_control.md lays it out. -/
def SEQ_RUNMASK : Reg := ⟨0x20, 8, [], fun _ => [SEQ_RUNMASK_MASK]⟩

def SEQ_HALTREQ_MASK : Fld := .mk 0x28 0 64 .wo 0 false
/-- SEQ_HALTREQ, as R211 of spec/08_program_model_control.md lays it out. -/
def SEQ_HALTREQ : Reg := ⟨0x28, 8, [], fun _ => [SEQ_HALTREQ_MASK]⟩

def SEQ_TCMD_ABORT : Fld := .mk 0x0 2 1 .wo 0 false
def SEQ_TCMD_HALT : Fld := .mk 0x0 1 1 .wo 0 false
def SEQ_TCMD_RUN : Fld := .mk 0x0 0 1 .wo 0 false
/-- SEQ_TCMD, as R212 of spec/08_program_model_control.md lays it out. -/
def SEQ_TCMD : Reg := ⟨0x0, 4, [], fun _ => [SEQ_TCMD_ABORT, SEQ_TCMD_HALT, SEQ_TCMD_RUN]⟩

def SEQ_TSTAT_UCODE : Fld := .mk 0x4 24 8 .ro 0 false
def SEQ_TSTAT_CAUSE : Fld := .mk 0x4 16 5 .ro 0 false
def SEQ_TSTAT_WREJ : Fld := .mk 0x4 11 1 .w1c 0 false
def SEQ_TSTAT_OVR : Fld := .mk 0x4 10 1 .w1c 0 false
def SEQ_TSTAT_STATE : Fld := .mk 0x4 0 3 .ro 0 false
/-- SEQ_TSTAT, as R212 of spec/08_program_model_control.md lays it out. -/
def SEQ_TSTAT : Reg := ⟨0x4, 4, [], fun _ => [SEQ_TSTAT_UCODE, SEQ_TSTAT_CAUSE, SEQ_TSTAT_WREJ, SEQ_TSTAT_OVR, SEQ_TSTAT_STATE]⟩

def SEQ_TPC_PC : Fld := .mk 0x8 0 32 .rw 0 false
/-- SEQ_TPC, as R212 of spec/08_program_model_control.md lays it out. -/
def SEQ_TPC : Reg := ⟨0x8, 4, [], fun _ => [SEQ_TPC_PC]⟩

def SEQ_TLATE_TICKS : Fld := .mk 0xc 0 32 .ro 0 false
/-- SEQ_TLATE, as R212 of spec/08_program_model_control.md lays it out. -/
def SEQ_TLATE : Reg := ⟨0xc, 4, [], fun _ => [SEQ_TLATE_TICKS]⟩

def SEQ_TFLAGS_FLAGS : Fld := .mk 0x10 0 6 .rw 0 false
/-- SEQ_TFLAGS, as R212 of spec/08_program_model_control.md lays it out. -/
def SEQ_TFLAGS : Reg := ⟨0x10, 4, [], fun _ => [SEQ_TFLAGS_FLAGS]⟩

def SEQ_TSP_DEPTH : Fld := .mk 0x14 0 5 .rw 0 false
/-- SEQ_TSP, as R212 of spec/08_program_model_control.md lays it out. -/
def SEQ_TSP : Reg := ⟨0x14, 4, [], fun _ => [SEQ_TSP_DEPTH]⟩

def SEQ_TCFG_PRIV : Fld := .mk 0x18 0 1 .rwl 0 false
/-- SEQ_TCFG, as R212 of spec/08_program_model_control.md lays it out. -/
def SEQ_TCFG : Reg := ⟨0x18, 4, [], fun _ => [SEQ_TCFG_PRIV]⟩

def SEQ_TOVCNT_CNT : Fld := .mk 0x1c 0 32 .rc 0 false
/-- SEQ_TOVCNT, as R212 of spec/08_program_model_control.md lays it out. -/
def SEQ_TOVCNT : Reg := ⟨0x1c, 4, [], fun _ => [SEQ_TOVCNT_CNT]⟩

def SEQ_TL_CNT (x : Nat) : Fld := .mk (0x20 + 0x4 * x) 0 32 .rw 0 false
/-- SEQ_TL, as R212 of spec/08_program_model_control.md lays it out. -/
def SEQ_TL : Reg := ⟨0x20, 4, [(0x4, 4)], fun ix => let x := ix.getD 0 0; [SEQ_TL_CNT x]⟩

def SEQ_TWSTAMP_DT : Fld := .mk 0x30 0 64 .ro 0 false
/-- SEQ_TWSTAMP, as R212 of spec/08_program_model_control.md lays it out. -/
def SEQ_TWSTAMP : Reg := ⟨0x30, 8, [], fun _ => [SEQ_TWSTAMP_DT]⟩

def SEQ_TG_VAL (i : Nat) : Fld := .mk (0x40 + 0x8 * i) 0 64 .rw 0 false
/-- SEQ_TG, as R212 of spec/08_program_model_control.md lays it out. -/
def SEQ_TG : Reg := ⟨0x40, 8, [(0x8, 16)], fun ix => let i := ix.getD 0 0; [SEQ_TG_VAL i]⟩

def SEQ_TSTK_PC (i : Nat) : Fld := .mk (0xc0 + 0x4 * i) 0 32 .rw 0 false
/-- SEQ_TSTK, as R212 of spec/08_program_model_control.md lays it out. -/
def SEQ_TSTK : Reg := ⟨0xc0, 4, [(0x4, 16)], fun ix => let i := ix.getD 0 0; [SEQ_TSTK_PC i]⟩

def RG_LSBASE_BASE : Fld := .mk 0x31010 0 32 .rwl 0 false
/-- RG_LSBASE, as R239 of spec/09_step_measure_instructions.md lays it out. -/
def RG_LSBASE : Reg := ⟨0x31010, 4, [], fun _ => [RG_LSBASE_BASE]⟩

def RG_XSBASE_BASE : Fld := .mk 0x31014 0 32 .rwl 0 false
/-- RG_XSBASE, as R239 of spec/09_step_measure_instructions.md lays it out. -/
def RG_XSBASE : Reg := ⟨0x31014, 4, [], fun _ => [RG_XSBASE_BASE]⟩

def RG_ESBASE_BASE : Fld := .mk 0x31018 0 32 .rwl 0 false
/-- RG_ESBASE, as R239 of spec/09_step_measure_instructions.md lays it out. -/
def RG_ESBASE : Reg := ⟨0x31018, 4, [], fun _ => [RG_ESBASE_BASE]⟩

def RG_RECSTAT_DROPPED : Fld := .mk 0x31020 16 16 .rc 0 false
def RG_RECSTAT_QUEUED : Fld := .mk 0x31020 0 7 .ro 0 false
/-- RG_RECSTAT, as R239 of spec/09_step_measure_instructions.md lays it out. -/
def RG_RECSTAT : Reg := ⟨0x31020, 4, [], fun _ => [RG_RECSTAT_DROPPED, RG_RECSTAT_QUEUED]⟩

def MCE_CTL_BUDGET_EN : Fld := .mk 0x10000 2 1 .rwl 1 false
def MCE_CTL_SCRUB_EN : Fld := .mk 0x10000 1 1 .rwl 1 false
def MCE_CTL_LOADED : Fld := .mk 0x10000 0 1 .w1s 0 true
/-- MCE_CTL, as R262 of spec/10_microcode_engine.md lays it out. -/
def MCE_CTL : Reg := ⟨0x10000, 4, [], fun _ => [MCE_CTL_BUDGET_EN, MCE_CTL_SCRUB_EN, MCE_CTL_LOADED]⟩

def MCE_STAT_ACTIVE : Fld := .mk 0x10004 8 7 .ro 0 false
def MCE_STAT_RREJ : Fld := .mk 0x10004 4 1 .w1c 0 false
def MCE_STAT_WREJ : Fld := .mk 0x10004 3 1 .w1c 0 false
def MCE_STAT_MCK : Fld := .mk 0x10004 2 1 .ro 0 false
def MCE_STAT_IDLE : Fld := .mk 0x10004 1 1 .ro 1 false
def MCE_STAT_LOADED : Fld := .mk 0x10004 0 1 .ro 0 false
/-- MCE_STAT, as R262 of spec/10_microcode_engine.md lays it out. -/
def MCE_STAT : Reg := ⟨0x10004, 4, [], fun _ => [MCE_STAT_ACTIVE, MCE_STAT_RREJ, MCE_STAT_WREJ, MCE_STAT_MCK, MCE_STAT_IDLE, MCE_STAT_LOADED]⟩

def MCE_TSBASE_BASE : Fld := .mk 0x10008 0 32 .rwl 0x2fc000 true
/-- MCE_TSBASE, as R262 of spec/10_microcode_engine.md lays it out. -/
def MCE_TSBASE : Reg := ⟨0x10008, 4, [], fun _ => [MCE_TSBASE_BASE]⟩

def MCE_BUDGET_WORDS : Fld := .mk 0x1000c 0 16 .rwl 0x1000 false
/-- MCE_BUDGET, as R262 of spec/10_microcode_engine.md lays it out. -/
def MCE_BUDGET : Reg := ⟨0x1000c, 4, [], fun _ => [MCE_BUDGET_WORDS]⟩

def MCE_MCKINFO_KIND : Fld := .mk 0x10010 28 4 .ro 0 false
def MCE_MCKINFO_SLICE : Fld := .mk 0x10010 16 10 .ro 0 false
def MCE_MCKINFO_ADDR : Fld := .mk 0x10010 0 13 .ro 0 false
/-- MCE_MCKINFO, as R262 of spec/10_microcode_engine.md lays it out. -/
def MCE_MCKINFO : Reg := ⟨0x10010, 4, [], fun _ => [MCE_MCKINFO_KIND, MCE_MCKINFO_SLICE, MCE_MCKINFO_ADDR]⟩

def MCE_MCKTHR_VALID : Fld := .mk 0x10014 6 1 .ro 0 false
def MCE_MCKTHR_THREAD : Fld := .mk 0x10014 0 6 .ro 0 false
/-- MCE_MCKTHR, as R262 of spec/10_microcode_engine.md lays it out. -/
def MCE_MCKTHR : Reg := ⟨0x10014, 4, [], fun _ => [MCE_MCKTHR_VALID, MCE_MCKTHR_THREAD]⟩

def MCE_MCKDT_DT : Fld := .mk 0x10018 0 64 .ro 0 false
/-- MCE_MCKDT, as R262 of spec/10_microcode_engine.md lays it out. -/
def MCE_MCKDT : Reg := ⟨0x10018, 8, [], fun _ => [MCE_MCKDT_DT]⟩

def MCE_TRAPCNT_ASYNC : Fld := .mk 0x10020 16 16 .rc 0 false
def MCE_TRAPCNT_SYNC : Fld := .mk 0x10020 0 16 .rc 0 false
/-- MCE_TRAPCNT, as R262 of spec/10_microcode_engine.md lays it out. -/
def MCE_TRAPCNT : Reg := ⟨0x10020, 4, [], fun _ => [MCE_TRAPCNT_ASYNC, MCE_TRAPCNT_SYNC]⟩

def MCE_PATCH_LEVEL : Fld := .mk 0x10024 16 16 .ro 0 true
def MCE_PATCH_WORDS : Fld := .mk 0x10024 0 16 .ro 0 true
/-- MCE_PATCH, as R262 of spec/10_microcode_engine.md lays it out. -/
def MCE_PATCH : Reg := ⟨0x10024, 4, [], fun _ => [MCE_PATCH_LEVEL, MCE_PATCH_WORDS]⟩

def MCE_XREQ_MASK : Fld := .mk 0x10028 0 64 .w1s 0 true
/-- MCE_XREQ, as R262 of spec/10_microcode_engine.md lays it out. -/
def MCE_XREQ : Reg := ⟨0x10028, 8, [], fun _ => [MCE_XREQ_MASK]⟩

def MCE_CSADDR_ADDR : Fld := .mk 0x10030 0 13 .rw 0 false
/-- MCE_CSADDR, as R262 of spec/10_microcode_engine.md lays it out. -/
def MCE_CSADDR : Reg := ⟨0x10030, 4, [], fun _ => [MCE_CSADDR_ADDR]⟩

def MCE_CSCMD_BCAST : Fld := .mk 0x10034 2 1 .wo 0 true
def MCE_CSCMD_WRITE : Fld := .mk 0x10034 1 1 .wo 0 true
def MCE_CSCMD_READ : Fld := .mk 0x10034 0 1 .wo 0 false
/-- MCE_CSCMD, as R262 of spec/10_microcode_engine.md lays it out. -/
def MCE_CSCMD : Reg := ⟨0x10034, 4, [], fun _ => [MCE_CSCMD_BCAST, MCE_CSCMD_WRITE, MCE_CSCMD_READ]⟩

def MCE_CSDATA_DATA (i : Nat) : Fld := .mk (0x10040 + 0x4 * i) 0 32 .rw 0 false
/-- MCE_CSDATA, as R262 of spec/10_microcode_engine.md lays it out. -/
def MCE_CSDATA : Reg := ⟨0x10040, 4, [(0x4, 5)], fun ix => let i := ix.getD 0 0; [MCE_CSDATA_DATA i]⟩

def MCE_CSDATA5_PAR : Fld := .mk 0x10054 0 10 .ro 0 false
/-- MCE_CSDATA5, as R262 of spec/10_microcode_engine.md lays it out. -/
def MCE_CSDATA5 : Reg := ⟨0x10054, 4, [], fun _ => [MCE_CSDATA5_PAR]⟩

def MCE_DISP_PAR (op : Nat) : Fld := .mk (0x10400 + 0x4 * op) 16 1 .ro 0 false
def MCE_DISP_TRAPOK (op : Nat) : Fld := .mk (0x10400 + 0x4 * op) 15 1 .rw 0 true
def MCE_DISP_PRIV (op : Nat) : Fld := .mk (0x10400 + 0x4 * op) 14 1 .rw 0 true
def MCE_DISP_LONG (op : Nat) : Fld := .mk (0x10400 + 0x4 * op) 13 1 .rw 0 true
def MCE_DISP_START (op : Nat) : Fld := .mk (0x10400 + 0x4 * op) 0 13 .rw 0 true
/-- MCE_DISP, as R263 of spec/10_microcode_engine.md lays it out. -/
def MCE_DISP : Reg := ⟨0x10400, 4, [(0x4, 256)], fun ix => let op := ix.getD 0 0; [MCE_DISP_PAR op, MCE_DISP_TRAPOK op, MCE_DISP_PRIV op, MCE_DISP_LONG op, MCE_DISP_START op]⟩

def CAP_CTL_EVTEN : Fld := .mk 0x20000 0 7 .rw 0x7f false
/-- CAP_CTL, as R290 of spec/11_compare_fail_capture.md lays it out. -/
def CAP_CTL : Reg := ⟨0x20000, 4, [], fun _ => [CAP_CTL_EVTEN]⟩

def CAP_CAUSE_NOSPACE : Fld := .mk 0x20004 6 1 .w1c 0 false
def CAP_CAUSE_SPILLERR : Fld := .mk 0x20004 5 1 .w1c 0 false
def CAP_CAUSE_RINGFULL : Fld := .mk 0x20004 4 1 .w1c 0 false
def CAP_CAUSE_TRUNC : Fld := .mk 0x20004 3 1 .w1c 0 false
def CAP_CAUSE_MISSED : Fld := .mk 0x20004 2 1 .w1c 0 false
def CAP_CAUSE_MASK : Fld := .mk 0x20004 1 1 .w1c 0 false
def CAP_CAUSE_DONE : Fld := .mk 0x20004 0 1 .w1c 0 false
/-- CAP_CAUSE, as R290 of spec/11_compare_fail_capture.md lays it out. -/
def CAP_CAUSE : Reg := ⟨0x20004, 4, [], fun _ => [CAP_CAUSE_NOSPACE, CAP_CAUSE_SPILLERR, CAP_CAUSE_RINGFULL, CAP_CAUSE_TRUNC, CAP_CAUSE_MISSED, CAP_CAUSE_MASK, CAP_CAUSE_DONE]⟩

def CAP_DBASE_BASE : Fld := .mk 0x20008 0 32 .rwl 0 false
/-- CAP_DBASE, as R290 of spec/11_compare_fail_capture.md lays it out. -/
def CAP_DBASE : Reg := ⟨0x20008, 4, [], fun _ => [CAP_DBASE_BASE]⟩

def CAP_MBASE_BASE : Fld := .mk 0x2000c 0 32 .rwl 0 false
/-- CAP_MBASE, as R290 of spec/11_compare_fail_capture.md lays it out. -/
def CAP_MBASE : Reg := ⟨0x2000c, 4, [], fun _ => [CAP_MBASE_BASE]⟩

def CAP_ABASE_BASE : Fld := .mk 0x20010 0 32 .rwl 0 false
/-- CAP_ABASE, as R290 of spec/11_compare_fail_capture.md lays it out. -/
def CAP_ABASE : Reg := ⟨0x20010, 4, [], fun _ => [CAP_ABASE_BASE]⟩

def CAP_ASIZE_SIZE : Fld := .mk 0x20014 0 32 .rwl 0 false
/-- CAP_ASIZE, as R290 of spec/11_compare_fail_capture.md lays it out. -/
def CAP_ASIZE : Reg := ⟨0x20014, 4, [], fun _ => [CAP_ASIZE_SIZE]⟩

def CAP_AFREE_BYTES : Fld := .mk 0x20018 0 32 .ro 0 false
/-- CAP_AFREE, as R290 of spec/11_compare_fail_capture.md lays it out. -/
def CAP_AFREE : Reg := ⟨0x20018, 4, [], fun _ => [CAP_AFREE_BYTES]⟩

def CAP_RBASE_BASE : Fld := .mk 0x20020 0 32 .rwl 0 false
/-- CAP_RBASE, as R290 of spec/11_compare_fail_capture.md lays it out. -/
def CAP_RBASE : Reg := ⟨0x20020, 4, [], fun _ => [CAP_RBASE_BASE]⟩

def CAP_RSIZE_SIZE : Fld := .mk 0x20024 0 32 .rwl 0 false
/-- CAP_RSIZE, as R290 of spec/11_compare_fail_capture.md lays it out. -/
def CAP_RSIZE : Reg := ⟨0x20024, 4, [], fun _ => [CAP_RSIZE_SIZE]⟩

def CAP_RWR_OFS : Fld := .mk 0x20028 0 32 .ro 0 false
/-- CAP_RWR, as R290 of spec/11_compare_fail_capture.md lays it out. -/
def CAP_RWR : Reg := ⟨0x20028, 4, [], fun _ => [CAP_RWR_OFS]⟩

def CAP_RRD_OFS : Fld := .mk 0x2002c 0 32 .rw 0 false
/-- CAP_RRD, as R290 of spec/11_compare_fail_capture.md lays it out. -/
def CAP_RRD : Reg := ⟨0x2002c, 4, [], fun _ => [CAP_RRD_OFS]⟩

def CAP_SBASE_ADDR : Fld := .mk 0x20030 0 64 .rwl 0 false
/-- CAP_SBASE, as R290 of spec/11_compare_fail_capture.md lays it out. -/
def CAP_SBASE : Reg := ⟨0x20030, 8, [], fun _ => [CAP_SBASE_ADDR]⟩

def CAP_SSIZE_SIZE : Fld := .mk 0x20038 0 64 .rwl 0 false
/-- CAP_SSIZE, as R290 of spec/11_compare_fail_capture.md lays it out. -/
def CAP_SSIZE : Reg := ⟨0x20038, 8, [], fun _ => [CAP_SSIZE_SIZE]⟩

def CAP_SWR_OFS : Fld := .mk 0x20040 0 64 .ro 0 false
/-- CAP_SWR, as R290 of spec/11_compare_fail_capture.md lays it out. -/
def CAP_SWR : Reg := ⟨0x20040, 8, [], fun _ => [CAP_SWR_OFS]⟩

def CAP_SRD_OFS : Fld := .mk 0x20048 0 64 .rw 0 false
/-- CAP_SRD, as R290 of spec/11_compare_fail_capture.md lays it out. -/
def CAP_SRD : Reg := ⟨0x20048, 8, [], fun _ => [CAP_SRD_OFS]⟩

def CAP_CNT_RINGFULL : Fld := .mk 0x20050 16 16 .rc 0 false
def CAP_CNT_TRUNC : Fld := .mk 0x20050 0 16 .rc 0 false
/-- CAP_CNT, as R290 of spec/11_compare_fail_capture.md lays it out. -/
def CAP_CNT : Reg := ⟨0x20050, 4, [], fun _ => [CAP_CNT_RINGFULL, CAP_CNT_TRUNC]⟩

def CAP_ARM_DIS : Fld := .mk 0x0 8 1 .wo 0 false
def CAP_ARM_DESC : Fld := .mk 0x0 0 8 .wo 0 false
/-- CAP_ARM, as R291 of spec/11_compare_fail_capture.md lays it out. -/
def CAP_ARM : Reg := ⟨0x0, 4, [], fun _ => [CAP_ARM_DIS, CAP_ARM_DESC]⟩

def CAP_ERR_CODE : Fld := .mk 0x4 0 3 .ro 0 false
/-- CAP_ERR, as R291 of spec/11_compare_fail_capture.md lays it out. -/
def CAP_ERR : Reg := ⟨0x4, 4, [], fun _ => [CAP_ERR_CODE]⟩

def CAP_STAT_DESC : Fld := .mk 0x8 8 8 .ro 0 false
def CAP_STAT_STATE : Fld := .mk 0x8 0 3 .ro 0 false
/-- CAP_STAT, as R291 of spec/11_compare_fail_capture.md lays it out. -/
def CAP_STAT : Reg := ⟨0x8, 4, [], fun _ => [CAP_STAT_DESC, CAP_STAT_STATE]⟩

def CAP_MISSED_CNT : Fld := .mk 0xc 0 32 .rc 0 false
/-- CAP_MISSED, as R291 of spec/11_compare_fail_capture.md lays it out. -/
def CAP_MISSED : Reg := ⟨0xc, 4, [], fun _ => [CAP_MISSED_CNT]⟩

def CAP_FORCE_TRIG : Fld := .mk 0x10 0 1 .w1s 0 false
/-- CAP_FORCE, as R291 of spec/11_compare_fail_capture.md lays it out. -/
def CAP_FORCE : Reg := ⟨0x10, 4, [], fun _ => [CAP_FORCE_TRIG]⟩

def CAP_NCAP_CNT : Fld := .mk 0x14 0 32 .ro 0 false
/-- CAP_NCAP, as R291 of spec/11_compare_fail_capture.md lays it out. -/
def CAP_NCAP : Reg := ⟨0x14, 4, [], fun _ => [CAP_NCAP_CNT]⟩

def CAP_LASTDT_DT : Fld := .mk 0x18 0 64 .ro 0 false
/-- CAP_LASTDT, as R291 of spec/11_compare_fail_capture.md lays it out. -/
def CAP_LASTDT : Reg := ⟨0x18, 8, [], fun _ => [CAP_LASTDT_DT]⟩

def CAP_PREFILL_SAMPLES : Fld := .mk 0x20 0 15 .ro 0 false
/-- CAP_PREFILL, as R291 of spec/11_compare_fail_capture.md lays it out. -/
def CAP_PREFILL : Reg := ⟨0x20, 4, [], fun _ => [CAP_PREFILL_SAMPLES]⟩

/-- Every register of the unit, for access by address. -/
def clRegs : List Reg :=
  [RG_LTBASE, RG_SPBASE, RG_SPCNT, RG_FMTBASE, SEQ_CTL, SEQ_STAT, SEQ_PBASE, SEQ_PSIZE, SEQ_CAUSE, SEQ_HALTMASK, SEQ_RUNMASK, SEQ_HALTREQ] ++
  [RG_LSBASE, RG_XSBASE, RG_ESBASE, RG_RECSTAT, MCE_CTL, MCE_STAT, MCE_TSBASE, MCE_BUDGET, MCE_MCKINFO, MCE_MCKTHR, MCE_MCKDT, MCE_TRAPCNT] ++
  [MCE_PATCH, MCE_XREQ, MCE_CSADDR, MCE_CSCMD, MCE_CSDATA, MCE_CSDATA5, MCE_DISP, CAP_CTL, CAP_CAUSE, CAP_DBASE, CAP_MBASE, CAP_ABASE] ++
  [CAP_ASIZE, CAP_AFREE, CAP_RBASE, CAP_RSIZE, CAP_RWR, CAP_RRD, CAP_SBASE, CAP_SSIZE, CAP_SWR, CAP_SRD, CAP_CNT]

/-- Every register of the unit, for access by address. -/
def thrRegs : List Reg :=
  [SEQ_TCMD, SEQ_TSTAT, SEQ_TPC, SEQ_TLATE, SEQ_TFLAGS, SEQ_TSP, SEQ_TCFG, SEQ_TOVCNT, SEQ_TL, SEQ_TWSTAMP, SEQ_TG, SEQ_TSTK]

/-- Every register of the unit, for access by address. -/
def capRegs : List Reg :=
  [CAP_ARM, CAP_ERR, CAP_STAT, CAP_MISSED, CAP_FORCE, CAP_NCAP, CAP_LASTDT, CAP_PREFILL]

/-- Every register of the unit, for access by address. -/
def stiRegs : List Reg :=
  [STI_CTL, STI_START, STI_STOP, STI_TMO, STI_CMD, STI_STAT, STI_RES, STI_TSTART, STI_TSTOP, STI_TARM, STI_CNT, STI_FREQ]

end Sys2Proof.Machine
end

