-- ==== Sys2Proof/Machine/RegsDev.lean ====
section
/-! DEFINITION. The registers of the device blocks: every field of R8, R21, R26, R27, R46, R79 to R81, R181, R292, R339, R341, R359, R360, R382, R383, R399 to R401, R422, R448 to R450, R463 and R464. Offsets count from 0x4000_0000. Each field definition gives offset, lowest bit, width, access code, reset value and whether only the Lamplighter may write it; names are the spec's, register then field. -/

namespace Sys2Proof.Machine

/-- Reset of EVT_SRCs RLAMP and ENABLE: 1 for sources 160 to 175, 192 to 255 and 320 to 447 (R399). -/
def lampReset (n : Nat) : Nat :=
  if (160 ≤ n && n ≤ 175) || (192 ≤ n && n ≤ 255) || (320 ≤ n && n ≤ 447) then 1 else 0
/-- Pilot comparators 4 to 7 are enabled at reset (R440). -/
def cmpEnReset (j : Nat) : Nat := if 4 ≤ j then 1 else 0
/-- Pilot comparators 4 and 5 force safe-off at reset (R440). -/
def cmpSafeReset (j : Nat) : Nat := if j == 4 || j == 5 then 1 else 0
/-- Polarity of the Pilot comparators at reset: 5, 6 and 7 trip below (R440). -/
def cmpPolReset (j : Nat) : Nat := if 5 ≤ j then 1 else 0
/-- Threshold code of the Pilot comparators at reset (R440). -/
def cmpThrReset (j : Nat) : Nat := [0, 0, 0, 0, 0x78, 0x78, 0xAF, 0x6C].getD j 0

/-- First address of target `t` (R342, R343). -/
def targetBase (t : Nat) : Nat :=
  if t < 16 then t * 0x300000
  else match t with
    | 16 => 0x3000000 | 17 => 0x3800000 | 18 => 0x3C00000 | 19 => 0x3E00000
    | 20 => 0x1000000000 | _ => 0x40000000
/-- The address after the last one of target `t`. -/
def targetEnd (t : Nat) : Nat :=
  if t < 16 then (t + 1) * 0x300000
  else match t with
    | 16 => 0x3800000 | 17 => 0x3C00000 | 18 => 0x3E00000 | 19 => 0x4000000
    | 20 => 0x5000000000 | _ => 0x50000000
/-- Reset of EN, R, W and A, of BASE and of LIMIT: Lamplighter region 1 covers its whole target (R347). -/
def regOneRst (m i : Nat) : Nat := if m = 35 ∧ i = 1 then 1 else 0
def regBaseRst (m t i : Nat) : Nat := if m = 35 ∧ i = 1 then targetBase t / 4096 else 0
def regLimRst (m t i : Nat) : Nat := if m = 35 ∧ i = 1 then targetEnd t / 4096 else 0

def DEV_ID_REV_MAJ : Fld := .mk 0x0 28 4 .ro 1 false
def DEV_ID_REV_MIN : Fld := .mk 0x0 24 4 .ro 1 false
def DEV_ID_PART : Fld := .mk 0x0 8 16 .ro 0x1024 false
def DEV_ID_FAMILY : Fld := .mk 0x0 0 8 .ro 0x4c false
/-- DEV_ID, as R8 of spec/00_scope.md lays it out. -/
def DEV_ID : Reg := ⟨0x0, 4, [], fun _ => [DEV_ID_REV_MAJ, DEV_ID_REV_MIN, DEV_ID_PART, DEV_ID_FAMILY]⟩

def DEV_POS_VALID : Fld := .mk 0x10 15 1 .ro 0 false
def DEV_POS_ROLE : Fld := .mk 0x10 12 2 .ro 0 false
def DEV_POS_BAY : Fld := .mk 0x10 7 4 .rwl 0 false
def DEV_POS_SHELF : Fld := .mk 0x10 4 3 .rwl 0 false
def DEV_POS_DEVICE : Fld := .mk 0x10 0 4 .ro 0 false
/-- DEV_POS, as R21 of spec/01_architecture.md lays it out. -/
def DEV_POS : Reg := ⟨0x10, 4, [], fun _ => [DEV_POS_VALID, DEV_POS_ROLE, DEV_POS_BAY, DEV_POS_SHELF, DEV_POS_DEVICE]⟩

def DEV_PACE_FLOOR (k : Nat) : Fld := .mk (0x100 + 0x4 * k) 16 16 .rc 0xffff false
def DEV_PACE_RATE (k : Nat) : Fld := .mk (0x100 + 0x4 * k) 0 16 .ro 0 false
/-- DEV_PACE, as R26 of spec/01_architecture.md lays it out. -/
def DEV_PACE : Reg := ⟨0x100, 4, [(0x4, 16)], fun ix => let k := ix.getD 0 0; [DEV_PACE_FLOOR k, DEV_PACE_RATE k]⟩

def DEV_PACE_CTL_EVT_EN : Fld := .mk 0x140 16 1 .rw 1 false
def DEV_PACE_CTL_LIM : Fld := .mk 0x140 0 16 .rw 0x3e8 false
/-- DEV_PACE_CTL, as R27 of spec/01_architecture.md lays it out. -/
def DEV_PACE_CTL : Reg := ⟨0x140, 4, [], fun _ => [DEV_PACE_CTL_EVT_EN, DEV_PACE_CTL_LIM]⟩

def DEV_SUPPLY_VMAIN_MV : Fld := .mk 0x200 16 16 .ro 0 false
def DEV_SUPPLY_VPILOT_MV : Fld := .mk 0x200 3 13 .ro 0 false
def DEV_SUPPLY_VPILOT_LOW : Fld := .mk 0x200 2 1 .ro 0 false
def DEV_SUPPLY_VMAIN_UV : Fld := .mk 0x200 1 1 .ro 0 false
def DEV_SUPPLY_VALID : Fld := .mk 0x200 0 1 .ro 0 false
/-- DEV_SUPPLY, as R46 of spec/02_package_supplies_ports.md lays it out. -/
def DEV_SUPPLY : Reg := ⟨0x200, 4, [], fun _ => [DEV_SUPPLY_VMAIN_MV, DEV_SUPPLY_VPILOT_MV, DEV_SUPPLY_VPILOT_LOW, DEV_SUPPLY_VMAIN_UV, DEV_SUPPLY_VALID]⟩

def DEV_PWRFAIL_COUNT : Fld := .mk 0x204 16 16 .ro 0 false
def DEV_PWRFAIL_LAST_CAUSE : Fld := .mk 0x204 4 4 .ro 0 false
def DEV_PWRFAIL_PILOT_LOST : Fld := .mk 0x204 0 1 .ro 1 false
/-- DEV_PWRFAIL, as R46 of spec/02_package_supplies_ports.md lays it out. -/
def DEV_PWRFAIL : Reg := ⟨0x204, 4, [], fun _ => [DEV_PWRFAIL_COUNT, DEV_PWRFAIL_LAST_CAUSE, DEV_PWRFAIL_PILOT_LOST]⟩

def TB_CTL_STEER_EN : Fld := .mk 0x10000 1 1 .rw 1 false
def TB_CTL_REFIN_EN : Fld := .mk 0x10000 0 1 .rwl 1 false
/-- TB_CTL, as R79 of spec/03_time_and_beacon.md lays it out. -/
def TB_CTL : Reg := ⟨0x10000, 4, [], fun _ => [TB_CTL_STEER_EN, TB_CTL_REFIN_EN]⟩

def TB_STAT_DTSET_REJ : Fld := .mk 0x10004 7 1 .w1c 0 false
def TB_STAT_DTSET_DONE : Fld := .mk 0x10004 6 1 .w1c 0 false
def TB_STAT_REF_LOST : Fld := .mk 0x10004 5 1 .w1c 0 false
def TB_STAT_FREERUN : Fld := .mk 0x10004 4 1 .ro 0 false
def TB_STAT_SRC : Fld := .mk 0x10004 2 2 .ro 0 false
def TB_STAT_LOCKED : Fld := .mk 0x10004 1 1 .ro 0 false
def TB_STAT_DT_VALID : Fld := .mk 0x10004 0 1 .ro 0 false
/-- TB_STAT, as R79 of spec/03_time_and_beacon.md lays it out. -/
def TB_STAT : Reg := ⟨0x10004, 4, [], fun _ => [TB_STAT_DTSET_REJ, TB_STAT_DTSET_DONE, TB_STAT_REF_LOST, TB_STAT_FREERUN, TB_STAT_SRC, TB_STAT_LOCKED, TB_STAT_DT_VALID]⟩

def TB_DT_DT : Fld := .mk 0x10008 0 64 .ro 0 false
/-- TB_DT, as R79 of spec/03_time_and_beacon.md lays it out. -/
def TB_DT : Reg := ⟨0x10008, 8, [], fun _ => [TB_DT_DT]⟩

def TB_DTSET_VALUE : Fld := .mk 0x10010 0 64 .rw 0 false
/-- TB_DTSET, as R79 of spec/03_time_and_beacon.md lays it out. -/
def TB_DTSET : Reg := ⟨0x10010, 8, [], fun _ => [TB_DTSET_VALUE]⟩

def TB_HOLDUNC_UNC : Fld := .mk 0x10018 0 32 .ro 0 false
/-- TB_HOLDUNC, as R79 of spec/03_time_and_beacon.md lays it out. -/
def TB_HOLDUNC : Reg := ⟨0x10018, 4, [], fun _ => [TB_HOLDUNC_UNC]⟩

def TB_ISLOCK_LOCK : Fld := .mk 0x1001c 0 25 .ro 0x900000 false
/-- TB_ISLOCK, as R79 of spec/03_time_and_beacon.md lays it out. -/
def TB_ISLOCK : Reg := ⟨0x1001c, 4, [], fun _ => [TB_ISLOCK_LOCK]⟩

def TB_REFIN_FOFS : Fld := .mk 0x10020 16 16 .ro 0 false
def TB_REFIN_AMP : Fld := .mk 0x10020 8 8 .ro 0 false
def TB_REFIN_QUAL : Fld := .mk 0x10020 2 1 .ro 0 false
def TB_REFIN_FREQ : Fld := .mk 0x10020 1 1 .ro 0 false
def TB_REFIN_PRESENT : Fld := .mk 0x10020 0 1 .ro 0 false
/-- TB_REFIN, as R79 of spec/03_time_and_beacon.md lays it out. -/
def TB_REFIN : Reg := ⟨0x10020, 4, [], fun _ => [TB_REFIN_FOFS, TB_REFIN_AMP, TB_REFIN_QUAL, TB_REFIN_FREQ, TB_REFIN_PRESENT]⟩

def TB_WALL_NS : Fld := .mk 0x10028 0 64 .ro 0 false
/-- TB_WALL, as R79 of spec/03_time_and_beacon.md lays it out. -/
def TB_WALL : Reg := ⟨0x10028, 8, [], fun _ => [TB_WALL_NS]⟩

def TB_WALLUNC_NS : Fld := .mk 0x10030 0 32 .ro 0xffffffff false
/-- TB_WALLUNC, as R79 of spec/03_time_and_beacon.md lays it out. -/
def TB_WALLUNC : Reg := ⟨0x10030, 4, [], fun _ => [TB_WALLUNC_NS]⟩

def BCN_CTL_LEAD_US : Fld := .mk 0x20000 8 8 .rw 2 false
def BCN_CTL_ESTOP_ON_LOSS : Fld := .mk 0x20000 3 1 .rwl 1 false
def BCN_CTL_EPOCH_EN : Fld := .mk 0x20000 2 1 .rw 1 false
def BCN_CTL_ROLE_REQ : Fld := .mk 0x20000 0 2 .rwl 0 false
/-- BCN_CTL, as R80 of spec/03_time_and_beacon.md lays it out. -/
def BCN_CTL : Reg := ⟨0x20000, 4, [], fun _ => [BCN_CTL_LEAD_US, BCN_CTL_ESTOP_ON_LOSS, BCN_CTL_EPOCH_EN, BCN_CTL_ROLE_REQ]⟩

def BCN_EPOCHPER_MS : Fld := .mk 0x20004 0 32 .rw 0x3e8 false
/-- BCN_EPOCHPER, as R80 of spec/03_time_and_beacon.md lays it out. -/
def BCN_EPOCHPER : Reg := ⟨0x20004, 4, [], fun _ => [BCN_EPOCHPER_MS]⟩

def BCN_STAT_MEMBERS : Fld := .mk 0x20008 24 8 .ro 0 false
def BCN_STAT_OVERFLOW : Fld := .mk 0x20008 6 1 .w1c 0 false
def BCN_STAT_CRC_ERR : Fld := .mk 0x20008 5 1 .w1c 0 false
def BCN_STAT_LATE : Fld := .mk 0x20008 4 1 .w1c 0 false
def BCN_STAT_MSG_LOCK : Fld := .mk 0x20008 3 1 .ro 0 false
def BCN_STAT_CLK_LOCK : Fld := .mk 0x20008 2 1 .ro 0 false
def BCN_STAT_CAL_DONE : Fld := .mk 0x20008 1 1 .ro 0 false
def BCN_STAT_ALIGNED : Fld := .mk 0x20008 0 1 .ro 0 false
/-- BCN_STAT, as R80 of spec/03_time_and_beacon.md lays it out. -/
def BCN_STAT : Reg := ⟨0x20008, 4, [], fun _ => [BCN_STAT_MEMBERS, BCN_STAT_OVERFLOW, BCN_STAT_CRC_ERR, BCN_STAT_LATE, BCN_STAT_MSG_LOCK, BCN_STAT_CLK_LOCK, BCN_STAT_CAL_DONE, BCN_STAT_ALIGNED]⟩

def BCN_CMD_SET_EPOCH : Fld := .mk 0x2000c 2 1 .wo 0 false
def BCN_CMD_RECAL : Fld := .mk 0x2000c 1 1 .wo 0 false
def BCN_CMD_ENUM : Fld := .mk 0x2000c 0 1 .wo 0 false
/-- BCN_CMD, as R80 of spec/03_time_and_beacon.md lays it out. -/
def BCN_CMD : Reg := ⟨0x2000c, 4, [], fun _ => [BCN_CMD_SET_EPOCH, BCN_CMD_RECAL, BCN_CMD_ENUM]⟩

def BCN_DELAY_D : Fld := .mk 0x20010 0 32 .ro 0 false
/-- BCN_DELAY, as R80 of spec/03_time_and_beacon.md lays it out. -/
def BCN_DELAY : Reg := ⟨0x20010, 4, [], fun _ => [BCN_DELAY_D]⟩

def BCN_RESID_RES : Fld := .mk 0x20014 0 32 .ro 0 false
/-- BCN_RESID, as R80 of spec/03_time_and_beacon.md lays it out. -/
def BCN_RESID : Reg := ⟨0x20014, 4, [], fun _ => [BCN_RESID_RES]⟩

def BCN_CNT_CRCCNT : Fld := .mk 0x20018 16 16 .rc 0 false
def BCN_CNT_LATECNT : Fld := .mk 0x20018 0 16 .rc 0 false
/-- BCN_CNT, as R80 of spec/03_time_and_beacon.md lays it out. -/
def BCN_CNT : Reg := ⟨0x20018, 4, [], fun _ => [BCN_CNT_CRCCNT, BCN_CNT_LATECNT]⟩

def BCN_SEND_TYPE : Fld := .mk 0x20020 16 1 .wo 0 false
def BCN_SEND_NUM : Fld := .mk 0x20020 0 8 .wo 0 false
/-- BCN_SEND, as R80 of spec/03_time_and_beacon.md lays it out. -/
def BCN_SEND : Reg := ⟨0x20020, 4, [], fun _ => [BCN_SEND_TYPE, BCN_SEND_NUM]⟩

def BCN_MDLY_D (p : Nat) : Fld := .mk (0x20100 + 0x4 * p) 0 32 .ro 0 false
/-- BCN_MDLY, as R80 of spec/03_time_and_beacon.md lays it out. -/
def BCN_MDLY : Reg := ⟨0x20100, 4, [(0x4, 16)], fun ix => let p := ix.getD 0 0; [BCN_MDLY_D p]⟩

def FEF_TTCTL_DIR (l : Nat) : Fld := .mk (0x30400 + 0x40 * l) 0 2 .rwl 0 false
/-- FEF_TTCTL, as R81 of spec/03_time_and_beacon.md lays it out. -/
def FEF_TTCTL : Reg := ⟨0x30400, 4, [(0x40, 4)], fun ix => let l := ix.getD 0 0; [FEF_TTCTL_DIR l]⟩

def FEF_TTSTAT_CLEAN (l : Nat) : Fld := .mk (0x30404 + 0x40 * l) 16 16 .ro 0 false
def FEF_TTSTAT_TRUSTED (l : Nat) : Fld := .mk (0x30404 + 0x40 * l) 1 1 .ro 0 false
def FEF_TTSTAT_LOCK (l : Nat) : Fld := .mk (0x30404 + 0x40 * l) 0 1 .ro 0 false
/-- FEF_TTSTAT, as R81 of spec/03_time_and_beacon.md lays it out. -/
def FEF_TTSTAT : Reg := ⟨0x30404, 4, [(0x40, 4)], fun ix => let l := ix.getD 0 0; [FEF_TTSTAT_CLEAN l, FEF_TTSTAT_TRUSTED l, FEF_TTSTAT_LOCK l]⟩

def FEF_TTOFS_OFS (l : Nat) : Fld := .mk (0x30408 + 0x40 * l) 0 32 .ro 0 false
/-- FEF_TTOFS, as R81 of spec/03_time_and_beacon.md lays it out. -/
def FEF_TTOFS : Reg := ⟨0x30408, 4, [(0x40, 4)], fun ix => let l := ix.getD 0 0; [FEF_TTOFS_OFS l]⟩

def FEF_TTDLY_DLY (l : Nat) : Fld := .mk (0x3040c + 0x40 * l) 0 32 .ro 0 false
/-- FEF_TTDLY, as R81 of spec/03_time_and_beacon.md lays it out. -/
def FEF_TTDLY : Reg := ⟨0x3040c, 4, [(0x40, 4)], fun ix => let l := ix.getD 0 0; [FEF_TTDLY_DLY l]⟩

def FEF_TTASYM_ASYM (l : Nat) : Fld := .mk (0x30410 + 0x40 * l) 0 32 .rw 0 false
/-- FEF_TTASYM, as R81 of spec/03_time_and_beacon.md lays it out. -/
def FEF_TTASYM : Reg := ⟨0x30410, 4, [(0x40, 4)], fun ix => let l := ix.getD 0 0; [FEF_TTASYM_ASYM l]⟩

def DEV_SNFSRC_DOOR_EN : Fld := .mk 0x300 2 1 .rwl 1 false
def DEV_SNFSRC_SMOKE_EN : Fld := .mk 0x300 1 1 .rwl 1 false
/-- DEV_SNFSRC, as R181 of spec/07_drive_lane_snuffer.md lays it out. -/
def DEV_SNFSRC : Reg := ⟨0x300, 4, [], fun _ => [DEV_SNFSRC_DOOR_EN, DEV_SNFSRC_SMOKE_EN]⟩

def DEV_SNFCMD_ALL : Fld := .mk 0x304 0 1 .w1s 0 false
/-- DEV_SNFCMD, as R181 of spec/07_drive_lane_snuffer.md lays it out. -/
def DEV_SNFCMD : Reg := ⟨0x304, 4, [], fun _ => [DEV_SNFCMD_ALL]⟩

def DEV_SNFSUM_DOOR : Fld := .mk 0x308 18 1 .ro 0 false
def DEV_SNFSUM_SMOKE : Fld := .mk 0x308 17 1 .ro 0 false
def DEV_SNFSUM_ILK_OPEN : Fld := .mk 0x308 16 1 .ro 0 false
def DEV_SNFSUM_COUNT : Fld := .mk 0x308 0 11 .ro 0 false
/-- DEV_SNFSUM, as R181 of spec/07_drive_lane_snuffer.md lays it out. -/
def DEV_SNFSUM : Reg := ⟨0x308, 4, [], fun _ => [DEV_SNFSUM_DOOR, DEV_SNFSUM_SMOKE, DEV_SNFSUM_ILK_OPEN, DEV_SNFSUM_COUNT]⟩

def FAIL_CTL_CNT_EN : Fld := .mk 0xe0000 2 1 .rw 1 false
def FAIL_CTL_SPILL : Fld := .mk 0xe0000 1 1 .rw 0 false
def FAIL_CTL_EN : Fld := .mk 0xe0000 0 1 .rw 1 false
/-- FAIL_CTL, as R292 of spec/11_compare_fail_capture.md lays it out. -/
def FAIL_CTL : Reg := ⟨0xe0000, 4, [], fun _ => [FAIL_CTL_CNT_EN, FAIL_CTL_SPILL, FAIL_CTL_EN]⟩

def FAIL_STAT_SPILLERR : Fld := .mk 0xe0004 4 1 .w1c 0 false
def FAIL_STAT_SPILL_FULL : Fld := .mk 0xe0004 3 1 .w1c 0 false
def FAIL_STAT_SPILL_WM : Fld := .mk 0xe0004 2 1 .w1c 0 false
def FAIL_STAT_RING_FULL : Fld := .mk 0xe0004 1 1 .w1c 0 false
def FAIL_STAT_RING_WM : Fld := .mk 0xe0004 0 1 .w1c 0 false
/-- FAIL_STAT, as R292 of spec/11_compare_fail_capture.md lays it out. -/
def FAIL_STAT : Reg := ⟨0xe0004, 4, [], fun _ => [FAIL_STAT_SPILLERR, FAIL_STAT_SPILL_FULL, FAIL_STAT_SPILL_WM, FAIL_STAT_RING_FULL, FAIL_STAT_RING_WM]⟩

def FAIL_RWR_IDX : Fld := .mk 0xe0008 0 18 .ro 0 false
/-- FAIL_RWR, as R292 of spec/11_compare_fail_capture.md lays it out. -/
def FAIL_RWR : Reg := ⟨0xe0008, 4, [], fun _ => [FAIL_RWR_IDX]⟩

def FAIL_RRD_IDX : Fld := .mk 0xe000c 0 18 .rw 0 false
/-- FAIL_RRD, as R292 of spec/11_compare_fail_capture.md lays it out. -/
def FAIL_RRD : Reg := ⟨0xe000c, 4, [], fun _ => [FAIL_RRD_IDX]⟩

def FAIL_RWM_REC : Fld := .mk 0xe0010 0 18 .rw 0x30000 false
/-- FAIL_RWM, as R292 of spec/11_compare_fail_capture.md lays it out. -/
def FAIL_RWM : Reg := ⟨0xe0010, 4, [], fun _ => [FAIL_RWM_REC]⟩

def FAIL_SBASE_ADDR : Fld := .mk 0xe0018 0 64 .rwl 0 false
/-- FAIL_SBASE, as R292 of spec/11_compare_fail_capture.md lays it out. -/
def FAIL_SBASE : Reg := ⟨0xe0018, 8, [], fun _ => [FAIL_SBASE_ADDR]⟩

def FAIL_SSIZE_LOG2 : Fld := .mk 0xe0020 0 6 .rwl 0 false
/-- FAIL_SSIZE, as R292 of spec/11_compare_fail_capture.md lays it out. -/
def FAIL_SSIZE : Reg := ⟨0xe0020, 4, [], fun _ => [FAIL_SSIZE_LOG2]⟩

def FAIL_SWR_IDX : Fld := .mk 0xe0028 0 64 .ro 0 false
/-- FAIL_SWR, as R292 of spec/11_compare_fail_capture.md lays it out. -/
def FAIL_SWR : Reg := ⟨0xe0028, 8, [], fun _ => [FAIL_SWR_IDX]⟩

def FAIL_SRD_IDX : Fld := .mk 0xe0030 0 64 .rw 0 false
/-- FAIL_SRD, as R292 of spec/11_compare_fail_capture.md lays it out. -/
def FAIL_SRD : Reg := ⟨0xe0030, 8, [], fun _ => [FAIL_SRD_IDX]⟩

def FAIL_SWM_BLK : Fld := .mk 0xe0038 0 32 .rw 0 false
/-- FAIL_SWM, as R292 of spec/11_compare_fail_capture.md lays it out. -/
def FAIL_SWM : Reg := ⟨0xe0038, 4, [], fun _ => [FAIL_SWM_BLK]⟩

def FAIL_LOST_CNT : Fld := .mk 0xe0040 0 32 .rc 0 false
/-- FAIL_LOST, as R292 of spec/11_compare_fail_capture.md lays it out. -/
def FAIL_LOST : Reg := ⟨0xe0040, 4, [], fun _ => [FAIL_LOST_CNT]⟩

def FAIL_SEQ_SEQ : Fld := .mk 0xe0044 0 32 .ro 0 false
/-- FAIL_SEQ, as R292 of spec/11_compare_fail_capture.md lays it out. -/
def FAIL_SEQ : Reg := ⟨0xe0044, 4, [], fun _ => [FAIL_SEQ_SEQ]⟩

def FAIL_CNTBASE_BASE : Fld := .mk 0xe0048 0 32 .rwl 0 false
/-- FAIL_CNTBASE, as R292 of spec/11_compare_fail_capture.md lays it out. -/
def FAIL_CNTBASE : Reg := ⟨0xe0048, 4, [], fun _ => [FAIL_CNTBASE_BASE]⟩

def FAIL_CNTTHR_THR : Fld := .mk 0xe004c 0 32 .rw 0 false
/-- FAIL_CNTTHR, as R292 of spec/11_compare_fail_capture.md lays it out. -/
def FAIL_CNTTHR : Reg := ⟨0xe004c, 4, [], fun _ => [FAIL_CNTTHR_THR]⟩

def MOT_CTL_BCNCOAST : Fld := .mk 0xa0000 29 1 .rw 1 false
def MOT_CTL_ESTOPCOAST : Fld := .mk 0xa0000 28 1 .rw 1 false
def MOT_CTL_COASTEN : Fld := .mk 0xa0000 27 1 .rw 1 false
def MOT_CTL_COASTPOL : Fld := .mk 0xa0000 26 1 .rw 0 false
def MOT_CTL_CPTHR : Fld := .mk 0xa0000 25 1 .rw 0 false
def MOT_CTL_ZPOL : Fld := .mk 0xa0000 24 1 .rw 0 false
def MOT_CTL_THR : Fld := .mk 0xa0000 16 8 .rw 0x19 false
def MOT_CTL_FILT : Fld := .mk 0xa0000 8 8 .rw 4 false
def MOT_CTL_TERM : Fld := .mk 0xa0000 4 1 .rw 0 false
def MOT_CTL_DIFF : Fld := .mk 0xa0000 3 1 .rw 1 false
def MOT_CTL_ZRESET : Fld := .mk 0xa0000 2 1 .rw 0 false
def MOT_CTL_DIR : Fld := .mk 0xa0000 1 1 .rw 0 false
def MOT_CTL_EN : Fld := .mk 0xa0000 0 1 .rw 0 false
/-- MOT_CTL, as R339 of spec/13_motion_grading.md lays it out. -/
def MOT_CTL : Reg := ⟨0xa0000, 4, [], fun _ => [MOT_CTL_BCNCOAST, MOT_CTL_ESTOPCOAST, MOT_CTL_COASTEN, MOT_CTL_COASTPOL, MOT_CTL_CPTHR, MOT_CTL_ZPOL, MOT_CTL_THR, MOT_CTL_FILT, MOT_CTL_TERM, MOT_CTL_DIFF, MOT_CTL_ZRESET, MOT_CTL_DIR, MOT_CTL_EN]⟩

def MOT_POS_POS : Fld := .mk 0xa0008 0 64 .rw 0 false
/-- MOT_POS, as R339 of spec/13_motion_grading.md lays it out. -/
def MOT_POS : Reg := ⟨0xa0008, 8, [], fun _ => [MOT_POS_POS]⟩

def MOT_POSDT_DT : Fld := .mk 0xa0010 0 64 .ro 0 false
/-- MOT_POSDT, as R339 of spec/13_motion_grading.md lays it out. -/
def MOT_POSDT : Reg := ⟨0xa0010, 8, [], fun _ => [MOT_POSDT_DT]⟩

def MOT_VEL_CPS : Fld := .mk 0xa0018 0 32 .ro 0 false
/-- MOT_VEL, as R339 of spec/13_motion_grading.md lays it out. -/
def MOT_VEL : Reg := ⟨0xa0018, 4, [], fun _ => [MOT_VEL_CPS]⟩

def MOT_PITCH_COUNTS : Fld := .mk 0xa0020 0 32 .rw 0 false
/-- MOT_PITCH, as R339 of spec/13_motion_grading.md lays it out. -/
def MOT_PITCH : Reg := ⟨0xa0020, 4, [], fun _ => [MOT_PITCH_COUNTS]⟩

def MOT_C0_POS : Fld := .mk 0xa0028 0 64 .rw 0 false
/-- MOT_C0, as R339 of spec/13_motion_grading.md lays it out. -/
def MOT_C0 : Reg := ⟨0xa0028, 8, [], fun _ => [MOT_C0_POS]⟩

def MOT_ZPOS_POS : Fld := .mk 0xa0030 0 64 .ro 0 false
/-- MOT_ZPOS, as R339 of spec/13_motion_grading.md lays it out. -/
def MOT_ZPOS : Reg := ⟨0xa0030, 8, [], fun _ => [MOT_ZPOS_POS]⟩

def MOT_ZDT_DT : Fld := .mk 0xa0038 0 64 .ro 0 false
/-- MOT_ZDT, as R339 of spec/13_motion_grading.md lays it out. -/
def MOT_ZDT : Reg := ⟨0xa0038, 8, [], fun _ => [MOT_ZDT_DT]⟩

def MOT_STAT_XG : Fld := .mk 0xa0040 17 1 .ro 0 false
def MOT_STAT_COASTIN : Fld := .mk 0xa0040 16 1 .ro 0 false
def MOT_STAT_CP : Fld := .mk 0xa0040 12 4 .ro 0 false
def MOT_STAT_COASTSRC : Fld := .mk 0xa0040 7 5 .ro 0 false
def MOT_STAT_RESREJ : Fld := .mk 0xa0040 4 1 .w1c 0 false
def MOT_STAT_SCHLATE : Fld := .mk 0xa0040 3 1 .w1c 0 false
def MOT_STAT_QERR : Fld := .mk 0xa0040 2 1 .w1c 0 false
def MOT_STAT_COAST : Fld := .mk 0xa0040 1 1 .ro 0 false
/-- MOT_STAT, as R339 of spec/13_motion_grading.md lays it out. -/
def MOT_STAT : Reg := ⟨0xa0040, 4, [], fun _ => [MOT_STAT_XG, MOT_STAT_COASTIN, MOT_STAT_CP, MOT_STAT_COASTSRC, MOT_STAT_RESREJ, MOT_STAT_SCHLATE, MOT_STAT_QERR, MOT_STAT_COAST]⟩

def MOT_CMD_SCHCLR : Fld := .mk 0xa0044 2 1 .wo 0 false
def MOT_CMD_RESUME : Fld := .mk 0xa0044 1 1 .wo 0 false
def MOT_CMD_COAST : Fld := .mk 0xa0044 0 1 .wo 0 false
/-- MOT_CMD, as R339 of spec/13_motion_grading.md lays it out. -/
def MOT_CMD : Reg := ⟨0xa0044, 4, [], fun _ => [MOT_CMD_SCHCLR, MOT_CMD_RESUME, MOT_CMD_COAST]⟩

def MOT_COASTDT_DT : Fld := .mk 0xa0048 0 64 .ro 0 false
/-- MOT_COASTDT, as R339 of spec/13_motion_grading.md lays it out. -/
def MOT_COASTDT : Reg := ⟨0xa0048, 8, [], fun _ => [MOT_COASTDT_DT]⟩

def MOT_GUARD_COUNTS : Fld := .mk 0xa0050 0 24 .rw 0xc8 false
/-- MOT_GUARD, as R339 of spec/13_motion_grading.md lays it out. -/
def MOT_GUARD : Reg := ⟨0xa0050, 4, [], fun _ => [MOT_GUARD_COUNTS]⟩

def MOT_SCHCNT_USED : Fld := .mk 0xa0054 0 13 .ro 0 false
/-- MOT_SCHCNT, as R339 of spec/13_motion_grading.md lays it out. -/
def MOT_SCHCNT : Reg := ⟨0xa0054, 4, [], fun _ => [MOT_SCHCNT_USED]⟩

def MOT_SADDPOS_POS : Fld := .mk 0xa0060 0 64 .rw 0 false
/-- MOT_SADDPOS, as R339 of spec/13_motion_grading.md lays it out. -/
def MOT_SADDPOS : Reg := ⟨0xa0060, 8, [], fun _ => [MOT_SADDPOS_POS]⟩

def MOT_SADDACT_ARG : Fld := .mk 0xa0068 16 16 .wo 0 false
def MOT_SADDACT_ACT : Fld := .mk 0xa0068 0 8 .wo 0 false
/-- MOT_SADDACT, as R339 of spec/13_motion_grading.md lays it out. -/
def MOT_SADDACT : Reg := ⟨0xa0068, 4, [], fun _ => [MOT_SADDACT_ARG, MOT_SADDACT_ACT]⟩

def MOT_SADDRES_STATUS : Fld := .mk 0xa006c 0 8 .ro 0 false
/-- MOT_SADDRES, as R339 of spec/13_motion_grading.md lays it out. -/
def MOT_SADDRES : Reg := ⟨0xa006c, 4, [], fun _ => [MOT_SADDRES_STATUS]⟩

def MOT_CNT_CANCEL : Fld := .mk 0xa0070 16 16 .rc 0 false
def MOT_CNT_GATES : Fld := .mk 0xa0070 0 16 .rc 0 false
/-- MOT_CNT, as R339 of spec/13_motion_grading.md lays it out. -/
def MOT_CNT : Reg := ⟨0xa0070, 4, [], fun _ => [MOT_CNT_CANCEL, MOT_CNT_GATES]⟩

def MOT_LATECNT_SCHLATE : Fld := .mk 0xa0074 16 16 .rc 0 false
def MOT_LATECNT_LATE : Fld := .mk 0xa0074 0 16 .rc 0 false
/-- MOT_LATECNT, as R339 of spec/13_motion_grading.md lays it out. -/
def MOT_LATECNT : Reg := ⟨0xa0074, 4, [], fun _ => [MOT_LATECNT_SCHLATE, MOT_LATECNT_LATE]⟩

def MOT_SGW_US (k : Nat) : Fld := .mk (0xa0080 + 0x4 * k) 0 24 .rw 0x4e20 false
/-- MOT_SGW, as R339 of spec/13_motion_grading.md lays it out. -/
def MOT_SGW : Reg := ⟨0xa0080, 4, [(0x4, 8)], fun ix => let k := ix.getD 0 0; [MOT_SGW_US k]⟩

def CT_CTL_GTSEL : Fld := .mk 0xb0000 2 1 .rw 0 false
def CT_CTL_AUTOSEAL : Fld := .mk 0xb0000 1 1 .rw 1 false
def CT_CTL_EN : Fld := .mk 0xb0000 0 1 .rw 0 false
/-- CT_CTL, as R341 of spec/13_motion_grading.md lays it out. -/
def CT_CTL : Reg := ⟨0xb0000, 4, [], fun _ => [CT_CTL_GTSEL, CT_CTL_AUTOSEAL, CT_CTL_EN]⟩

def CT_STAT_GTERR : Fld := .mk 0xb0004 23 1 .w1c 0 false
def CT_STAT_FLUSHBUSY : Fld := .mk 0xb0004 22 1 .ro 0 false
def CT_STAT_RECOUNT : Fld := .mk 0xb0004 21 1 .ro 0 false
def CT_STAT_LIVE : Fld := .mk 0xb0004 0 21 .ro 0 false
/-- CT_STAT, as R341 of spec/13_motion_grading.md lays it out. -/
def CT_STAT : Reg := ⟨0xb0004, 4, [], fun _ => [CT_STAT_GTERR, CT_STAT_FLUSHBUSY, CT_STAT_RECOUNT, CT_STAT_LIVE]⟩

def CT_BASE_ADDR : Fld := .mk 0xb0008 0 64 .rwl 0 false
/-- CT_BASE, as R341 of spec/13_motion_grading.md lays it out. -/
def CT_BASE : Reg := ⟨0xb0008, 8, [], fun _ => [CT_BASE_ADDR]⟩

def CT_HKEY0_KEY (w : Nat) : Fld := .mk (0xb0010 + 0x4 * w) 0 32 .wo 0 false
/-- CT_HKEY0, as R341 of spec/13_motion_grading.md lays it out. -/
def CT_HKEY0 : Reg := ⟨0xb0010, 4, [(0x4, 4)], fun ix => let w := ix.getD 0 0; [CT_HKEY0_KEY w]⟩

def CT_HKEY1_KEY (w : Nat) : Fld := .mk (0xb0020 + 0x4 * w) 0 32 .wo 0 false
/-- CT_HKEY1, as R341 of spec/13_motion_grading.md lays it out. -/
def CT_HKEY1 : Reg := ⟨0xb0020, 4, [(0x4, 4)], fun ix => let w := ix.getD 0 0; [CT_HKEY1_KEY w]⟩

def CT_CMD_SEAL : Fld := .mk 0xb0030 1 1 .wo 0 false
def CT_CMD_FLUSH : Fld := .mk 0xb0030 0 1 .wo 0 false
/-- CT_CMD, as R341 of spec/13_motion_grading.md lays it out. -/
def CT_CMD : Reg := ⟨0xb0030, 4, [], fun _ => [CT_CMD_SEAL, CT_CMD_FLUSH]⟩

def CT_GT0BASE_ADDR : Fld := .mk 0xb0040 0 64 .rwl 0 false
/-- CT_GT0BASE, as R341 of spec/13_motion_grading.md lays it out. -/
def CT_GT0BASE : Reg := ⟨0xb0040, 8, [], fun _ => [CT_GT0BASE_ADDR]⟩

def CT_GT1BASE_ADDR : Fld := .mk 0xb0048 0 64 .rwl 0 false
/-- CT_GT1BASE, as R341 of spec/13_motion_grading.md lays it out. -/
def CT_GT1BASE : Reg := ⟨0xb0048, 8, [], fun _ => [CT_GT1BASE_ADDR]⟩

def CT_CMBASE_ADDR : Fld := .mk 0xb0050 0 64 .rwl 0 false
/-- CT_CMBASE, as R341 of spec/13_motion_grading.md lays it out. -/
def CT_CMBASE : Reg := ⟨0xb0050, 8, [], fun _ => [CT_CMBASE_ADDR]⟩

def CT_KMINDT_DT : Fld := .mk 0xb0058 0 64 .rw 0 false
/-- CT_KMINDT, as R341 of spec/13_motion_grading.md lays it out. -/
def CT_KMINDT : Reg := ⟨0xb0058, 8, [], fun _ => [CT_KMINDT_DT]⟩

def CT_SEALCFG_MAXMS : Fld := .mk 0xb0060 16 16 .rw 0x2710 false
def CT_SEALCFG_MAXLEAF : Fld := .mk 0xb0060 0 13 .rw 0x1000 false
/-- CT_SEALCFG, as R341 of spec/13_motion_grading.md lays it out. -/
def CT_SEALCFG : Reg := ⟨0xb0060, 4, [], fun _ => [CT_SEALCFG_MAXMS, CT_SEALCFG_MAXLEAF]⟩

def CT_BATCH_NUM : Fld := .mk 0xb0068 0 64 .ro 0 false
/-- CT_BATCH, as R341 of spec/13_motion_grading.md lays it out. -/
def CT_BATCH : Reg := ⟨0xb0068, 8, [], fun _ => [CT_BATCH_NUM]⟩

def CT_BSTAT_QUEUED : Fld := .mk 0xb0070 16 3 .ro 0 false
def CT_BSTAT_LEAVES : Fld := .mk 0xb0070 0 13 .ro 0 false
/-- CT_BSTAT, as R341 of spec/13_motion_grading.md lays it out. -/
def CT_BSTAT : Reg := ⟨0xb0070, 4, [], fun _ => [CT_BSTAT_QUEUED, CT_BSTAT_LEAVES]⟩

def CT_SEALDONE_NUM : Fld := .mk 0xb0078 0 64 .ro 0 false
/-- CT_SEALDONE, as R341 of spec/13_motion_grading.md lays it out. -/
def CT_SEALDONE : Reg := ⟨0xb0078, 8, [], fun _ => [CT_SEALDONE_NUM]⟩

def CT_CNT_CCMISS : Fld := .mk 0xb0080 16 16 .rc 0 false
def CT_CNT_FULL : Fld := .mk 0xb0080 0 16 .rc 0 false
/-- CT_CNT, as R341 of spec/13_motion_grading.md lays it out. -/
def CT_CNT : Reg := ⟨0xb0080, 4, [], fun _ => [CT_CNT_CCMISS, CT_CNT_FULL]⟩

def CT_REPCTL_MAPTX (l : Nat) : Fld := .mk (0xb0100 + 0x10 * l) 16 1 .rw 0 false
def CT_REPCTL_STATEMASK (l : Nat) : Fld := .mk (0xb0100 + 0x10 * l) 8 8 .rw 0 false
def CT_REPCTL_RX (l : Nat) : Fld := .mk (0xb0100 + 0x10 * l) 1 1 .rw 0 false
def CT_REPCTL_TX (l : Nat) : Fld := .mk (0xb0100 + 0x10 * l) 0 1 .rw 0 false
/-- CT_REPCTL, as R341 of spec/13_motion_grading.md lays it out. -/
def CT_REPCTL : Reg := ⟨0xb0100, 4, [(0x10, 4)], fun ix => let l := ix.getD 0 0; [CT_REPCTL_MAPTX l, CT_REPCTL_STATEMASK l, CT_REPCTL_RX l, CT_REPCTL_TX l]⟩

def CT_REPSTAT_DISCARD (l : Nat) : Fld := .mk (0xb0104 + 0x10 * l) 16 16 .rc 0 false
def CT_REPSTAT_APPLIED (l : Nat) : Fld := .mk (0xb0104 + 0x10 * l) 0 16 .rc 0 false
/-- CT_REPSTAT, as R341 of spec/13_motion_grading.md lays it out. -/
def CT_REPSTAT : Reg := ⟨0xb0104, 4, [(0x10, 4)], fun ix => let l := ix.getD 0 0; [CT_REPSTAT_DISCARD l, CT_REPSTAT_APPLIED l]⟩

def MEM_CTL_BT_EN : Fld := .mk 0xc0000 1 1 .rw 1 false
def MEM_CTL_SCRUBWB : Fld := .mk 0xc0000 0 1 .rw 1 false
/-- MEM_CTL, as R359 of spec/14_onchip_memory.md lays it out. -/
def MEM_CTL : Reg := ⟨0xc0000, 4, [], fun _ => [MEM_CTL_BT_EN, MEM_CTL_SCRUBWB]⟩

def MEM_ECCSTAT_PWDROP : Fld := .mk 0xc0004 2 1 .w1c 0 false
def MEM_ECCSTAT_UE : Fld := .mk 0xc0004 1 1 .w1c 0 false
def MEM_ECCSTAT_CE : Fld := .mk 0xc0004 0 1 .w1c 0 false
/-- MEM_ECCSTAT, as R359 of spec/14_onchip_memory.md lays it out. -/
def MEM_ECCSTAT : Reg := ⟨0xc0004, 4, [], fun _ => [MEM_ECCSTAT_PWDROP, MEM_ECCSTAT_UE, MEM_ECCSTAT_CE]⟩

def MEM_UEADDR_VALID : Fld := .mk 0xc0008 63 1 .w1c 0 false
def MEM_UEADDR_MASTER : Fld := .mk 0xc0008 40 6 .ro 0 false
def MEM_UEADDR_ADDR : Fld := .mk 0xc0008 0 40 .ro 0 false
/-- MEM_UEADDR, as R359 of spec/14_onchip_memory.md lays it out. -/
def MEM_UEADDR : Reg := ⟨0xc0008, 8, [], fun _ => [MEM_UEADDR_VALID, MEM_UEADDR_MASTER, MEM_UEADDR_ADDR]⟩

def MEM_AECNT_CNT : Fld := .mk 0xc0010 0 32 .rc 0 false
/-- MEM_AECNT, as R359 of spec/14_onchip_memory.md lays it out. -/
def MEM_AECNT : Reg := ⟨0xc0010, 4, [], fun _ => [MEM_AECNT_CNT]⟩

def MEM_AEINFO_VALID : Fld := .mk 0xc0018 63 1 .w1c 0 false
def MEM_AEINFO_KIND : Fld := .mk 0xc0018 56 4 .ro 0 false
def MEM_AEINFO_TARGET : Fld := .mk 0xc0018 51 5 .ro 0 false
def MEM_AEINFO_ADDR : Fld := .mk 0xc0018 0 40 .ro 0 false
/-- MEM_AEINFO, as R359 of spec/14_onchip_memory.md lays it out. -/
def MEM_AEINFO : Reg := ⟨0xc0018, 8, [], fun _ => [MEM_AEINFO_VALID, MEM_AEINFO_KIND, MEM_AEINFO_TARGET, MEM_AEINFO_ADDR]⟩

def MEM_AEMAST_MASTER : Fld := .mk 0xc0020 0 6 .ro 0 false
/-- MEM_AEMAST, as R359 of spec/14_onchip_memory.md lays it out. -/
def MEM_AEMAST : Reg := ⟨0xc0020, 4, [], fun _ => [MEM_AEMAST_MASTER]⟩

def MEM_BTCFG_GAP : Fld := .mk 0xc0024 0 16 .rw 0x3e8 false
/-- MEM_BTCFG, as R359 of spec/14_onchip_memory.md lays it out. -/
def MEM_BTCFG : Reg := ⟨0xc0024, 4, [], fun _ => [MEM_BTCFG_GAP]⟩

def MEM_BTMASK_BANKS : Fld := .mk 0xc0028 0 20 .rw 0xfffff false
/-- MEM_BTMASK, as R359 of spec/14_onchip_memory.md lays it out. -/
def MEM_BTMASK : Reg := ⟨0xc0028, 4, [], fun _ => [MEM_BTMASK_BANKS]⟩

def MEM_BTSTAT_PASSES : Fld := .mk 0xc002c 16 16 .ro 0 false
def MEM_BTSTAT_FAULT : Fld := .mk 0xc002c 3 1 .w1c 0 false
def MEM_BTSTAT_ABORT : Fld := .mk 0xc002c 2 1 .w1c 0 false
def MEM_BTSTAT_BORROWED : Fld := .mk 0xc002c 1 1 .ro 0 false
def MEM_BTSTAT_RUN : Fld := .mk 0xc002c 0 1 .ro 0 false
/-- MEM_BTSTAT, as R359 of spec/14_onchip_memory.md lays it out. -/
def MEM_BTSTAT : Reg := ⟨0xc002c, 4, [], fun _ => [MEM_BTSTAT_PASSES, MEM_BTSTAT_FAULT, MEM_BTSTAT_ABORT, MEM_BTSTAT_BORROWED, MEM_BTSTAT_RUN]⟩

def MEM_BTCUR_SLICE : Fld := .mk 0xc0030 0 14 .ro 0 false
/-- MEM_BTCUR, as R359 of spec/14_onchip_memory.md lays it out. -/
def MEM_BTCUR : Reg := ⟨0xc0030, 4, [], fun _ => [MEM_BTCUR_SLICE]⟩

def MEM_BTFADDR_VALID : Fld := .mk 0xc0038 63 1 .w1c 0 false
def MEM_BTFADDR_BIT : Fld := .mk 0xc0038 40 7 .ro 0 false
def MEM_BTFADDR_ADDR : Fld := .mk 0xc0038 0 40 .ro 0 false
/-- MEM_BTFADDR, as R359 of spec/14_onchip_memory.md lays it out. -/
def MEM_BTFADDR : Reg := ⟨0xc0038, 8, [], fun _ => [MEM_BTFADDR_VALID, MEM_BTFADDR_BIT, MEM_BTFADDR_ADDR]⟩

def MEM_COLLIDE_CNT (b : Nat) : Fld := .mk (0xc0100 + 0x10 * b) 0 32 .rc 0 false
/-- MEM_COLLIDE, as R359 of spec/14_onchip_memory.md lays it out. -/
def MEM_COLLIDE : Reg := ⟨0xc0100, 4, [(0x10, 20)], fun ix => let b := ix.getD 0 0; [MEM_COLLIDE_CNT b]⟩

def MEM_ECCCNT_UE (b : Nat) : Fld := .mk (0xc0104 + 0x10 * b) 16 16 .rc 0 false
def MEM_ECCCNT_CE (b : Nat) : Fld := .mk (0xc0104 + 0x10 * b) 0 16 .rc 0 false
/-- MEM_ECCCNT, as R359 of spec/14_onchip_memory.md lays it out. -/
def MEM_ECCCNT : Reg := ⟨0xc0104, 4, [(0x10, 20)], fun ix => let b := ix.getD 0 0; [MEM_ECCCNT_UE b, MEM_ECCCNT_CE b]⟩

def MEM_REPAIR_SPARES (b : Nat) : Fld := .mk (0xc0108 + 0x10 * b) 16 16 .ro 0 false
def MEM_REPAIR_FULLSUB (b : Nat) : Fld := .mk (0xc0108 + 0x10 * b) 8 8 .ro 0 false
def MEM_REPAIR_MAXSUB (b : Nat) : Fld := .mk (0xc0108 + 0x10 * b) 0 3 .ro 0 false
/-- MEM_REPAIR, as R359 of spec/14_onchip_memory.md lays it out. -/
def MEM_REPAIR : Reg := ⟨0xc0108, 4, [(0x10, 20)], fun ix => let b := ix.getD 0 0; [MEM_REPAIR_SPARES b, MEM_REPAIR_FULLSUB b, MEM_REPAIR_MAXSUB b]⟩

def MEM_BTCOV_TESTED (b : Nat) : Fld := .mk (0xc010c + 0x10 * b) 16 16 .ro 0 false
def MEM_BTCOV_SKIPPED (b : Nat) : Fld := .mk (0xc010c + 0x10 * b) 0 16 .ro 0 false
/-- MEM_BTCOV, as R359 of spec/14_onchip_memory.md lays it out. -/
def MEM_BTCOV : Reg := ⟨0xc010c, 4, [(0x10, 20)], fun ix => let b := ix.getD 0 0; [MEM_BTCOV_TESTED b, MEM_BTCOV_SKIPPED b]⟩

def MEM_RLO_EN (m : Nat) (t : Nat) (i : Nat) : Fld := .mk (0xc2000 + 0x580 * m + 0x40 * t + 0x8 * i) 31 1 .rwl (regOneRst m i) false
def MEM_RLO_PINNED (m : Nat) (t : Nat) (i : Nat) : Fld := .mk (0xc2000 + 0x580 * m + 0x40 * t + 0x8 * i) 30 1 .rwl 0 false
def MEM_RLO_TRAP (m : Nat) (t : Nat) (i : Nat) : Fld := .mk (0xc2000 + 0x580 * m + 0x40 * t + 0x8 * i) 29 1 .ro 0 false
def MEM_RLO_BASE (m : Nat) (t : Nat) (i : Nat) : Fld := .mk (0xc2000 + 0x580 * m + 0x40 * t + 0x8 * i) 0 28 .rwl (regBaseRst m t i) false
/-- MEM_RLO, as R360 of spec/14_onchip_memory.md lays it out. -/
def MEM_RLO : Reg := ⟨0xc2000, 4, [(0x580, 38), (0x40, 22), (0x8, 8)], fun ix => let m := ix.getD 0 0; let t := ix.getD 1 0; let i := ix.getD 2 0; [MEM_RLO_EN m t i, MEM_RLO_PINNED m t i, MEM_RLO_TRAP m t i, MEM_RLO_BASE m t i]⟩

def MEM_RHI_R (m : Nat) (t : Nat) (i : Nat) : Fld := .mk (0xc2004 + 0x580 * m + 0x40 * t + 0x8 * i) 31 1 .rwl (regOneRst m i) false
def MEM_RHI_W (m : Nat) (t : Nat) (i : Nat) : Fld := .mk (0xc2004 + 0x580 * m + 0x40 * t + 0x8 * i) 30 1 .rwl (regOneRst m i) false
def MEM_RHI_A (m : Nat) (t : Nat) (i : Nat) : Fld := .mk (0xc2004 + 0x580 * m + 0x40 * t + 0x8 * i) 29 1 .rwl (regOneRst m i) false
def MEM_RHI_X (m : Nat) (t : Nat) (i : Nat) : Fld := .mk (0xc2004 + 0x580 * m + 0x40 * t + 0x8 * i) 28 1 (if m < 16 then .rwl else .ro) 0 false
def MEM_RHI_LIMIT (m : Nat) (t : Nat) (i : Nat) : Fld := .mk (0xc2004 + 0x580 * m + 0x40 * t + 0x8 * i) 0 28 .rwl (regLimRst m t i) false
/-- MEM_RHI, as R360 of spec/14_onchip_memory.md lays it out. -/
def MEM_RHI : Reg := ⟨0xc2004, 4, [(0x580, 38), (0x40, 22), (0x8, 8)], fun ix => let m := ix.getD 0 0; let t := ix.getD 1 0; let i := ix.getD 2 0; [MEM_RHI_R m t i, MEM_RHI_W m t i, MEM_RHI_A m t i, MEM_RHI_X m t i, MEM_RHI_LIMIT m t i]⟩

def DDR_CTL_SCRUB_EN : Fld := .mk 0xd0000 2 1 .rw 1 false
def DDR_CTL_RH_EN : Fld := .mk 0xd0000 1 1 .rwl 1 false
def DDR_CTL_SR_EN : Fld := .mk 0xd0000 0 1 .rw 1 false
/-- DDR_CTL, as R382 of spec/15_ddr5_controller.md lays it out. -/
def DDR_CTL : Reg := ⟨0xd0000, 4, [], fun _ => [DDR_CTL_SCRUB_EN, DDR_CTL_RH_EN, DDR_CTL_SR_EN]⟩

def DDR_STAT_CAPGIB : Fld := .mk 0xd0004 16 16 .ro 0 false
def DDR_STAT_ERR : Fld := .mk 0xd0004 8 4 .ro 0 false
def DDR_STAT_SPEED : Fld := .mk 0xd0004 6 2 .ro 0 false
def DDR_STAT_ARR : Fld := .mk 0xd0004 4 2 .ro 0 false
def DDR_STAT_AVAIL : Fld := .mk 0xd0004 0 1 .ro 0 false
/-- DDR_STAT, as R382 of spec/15_ddr5_controller.md lays it out. -/
def DDR_STAT : Reg := ⟨0xd0004, 4, [], fun _ => [DDR_STAT_CAPGIB, DDR_STAT_ERR, DDR_STAT_SPEED, DDR_STAT_ARR, DDR_STAT_AVAIL]⟩

def DDR_SCHEDCFG_WRHI : Fld := .mk 0xd0008 24 8 .rw 0x30 false
def DDR_SCHEDCFG_WRLO : Fld := .mk 0xd0008 16 8 .rw 0x10 false
def DDR_SCHEDCFG_BYPASS : Fld := .mk 0xd0008 0 8 .rw 0x20 false
/-- DDR_SCHEDCFG, as R382 of spec/15_ddr5_controller.md lays it out. -/
def DDR_SCHEDCFG : Reg := ⟨0xd0008, 4, [], fun _ => [DDR_SCHEDCFG_WRHI, DDR_SCHEDCFG_WRLO, DDR_SCHEDCFG_BYPASS]⟩

def DDR_REFCFG_POSTMAX : Fld := .mk 0xd000c 12 4 .rwl 4 false
def DDR_REFCFG_RRTHR : Fld := .mk 0xd000c 8 3 .rwl 3 false
def DDR_REFCFG_MR4MS : Fld := .mk 0xd000c 0 8 .rw 4 false
/-- DDR_REFCFG, as R382 of spec/15_ddr5_controller.md lays it out. -/
def DDR_REFCFG : Reg := ⟨0xd000c, 4, [], fun _ => [DDR_REFCFG_POSTMAX, DDR_REFCFG_RRTHR, DDR_REFCFG_MR4MS]⟩

def DDR_PWRCFG_IDLEUS : Fld := .mk 0xd0010 0 16 .rw 0x64 false
/-- DDR_PWRCFG, as R382 of spec/15_ddr5_controller.md lays it out. -/
def DDR_PWRCFG : Reg := ⟨0xd0010, 4, [], fun _ => [DDR_PWRCFG_IDLEUS]⟩

def DDR_RHCFG_NODRFM : Fld := .mk 0xd0014 16 1 .rwl 0 false
def DDR_RHCFG_THR : Fld := .mk 0xd0014 0 16 .rwl 0x800 false
/-- DDR_RHCFG, as R382 of spec/15_ddr5_controller.md lays it out. -/
def DDR_RHCFG : Reg := ⟨0xd0014, 4, [], fun _ => [DDR_RHCFG_NODRFM, DDR_RHCFG_THR]⟩

def DDR_SCRUBCFG_HOURS : Fld := .mk 0xd0018 0 8 .rw 0x18 false
/-- DDR_SCRUBCFG, as R382 of spec/15_ddr5_controller.md lays it out. -/
def DDR_SCRUBCFG : Reg := ⟨0xd0018, 4, [], fun _ => [DDR_SCRUBCFG_HOURS]⟩

def DDR_OORCNT_CNT : Fld := .mk 0xd001c 0 32 .rc 0 false
/-- DDR_OORCNT, as R382 of spec/15_ddr5_controller.md lays it out. -/
def DDR_OORCNT : Reg := ⟨0xd001c, 4, [], fun _ => [DDR_OORCNT_CNT]⟩

def DDR_CHSTAT_QUSED (c : Nat) : Fld := .mk (0xd0100 + 0x80 * c) 16 8 .ro 0 false
def DDR_CHSTAT_SR (c : Nat) : Fld := .mk (0xd0100 + 0x80 * c) 3 1 .ro 0 false
def DDR_CHSTAT_DRFM (c : Nat) : Fld := .mk (0xd0100 + 0x80 * c) 2 1 .ro 0 false
def DDR_CHSTAT_ALLBANK (c : Nat) : Fld := .mk (0xd0100 + 0x80 * c) 1 1 .ro 0 false
def DDR_CHSTAT_TRAINED (c : Nat) : Fld := .mk (0xd0100 + 0x80 * c) 0 1 .ro 0 false
/-- DDR_CHSTAT, as R383 of spec/15_ddr5_controller.md lays it out. -/
def DDR_CHSTAT : Reg := ⟨0xd0100, 4, [(0x80, 2)], fun ix => let c := ix.getD 0 0; [DDR_CHSTAT_QUSED c, DDR_CHSTAT_SR c, DDR_CHSTAT_DRFM c, DDR_CHSTAT_ALLBANK c, DDR_CHSTAT_TRAINED c]⟩

def DDR_RHCNT_DRFM (c : Nat) : Fld := .mk (0xd0104 + 0x80 * c) 16 16 .rc 0 false
def DDR_RHCNT_NBR (c : Nat) : Fld := .mk (0xd0104 + 0x80 * c) 0 16 .rc 0 false
/-- DDR_RHCNT, as R383 of spec/15_ddr5_controller.md lays it out. -/
def DDR_RHCNT : Reg := ⟨0xd0104, 4, [(0x80, 2)], fun ix => let c := ix.getD 0 0; [DDR_RHCNT_DRFM c, DDR_RHCNT_NBR c]⟩

def DDR_SRCNT_ABANDON (c : Nat) : Fld := .mk (0xd0108 + 0x80 * c) 16 16 .rc 0 false
def DDR_SRCNT_ENTRY (c : Nat) : Fld := .mk (0xd0108 + 0x80 * c) 0 16 .rc 0 false
/-- DDR_SRCNT, as R383 of spec/15_ddr5_controller.md lays it out. -/
def DDR_SRCNT : Reg := ⟨0xd0108, 4, [(0x80, 2)], fun ix => let c := ix.getD 0 0; [DDR_SRCNT_ABANDON c, DDR_SRCNT_ENTRY c]⟩

def DDR_REFFORCE_CNT (c : Nat) : Fld := .mk (0xd010c + 0x80 * c) 0 32 .rc 0 false
/-- DDR_REFFORCE, as R383 of spec/15_ddr5_controller.md lays it out. -/
def DDR_REFFORCE : Reg := ⟨0xd010c, 4, [(0x80, 2)], fun ix => let c := ix.getD 0 0; [DDR_REFFORCE_CNT c]⟩

def DDR_RKSTAT_RRCODE (c : Nat) (r : Nat) : Fld := .mk (0xd0110 + 0x80 * c + 0x4 * r) 16 3 .ro 0 false
def DDR_RKSTAT_DOUBLED (c : Nat) (r : Nat) : Fld := .mk (0xd0110 + 0x80 * c + 0x4 * r) 8 1 .ro 0 false
def DDR_RKSTAT_DEBT (c : Nat) (r : Nat) : Fld := .mk (0xd0110 + 0x80 * c + 0x4 * r) 0 4 .ro 0 false
/-- DDR_RKSTAT, as R383 of spec/15_ddr5_controller.md lays it out. -/
def DDR_RKSTAT : Reg := ⟨0xd0110, 4, [(0x80, 2), (0x4, 4)], fun ix => let c := ix.getD 0 0; let r := ix.getD 1 0; [DDR_RKSTAT_RRCODE c r, DDR_RKSTAT_DOUBLED c r, DDR_RKSTAT_DEBT c r]⟩

def DDR_ECCCNT_UE (c : Nat) (r : Nat) : Fld := .mk (0xd0120 + 0x80 * c + 0x4 * r) 16 16 .rc 0 false
def DDR_ECCCNT_CE (c : Nat) (r : Nat) : Fld := .mk (0xd0120 + 0x80 * c + 0x4 * r) 0 16 .rc 0 false
/-- DDR_ECCCNT, as R383 of spec/15_ddr5_controller.md lays it out. -/
def DDR_ECCCNT : Reg := ⟨0xd0120, 4, [(0x80, 2), (0x4, 4)], fun ix => let c := ix.getD 0 0; let r := ix.getD 1 0; [DDR_ECCCNT_UE c r, DDR_ECCCNT_CE c r]⟩

def DDR_CEINFO_VALID (c : Nat) : Fld := .mk (0xd0130 + 0x80 * c) 63 1 .w1c 0 false
def DDR_CEINFO_DEV (c : Nat) : Fld := .mk (0xd0130 + 0x80 * c) 58 5 .ro 0 false
def DDR_CEINFO_RANK (c : Nat) : Fld := .mk (0xd0130 + 0x80 * c) 56 2 .ro 0 false
def DDR_CEINFO_ADDR (c : Nat) : Fld := .mk (0xd0130 + 0x80 * c) 0 40 .ro 0 false
/-- DDR_CEINFO, as R383 of spec/15_ddr5_controller.md lays it out. -/
def DDR_CEINFO : Reg := ⟨0xd0130, 8, [(0x80, 2)], fun ix => let c := ix.getD 0 0; [DDR_CEINFO_VALID c, DDR_CEINFO_DEV c, DDR_CEINFO_RANK c, DDR_CEINFO_ADDR c]⟩

def DDR_UEINFO_VALID (c : Nat) : Fld := .mk (0xd0138 + 0x80 * c) 63 1 .w1c 0 false
def DDR_UEINFO_MASTER (c : Nat) : Fld := .mk (0xd0138 + 0x80 * c) 50 6 .ro 0 false
def DDR_UEINFO_ADDR (c : Nat) : Fld := .mk (0xd0138 + 0x80 * c) 0 40 .ro 0 false
/-- DDR_UEINFO, as R383 of spec/15_ddr5_controller.md lays it out. -/
def DDR_UEINFO : Reg := ⟨0xd0138, 8, [(0x80, 2)], fun ix => let c := ix.getD 0 0; [DDR_UEINFO_VALID c, DDR_UEINFO_MASTER c, DDR_UEINFO_ADDR c]⟩

def EVT_COAL_P2 : Fld := .mk 0x40000 16 8 .rw 1 false
def EVT_COAL_P1 : Fld := .mk 0x40000 8 8 .rw 0xa false
def EVT_COAL_P0 : Fld := .mk 0x40000 0 8 .rw 0x64 false
/-- EVT_COAL, as R399 of spec/16_events_host_access.md lays it out. -/
def EVT_COAL : Reg := ⟨0x40000, 4, [], fun _ => [EVT_COAL_P2, EVT_COAL_P1, EVT_COAL_P0]⟩

def EVT_RAISE_DATA : Fld := .mk 0x40008 0 32 .wo 0 false
def EVT_RAISE_DB : Fld := .mk 0x40008 32 5 .wo 0 false
/-- EVT_RAISE, as R399 of spec/16_events_host_access.md lays it out. -/
def EVT_RAISE : Reg := ⟨0x40008, 8, [], fun _ => [EVT_RAISE_DATA, EVT_RAISE_DB]⟩

def EVT_MSGCNT_CNT : Fld := .mk 0x40010 0 32 .rc 0 false
/-- EVT_MSGCNT, as R399 of spec/16_events_host_access.md lays it out. -/
def EVT_MSGCNT : Reg := ⟨0x40010, 4, [], fun _ => [EVT_MSGCNT_CNT]⟩

def EVT_PEND_PEND (w : Nat) : Fld := .mk (0x40100 + 0x4 * w) 0 32 .w1c 0 false
/-- EVT_PEND, as R399 of spec/16_events_host_access.md lays it out. -/
def EVT_PEND : Reg := ⟨0x40100, 4, [(0x4, 16)], fun ix => let w := ix.getD 0 0; [EVT_PEND_PEND w]⟩

def EVT_STAT_STAT (w : Nat) : Fld := .mk (0x40140 + 0x4 * w) 0 32 .ro 0 false
/-- EVT_STAT, as R399 of spec/16_events_host_access.md lays it out. -/
def EVT_STAT : Reg := ⟨0x40140, 4, [(0x4, 16)], fun ix => let w := ix.getD 0 0; [EVT_STAT_STAT w]⟩

def EVT_DBDATA_DATA (i : Nat) : Fld := .mk (0x40200 + 0x4 * i) 0 32 .ro 0 false
/-- EVT_DBDATA, as R399 of spec/16_events_host_access.md lays it out. -/
def EVT_DBDATA : Reg := ⟨0x40200, 4, [(0x4, 32)], fun ix => let i := ix.getD 0 0; [EVT_DBDATA_DATA i]⟩

def EVT_SRC_BCNTRIG (n : Nat) : Fld := .mk (0x41000 + 0x4 * n) 16 8 .rw 0 false
def EVT_SRC_PRIORITY (n : Nat) : Fld := .mk (0x41000 + 0x4 * n) 8 2 .rw 0 false
def EVT_SRC_RBCN (n : Nat) : Fld := .mk (0x41000 + 0x4 * n) 7 1 .rw 0 false
def EVT_SRC_RHOST (n : Nat) : Fld := .mk (0x41000 + 0x4 * n) 6 1 .rw 0 false
def EVT_SRC_RLAMP (n : Nat) : Fld := .mk (0x41000 + 0x4 * n) 5 1 .rw (lampReset n) false
def EVT_SRC_ENABLE (n : Nat) : Fld := .mk (0x41000 + 0x4 * n) 2 1 .rw (lampReset n) false
def EVT_SRC_PENDING (n : Nat) : Fld := .mk (0x41000 + 0x4 * n) 1 1 .w1c 0 false
def EVT_SRC_STATUS (n : Nat) : Fld := .mk (0x41000 + 0x4 * n) 0 1 .ro 0 false
/-- EVT_SRC, as R399 of spec/16_events_host_access.md lays it out. -/
def EVT_SRC : Reg := ⟨0x41000, 4, [(0x4, 512)], fun ix => let n := ix.getD 0 0; [EVT_SRC_BCNTRIG n, EVT_SRC_PRIORITY n, EVT_SRC_RBCN n, EVT_SRC_RHOST n, EVT_SRC_RLAMP n, EVT_SRC_ENABLE n, EVT_SRC_PENDING n, EVT_SRC_STATUS n]⟩

def LAP_CTL_BULKLEN : Fld := .mk 0x50000 16 14 .rw 0x400 false
def LAP_CTL_MODE1 : Fld := .mk 0x50000 10 2 .rw 0 false
def LAP_CTL_MODE0 : Fld := .mk 0x50000 8 2 .rw 0 false
def LAP_CTL_JUMBO : Fld := .mk 0x50000 4 1 .rw 0 false
def LAP_CTL_IPV6 : Fld := .mk 0x50000 3 1 .rw 1 false
def LAP_CTL_AUTO : Fld := .mk 0x50000 2 1 .rw 1 false
def LAP_CTL_EN1 : Fld := .mk 0x50000 1 1 .rw 1 false
def LAP_CTL_EN0 : Fld := .mk 0x50000 0 1 .rw 1 false
/-- LAP_CTL, as R400 of spec/16_events_host_access.md lays it out. -/
def LAP_CTL : Reg := ⟨0x50000, 4, [], fun _ => [LAP_CTL_BULKLEN, LAP_CTL_MODE1, LAP_CTL_MODE0, LAP_CTL_JUMBO, LAP_CTL_IPV6, LAP_CTL_AUTO, LAP_CTL_EN1, LAP_CTL_EN0]⟩

def LAP_PORT_UDP : Fld := .mk 0x50004 0 16 .rwl 0xaac8 false
/-- LAP_PORT, as R400 of spec/16_events_host_access.md lays it out. -/
def LAP_PORT : Reg := ⟨0x50004, 4, [], fun _ => [LAP_PORT_UDP]⟩

def LAP_STAT_SESSIONS : Fld := .mk 0x50008 5 3 .ro 0 false
def LAP_STAT_SPD1 : Fld := .mk 0x50008 3 1 .ro 0 false
def LAP_STAT_SPD0 : Fld := .mk 0x50008 2 1 .ro 0 false
def LAP_STAT_LINK1 : Fld := .mk 0x50008 1 1 .ro 0 false
def LAP_STAT_LINK0 : Fld := .mk 0x50008 0 1 .ro 0 false
/-- LAP_STAT, as R400 of spec/16_events_host_access.md lays it out. -/
def LAP_STAT : Reg := ⟨0x50008, 4, [], fun _ => [LAP_STAT_SESSIONS, LAP_STAT_SPD1, LAP_STAT_SPD0, LAP_STAT_LINK1, LAP_STAT_LINK0]⟩

def LAP_RTO_RETRY : Fld := .mk 0x5000c 16 8 .rw 0xa false
def LAP_RTO_US : Fld := .mk 0x5000c 0 16 .rw 0x1f4 false
/-- LAP_RTO, as R400 of spec/16_events_host_access.md lays it out. -/
def LAP_RTO : Reg := ⟨0x5000c, 4, [], fun _ => [LAP_RTO_RETRY, LAP_RTO_US]⟩

def LAP_DELIV_RECVALID : Fld := .mk 0x50010 6 1 .rw 0 false
def LAP_DELIV_RECSESS : Fld := .mk 0x50010 4 2 .rw 0 false
def LAP_DELIV_EVVALID : Fld := .mk 0x50010 2 1 .rw 0 false
def LAP_DELIV_EVSESS : Fld := .mk 0x50010 0 2 .rw 0 false
/-- LAP_DELIV, as R400 of spec/16_events_host_access.md lays it out. -/
def LAP_DELIV : Reg := ⟨0x50010, 4, [], fun _ => [LAP_DELIV_RECVALID, LAP_DELIV_RECSESS, LAP_DELIV_EVVALID, LAP_DELIV_EVSESS]⟩

def LAP_PTPCFG_DOMAIN : Fld := .mk 0x50014 8 8 .rw 0 false
def LAP_PTPCFG_L2 : Fld := .mk 0x50014 3 1 .rw 0 false
def LAP_PTPCFG_P2P : Fld := .mk 0x50014 2 1 .rw 0 false
def LAP_PTPCFG_PORTS : Fld := .mk 0x50014 0 2 .rw 3 false
/-- LAP_PTPCFG, as R400 of spec/16_events_host_access.md lays it out. -/
def LAP_PTPCFG : Reg := ⟨0x50014, 4, [], fun _ => [LAP_PTPCFG_DOMAIN, LAP_PTPCFG_L2, LAP_PTPCFG_P2P, LAP_PTPCFG_PORTS]⟩

def LAP_IP4_ADDR (p : Nat) : Fld := .mk (0x50020 + 0x20 * p) 0 32 .rw 0 false
/-- LAP_IP4, as R400 of spec/16_events_host_access.md lays it out. -/
def LAP_IP4 : Reg := ⟨0x50020, 4, [(0x20, 2)], fun ix => let p := ix.getD 0 0; [LAP_IP4_ADDR p]⟩

def LAP_IP4MASK_PREFIX (p : Nat) : Fld := .mk (0x50024 + 0x20 * p) 0 6 .rw 0x18 false
/-- LAP_IP4MASK, as R400 of spec/16_events_host_access.md lays it out. -/
def LAP_IP4MASK : Reg := ⟨0x50024, 4, [(0x20, 2)], fun ix => let p := ix.getD 0 0; [LAP_IP4MASK_PREFIX p]⟩

def LAP_IP4GW_ADDR (p : Nat) : Fld := .mk (0x50028 + 0x20 * p) 0 32 .rw 0 false
/-- LAP_IP4GW, as R400 of spec/16_events_host_access.md lays it out. -/
def LAP_IP4GW : Reg := ⟨0x50028, 4, [(0x20, 2)], fun ix => let p := ix.getD 0 0; [LAP_IP4GW_ADDR p]⟩

def LAP_MAC_MAC (p : Nat) : Fld := .mk (0x50030 + 0x20 * p) 0 48 .ro 0 false
/-- LAP_MAC, as R400 of spec/16_events_host_access.md lays it out. -/
def LAP_MAC : Reg := ⟨0x50030, 8, [(0x20, 2)], fun ix => let p := ix.getD 0 0; [LAP_MAC_MAC p]⟩

def LAP_CNT_AUTHFAIL : Fld := .mk 0x50080 16 16 .rc 0 false
def LAP_CNT_RETX : Fld := .mk 0x50080 0 16 .rc 0 false
/-- LAP_CNT, as R400 of spec/16_events_host_access.md lays it out. -/
def LAP_CNT : Reg := ⟨0x50080, 4, [], fun _ => [LAP_CNT_AUTHFAIL, LAP_CNT_RETX]⟩

def LAP_SESS_ID (i : Nat) : Fld := .mk (0x50100 + 0x10 * i) 16 16 .ro 0 false
def LAP_SESS_END (i : Nat) : Fld := .mk (0x50100 + 0x10 * i) 3 1 .wo 0 false
def LAP_SESS_PORT (i : Nat) : Fld := .mk (0x50100 + 0x10 * i) 1 2 .ro 0 false
def LAP_SESS_OPEN (i : Nat) : Fld := .mk (0x50100 + 0x10 * i) 0 1 .ro 0 false
/-- LAP_SESS, as R400 of spec/16_events_host_access.md lays it out. -/
def LAP_SESS : Reg := ⟨0x50100, 4, [(0x10, 4)], fun ix => let i := ix.getD 0 0; [LAP_SESS_ID i, LAP_SESS_END i, LAP_SESS_PORT i, LAP_SESS_OPEN i]⟩

def FEF_EVCTL_LAST (l : Nat) : Fld := .mk (0x30600 + 0x20 * l) 24 8 .rw 0 false
def FEF_EVCTL_FIRST (l : Nat) : Fld := .mk (0x30600 + 0x20 * l) 16 8 .rw 0 false
def FEF_EVCTL_RX (l : Nat) : Fld := .mk (0x30600 + 0x20 * l) 1 1 .rw 0 false
def FEF_EVCTL_TX (l : Nat) : Fld := .mk (0x30600 + 0x20 * l) 0 1 .rw 0 false
/-- FEF_EVCTL, as R401 of spec/16_events_host_access.md lays it out. -/
def FEF_EVCTL : Reg := ⟨0x30600, 4, [(0x20, 4)], fun ix => let l := ix.getD 0 0; [FEF_EVCTL_LAST l, FEF_EVCTL_FIRST l, FEF_EVCTL_RX l, FEF_EVCTL_TX l]⟩

def FEF_EVCNT_LATE (l : Nat) : Fld := .mk (0x30604 + 0x20 * l) 16 16 .rc 0 false
def FEF_EVCNT_RELAYED (l : Nat) : Fld := .mk (0x30604 + 0x20 * l) 0 16 .rc 0 false
/-- FEF_EVCNT, as R401 of spec/16_events_host_access.md lays it out. -/
def FEF_EVCNT : Reg := ⟨0x30604, 4, [(0x20, 4)], fun ix => let l := ix.getD 0 0; [FEF_EVCNT_LATE l, FEF_EVCNT_RELAYED l]⟩

def FEF_MSGCNT_DROP (l : Nat) : Fld := .mk (0x30608 + 0x20 * l) 16 16 .rc 0 false
def FEF_MSGCNT_CRCERR (l : Nat) : Fld := .mk (0x30608 + 0x20 * l) 0 16 .rc 0 false
/-- FEF_MSGCNT, as R401 of spec/16_events_host_access.md lays it out. -/
def FEF_MSGCNT : Reg := ⟨0x30608, 4, [(0x20, 4)], fun ix => let l := ix.getD 0 0; [FEF_MSGCNT_DROP l, FEF_MSGCNT_CRCERR l]⟩

def SEC_BOOT_STATE : Fld := .mk 0x60000 28 4 .ro 1 false
def SEC_BOOT_FALLBACK : Fld := .mk 0x60000 18 1 .ro 0 false
def SEC_BOOT_TRIAL : Fld := .mk 0x60000 17 1 .ro 0 false
def SEC_BOOT_SLOT : Fld := .mk 0x60000 16 1 .ro 0 false
def SEC_BOOT_FWSVN : Fld := .mk 0x60000 8 7 .ro 0 false
def SEC_BOOT_FUSESVN : Fld := .mk 0x60000 0 7 .ro 0 false
/-- SEC_BOOT, as R422 of spec/17_boot_identity_records.md lays it out. -/
def SEC_BOOT : Reg := ⟨0x60000, 4, [], fun _ => [SEC_BOOT_STATE, SEC_BOOT_FALLBACK, SEC_BOOT_TRIAL, SEC_BOOT_SLOT, SEC_BOOT_FWSVN, SEC_BOOT_FUSESVN]⟩

def SEC_CMD_OP : Fld := .mk 0x60004 0 8 .wo 0 false
/-- SEC_CMD, as R422 of spec/17_boot_identity_records.md lays it out. -/
def SEC_CMD : Reg := ⟨0x60004, 4, [], fun _ => [SEC_CMD_OP]⟩

def SEC_STAT_RESULT : Fld := .mk 0x60008 24 8 .ro 0 false
def SEC_STAT_PATCHREJ : Fld := .mk 0x60008 16 8 .ro 0 false
def SEC_STAT_PROV : Fld := .mk 0x60008 5 1 .ro 0 false
def SEC_STAT_CALERR : Fld := .mk 0x60008 4 1 .ro 0 false
def SEC_STAT_IDERR : Fld := .mk 0x60008 3 1 .ro 0 false
def SEC_STAT_ATTDONE : Fld := .mk 0x60008 2 1 .w1c 0 false
def SEC_STAT_DONE : Fld := .mk 0x60008 1 1 .w1c 0 false
def SEC_STAT_BUSY : Fld := .mk 0x60008 0 1 .ro 0 false
/-- SEC_STAT, as R422 of spec/17_boot_identity_records.md lays it out. -/
def SEC_STAT : Reg := ⟨0x60008, 4, [], fun _ => [SEC_STAT_RESULT, SEC_STAT_PATCHREJ, SEC_STAT_PROV, SEC_STAT_CALERR, SEC_STAT_IDERR, SEC_STAT_ATTDONE, SEC_STAT_DONE, SEC_STAT_BUSY]⟩

def SEC_STAGE_ADDR : Fld := .mk 0x60010 0 64 .rw 0 false
/-- SEC_STAGE, as R422 of spec/17_boot_identity_records.md lays it out. -/
def SEC_STAGE : Reg := ⟨0x60010, 8, [], fun _ => [SEC_STAGE_ADDR]⟩

def SEC_STAGELEN_LEN : Fld := .mk 0x60018 0 32 .rw 0 false
/-- SEC_STAGELEN, as R422 of spec/17_boot_identity_records.md lays it out. -/
def SEC_STAGELEN : Reg := ⟨0x60018, 4, [], fun _ => [SEC_STAGELEN_LEN]⟩

def SEC_ATTNONCE_NONCE (w : Nat) : Fld := .mk (0x60020 + 0x4 * w) 0 32 .rw 0 false
/-- SEC_ATTNONCE, as R422 of spec/17_boot_identity_records.md lays it out. -/
def SEC_ATTNONCE : Reg := ⟨0x60020, 4, [(0x4, 8)], fun ix => let w := ix.getD 0 0; [SEC_ATTNONCE_NONCE w]⟩

def SEC_ATTADDR_ADDR : Fld := .mk 0x60040 0 64 .rw 0 false
/-- SEC_ATTADDR, as R422 of spec/17_boot_identity_records.md lays it out. -/
def SEC_ATTADDR : Reg := ⟨0x60040, 8, [], fun _ => [SEC_ATTADDR_ADDR]⟩

def SEC_ATTLEN_LEN : Fld := .mk 0x60048 0 32 .ro 0 false
/-- SEC_ATTLEN, as R422 of spec/17_boot_identity_records.md lays it out. -/
def SEC_ATTLEN : Reg := ⟨0x60048, 4, [], fun _ => [SEC_ATTLEN_LEN]⟩

def SEC_IDFP_FP (w : Nat) : Fld := .mk (0x60060 + 0x4 * w) 0 32 .ro 0 false
/-- SEC_IDFP, as R422 of spec/17_boot_identity_records.md lays it out. -/
def SEC_IDFP : Reg := ⟨0x60060, 4, [(0x4, 8)], fun ix => let w := ix.getD 0 0; [SEC_IDFP_FP w]⟩

def SEC_CALID_ID (w : Nat) : Fld := .mk (0x60080 + 0x4 * w) 0 32 .rw 0 false
/-- SEC_CALID, as R422 of spec/17_boot_identity_records.md lays it out. -/
def SEC_CALID : Reg := ⟨0x60080, 4, [(0x4, 16)], fun ix => let w := ix.getD 0 0; [SEC_CALID_ID w]⟩

def SEC_RECCFG_QUEUED : Fld := .mk 0x600c0 16 9 .ro 0 false
def SEC_RECCFG_LEAFREC : Fld := .mk 0x600c0 0 1 .rw 0 false
/-- SEC_RECCFG, as R422 of spec/17_boot_identity_records.md lays it out. -/
def SEC_RECCFG : Reg := ⟨0x600c0, 4, [], fun _ => [SEC_RECCFG_QUEUED, SEC_RECCFG_LEAFREC]⟩

def SEC_HOSTFP_FP (k : Nat) (w : Nat) : Fld := .mk (0x60100 + 0x20 * k + 0x4 * w) 0 32 .rwl 0 false
/-- SEC_HOSTFP, as R422 of spec/17_boot_identity_records.md lays it out. -/
def SEC_HOSTFP : Reg := ⟨0x60100, 4, [(0x20, 4), (0x4, 8)], fun ix => let k := ix.getD 0 0; let w := ix.getD 1 0; [SEC_HOSTFP_FP k w]⟩

def SEC_SWCMD_OP : Fld := .mk 0x60200 0 3 .wo 0 false
/-- SEC_SWCMD, as R422 of spec/17_boot_identity_records.md lays it out. -/
def SEC_SWCMD : Reg := ⟨0x60200, 4, [], fun _ => [SEC_SWCMD_OP]⟩

def SEC_SWSTAT_CODE : Fld := .mk 0x60204 4 4 .ro 0 false
def SEC_SWSTAT_READY : Fld := .mk 0x60204 1 1 .ro 0 false
def SEC_SWSTAT_BUSY : Fld := .mk 0x60204 0 1 .ro 0 false
/-- SEC_SWSTAT, as R422 of spec/17_boot_identity_records.md lays it out. -/
def SEC_SWSTAT : Reg := ⟨0x60204, 4, [], fun _ => [SEC_SWSTAT_CODE, SEC_SWSTAT_READY, SEC_SWSTAT_BUSY]⟩

def SEC_SWOFS_PAGE : Fld := .mk 0x60208 12 5 .rw 0 false
/-- SEC_SWOFS, as R422 of spec/17_boot_identity_records.md lays it out. -/
def SEC_SWOFS : Reg := ⟨0x60208, 4, [], fun _ => [SEC_SWOFS_PAGE]⟩

def SEC_SWLEN_LEN : Fld := .mk 0x6020c 0 32 .ro 0 false
/-- SEC_SWLEN, as R422 of spec/17_boot_identity_records.md lays it out. -/
def SEC_SWLEN : Reg := ⟨0x6020c, 4, [], fun _ => [SEC_SWLEN_LEN]⟩

def SEC_SWSESS_SESSION : Fld := .mk 0x60210 0 32 .ro 0 false
/-- SEC_SWSESS, as R422 of spec/17_boot_identity_records.md lays it out. -/
def SEC_SWSESS : Reg := ⟨0x60210, 4, [], fun _ => [SEC_SWSESS_SESSION]⟩

def SEC_SWAPER_DATA (w : Nat) : Fld := .mk (0x6f000 + 0x4 * w) 0 32 .rw 0 false
/-- SEC_SWAPER, as R422 of spec/17_boot_identity_records.md lays it out. -/
def SEC_SWAPER : Reg := ⟨0x6f000, 4, [(0x4, 1024)], fun ix => let w := ix.getD 0 0; [SEC_SWAPER_DATA w]⟩

def DEV_CTL_AUTOREJOIN : Fld := .mk 0x4 2 1 .rwl 1 false
def DEV_CTL_LANE_EN : Fld := .mk 0x4 1 1 .rw 0 false
def DEV_CTL_LOCK : Fld := .mk 0x4 0 1 .w1s 0 false
/-- DEV_CTL, as R448 of spec/18_power_pilot_wear.md lays it out. -/
def DEV_CTL : Reg := ⟨0x4, 4, [], fun _ => [DEV_CTL_AUTOREJOIN, DEV_CTL_LANE_EN, DEV_CTL_LOCK]⟩

def DEV_PSTATE_REFCODE : Fld := .mk 0x8 8 4 .ro 0 false
def DEV_PSTATE_REFUSED : Fld := .mk 0x8 7 1 .w1c 0 false
def DEV_PSTATE_STATE : Fld := .mk 0x8 0 3 .ro 0 false
/-- DEV_PSTATE, as R448 of spec/18_power_pilot_wear.md lays it out. -/
def DEV_PSTATE : Reg := ⟨0x8, 4, [], fun _ => [DEV_PSTATE_REFCODE, DEV_PSTATE_REFUSED, DEV_PSTATE_STATE]⟩

def DEV_PCMD_KEY : Fld := .mk 0xc 24 8 .wo 0 false
def DEV_PCMD_ARG : Fld := .mk 0xc 8 8 .wo 0 false
def DEV_PCMD_OP : Fld := .mk 0xc 0 4 .wo 0 false
/-- DEV_PCMD, as R448 of spec/18_power_pilot_wear.md lays it out. -/
def DEV_PCMD : Reg := ⟨0xc, 4, [], fun _ => [DEV_PCMD_KEY, DEV_PCMD_ARG, DEV_PCMD_OP]⟩

def DEV_RSTCAUSE_ESCK : Fld := .mk 0x20 20 4 .ro 0 false
def DEV_RSTCAUSE_CAUSE : Fld := .mk 0x20 0 5 .w1c 1 false
/-- DEV_RSTCAUSE, as R448 of spec/18_power_pilot_wear.md lays it out. -/
def DEV_RSTCAUSE : Reg := ⟨0x20, 4, [], fun _ => [DEV_RSTCAUSE_ESCK, DEV_RSTCAUSE_CAUSE]⟩

def DEV_RSTCFG_MCKWIN : Fld := .mk 0x28 8 8 .rw 1 false
def DEV_RSTCFG_MCKLIM : Fld := .mk 0x28 0 8 .rw 3 false
/-- DEV_RSTCFG, as R448 of spec/18_power_pilot_wear.md lays it out. -/
def DEV_RSTCFG : Reg := ⟨0x28, 4, [], fun _ => [DEV_RSTCFG_MCKWIN, DEV_RSTCFG_MCKLIM]⟩

def DEV_CLSVC_STATE : Fld := .mk 0x30 0 32 .ro 0xaaaaaaaa false
/-- DEV_CLSVC, as R448 of spec/18_power_pilot_wear.md lays it out. -/
def DEV_CLSVC : Reg := ⟨0x30, 4, [], fun _ => [DEV_CLSVC_STATE]⟩

def PIL_TIME_TICKS : Fld := .mk 0x80000 0 64 .ro 0 false
/-- PIL_TIME, as R449 of spec/18_power_pilot_wear.md lays it out. -/
def PIL_TIME : Reg := ⟨0x80000, 8, [], fun _ => [PIL_TIME_TICKS]⟩

def PIL_DOZEDT_DT : Fld := .mk 0x80008 0 64 .ro 0 false
/-- PIL_DOZEDT, as R449 of spec/18_power_pilot_wear.md lays it out. -/
def PIL_DOZEDT : Reg := ⟨0x80008, 8, [], fun _ => [PIL_DOZEDT_DT]⟩

def PIL_OFFTIME_TICKS : Fld := .mk 0x80010 0 64 .ro 0 false
/-- PIL_OFFTIME, as R449 of spec/18_power_pilot_wear.md lays it out. -/
def PIL_OFFTIME : Reg := ⟨0x80010, 8, [], fun _ => [PIL_OFFTIME_TICKS]⟩

def PIL_CMP_LATCH (j : Nat) : Fld := .mk (0x80020 + 0x4 * j) 24 1 .w1c 0 false
def PIL_CMP_TRIPPED (j : Nat) : Fld := .mk (0x80020 + 0x4 * j) 23 1 .ro 0 false
def PIL_CMP_EN (j : Nat) : Fld := .mk (0x80020 + 0x4 * j) 19 1 .rw (cmpEnReset j) false
def PIL_CMP_SAFE (j : Nat) : Fld := .mk (0x80020 + 0x4 * j) 18 1 .rw (cmpSafeReset j) false
def PIL_CMP_WAKE (j : Nat) : Fld := .mk (0x80020 + 0x4 * j) 17 1 .rw 0 false
def PIL_CMP_POL (j : Nat) : Fld := .mk (0x80020 + 0x4 * j) 16 1 .rw (cmpPolReset j) false
def PIL_CMP_FILT (j : Nat) : Fld := .mk (0x80020 + 0x4 * j) 12 4 .rw 2 false
def PIL_CMP_HYST (j : Nat) : Fld := .mk (0x80020 + 0x4 * j) 8 4 .rw 2 false
def PIL_CMP_THR (j : Nat) : Fld := .mk (0x80020 + 0x4 * j) 0 8 .rw (cmpThrReset j) false
/-- PIL_CMP, as R449 of spec/18_power_pilot_wear.md lays it out. -/
def PIL_CMP : Reg := ⟨0x80020, 4, [(0x4, 8)], fun ix => let j := ix.getD 0 0; [PIL_CMP_LATCH j, PIL_CMP_TRIPPED j, PIL_CMP_EN j, PIL_CMP_SAFE j, PIL_CMP_WAKE j, PIL_CMP_POL j, PIL_CMP_FILT j, PIL_CMP_HYST j, PIL_CMP_THR j]⟩

def PIL_SAFECTL_FORCE : Fld := .mk 0x80040 8 6 .ro 1 false
def PIL_SAFECTL_DOZEOFF : Fld := .mk 0x80040 2 1 .rwl 1 false
def PIL_SAFECTL_CONDUCT : Fld := .mk 0x80040 1 1 .ro 0 false
def PIL_SAFECTL_PERMIT : Fld := .mk 0x80040 0 1 .w1s 0 false
/-- PIL_SAFECTL, as R449 of spec/18_power_pilot_wear.md lays it out. -/
def PIL_SAFECTL : Reg := ⟨0x80040, 4, [], fun _ => [PIL_SAFECTL_FORCE, PIL_SAFECTL_DOZEOFF, PIL_SAFECTL_CONDUCT, PIL_SAFECTL_PERMIT]⟩

def PIL_WAKECFG_ETHPORT : Fld := .mk 0x80044 4 1 .rw 0 false
def PIL_WAKECFG_ETH : Fld := .mk 0x80044 2 1 .rw 1 false
def PIL_WAKECFG_CMP : Fld := .mk 0x80044 1 1 .rw 0 false
def PIL_WAKECFG_TIMER : Fld := .mk 0x80044 0 1 .rw 0 false
/-- PIL_WAKECFG, as R449 of spec/18_power_pilot_wear.md lays it out. -/
def PIL_WAKECFG : Reg := ⟨0x80044, 4, [], fun _ => [PIL_WAKECFG_ETHPORT, PIL_WAKECFG_ETH, PIL_WAKECFG_CMP, PIL_WAKECFG_TIMER]⟩

def PIL_WAKEAT_TICKS : Fld := .mk 0x80048 0 64 .rw 0 false
/-- PIL_WAKEAT, as R449 of spec/18_power_pilot_wear.md lays it out. -/
def PIL_WAKEAT : Reg := ⟨0x80048, 8, [], fun _ => [PIL_WAKEAT_TICKS]⟩

def PIL_WAKESRC_SRC : Fld := .mk 0x80050 0 3 .ro 0 false
/-- PIL_WAKESRC, as R449 of spec/18_power_pilot_wear.md lays it out. -/
def PIL_WAKESRC : Reg := ⟨0x80050, 4, [], fun _ => [PIL_WAKESRC_SRC]⟩

def HLT_CTL_HORIZON : Fld := .mk 0x70000 16 16 .rw 0x5a false
def HLT_CTL_WINDAYS : Fld := .mk 0x70000 7 9 .rw 0x1e false
def HLT_CTL_EN : Fld := .mk 0x70000 0 1 .rw 1 false
/-- HLT_CTL, as R450 of spec/18_power_pilot_wear.md lays it out. -/
def HLT_CTL : Reg := ⟨0x70000, 4, [], fun _ => [HLT_CTL_HORIZON, HLT_CTL_WINDAYS, HLT_CTL_EN]⟩

def HLT_STAT_RESTORED : Fld := .mk 0x70004 4 1 .ro 0 false
def HLT_STAT_SOON : Fld := .mk 0x70004 3 1 .w1c 0 false
def HLT_STAT_END : Fld := .mk 0x70004 2 1 .w1c 0 false
def HLT_STAT_WARN : Fld := .mk 0x70004 1 1 .w1c 0 false
def HLT_STAT_OVENOK : Fld := .mk 0x70004 0 1 .ro 0 false
/-- HLT_STAT, as R450 of spec/18_power_pilot_wear.md lays it out. -/
def HLT_STAT : Reg := ⟨0x70004, 4, [], fun _ => [HLT_STAT_RESTORED, HLT_STAT_SOON, HLT_STAT_END, HLT_STAT_WARN, HLT_STAT_OVENOK]⟩

def HLT_RECBASE_OFS : Fld := .mk 0x70008 0 32 .ro 0x40000 false
/-- HLT_RECBASE, as R450 of spec/18_power_pilot_wear.md lays it out. -/
def HLT_RECBASE : Reg := ⟨0x70008, 4, [], fun _ => [HLT_RECBASE_OFS]⟩

def HLT_CURVEBASE_OFS : Fld := .mk 0x7000c 0 32 .ro 0x68000 false
/-- HLT_CURVEBASE, as R450 of spec/18_power_pilot_wear.md lays it out. -/
def HLT_CURVEBASE : Reg := ⟨0x7000c, 4, [], fun _ => [HLT_CURVEBASE_OFS]⟩

def HLT_WARN_LIFE : Fld := .mk 0x70010 0 16 .rw 0xe666 false
/-- HLT_WARN, as R450 of spec/18_power_pilot_wear.md lays it out. -/
def HLT_WARN : Reg := ⟨0x70010, 4, [], fun _ => [HLT_WARN_LIFE]⟩

def HLT_WORST_INDEX : Fld := .mk 0x70014 16 16 .ro 0 false
def HLT_WORST_LIFE : Fld := .mk 0x70014 0 16 .ro 0 false
/-- HLT_WORST, as R450 of spec/18_power_pilot_wear.md lays it out. -/
def HLT_WORST : Reg := ⟨0x70014, 4, [], fun _ => [HLT_WORST_INDEX, HLT_WORST_LIFE]⟩

def HLT_SOONEST_INDEX : Fld := .mk 0x70018 16 16 .ro 0 false
def HLT_SOONEST_DAYS : Fld := .mk 0x70018 0 16 .ro 0xffff false
/-- HLT_SOONEST, as R450 of spec/18_power_pilot_wear.md lays it out. -/
def HLT_SOONEST : Reg := ⟨0x70018, 4, [], fun _ => [HLT_SOONEST_INDEX, HLT_SOONEST_DAYS]⟩

def HLT_EOLDT_DT : Fld := .mk 0x70020 0 64 .ro 0 false
/-- HLT_EOLDT, as R450 of spec/18_power_pilot_wear.md lays it out. -/
def HLT_EOLDT : Reg := ⟨0x70020, 8, [], fun _ => [HLT_EOLDT_DT]⟩

def HLT_CCCMD_COUNT : Fld := .mk 0x70028 16 16 .wo 0 false
def HLT_CCCMD_RESET : Fld := .mk 0x70028 15 1 .wo 0 false
def HLT_CCCMD_CHANNEL : Fld := .mk 0x70028 0 10 .wo 0 false
/-- HLT_CCCMD, as R450 of spec/18_power_pilot_wear.md lays it out. -/
def HLT_CCCMD : Reg := ⟨0x70028, 4, [], fun _ => [HLT_CCCMD_COUNT, HLT_CCCMD_RESET, HLT_CCCMD_CHANNEL]⟩

def HLT_OVEN_DUTY : Fld := .mk 0x7002c 0 16 .ro 0 false
/-- HLT_OVEN, as R450 of spec/18_power_pilot_wear.md lays it out. -/
def HLT_OVEN : Reg := ⟨0x7002c, 4, [], fun _ => [HLT_OVEN_DUTY]⟩

def DSP_CTL_HOLD (o : Nat) : Fld := .mk (0x90000 + 0x1000 * o) 2 1 .rw 0 false
def DSP_CTL_PWR (o : Nat) : Fld := .mk (0x90000 + 0x1000 * o) 1 1 .rw 0 false
def DSP_CTL_EN (o : Nat) : Fld := .mk (0x90000 + 0x1000 * o) 0 1 .rw 0 false
/-- DSP_CTL, as R463 of spec/19_display_outputs.md lays it out. -/
def DSP_CTL : Reg := ⟨0x90000, 4, [(0x1000, 2)], fun ix => let o := ix.getD 0 0; [DSP_CTL_HOLD o, DSP_CTL_PWR o, DSP_CTL_EN o]⟩

def DSP_STAT_TRAINFAIL (o : Nat) : Fld := .mk (0x90004 + 0x1000 * o) 7 1 .w1c 0 false
def DSP_STAT_MODEERR (o : Nat) : Fld := .mk (0x90004 + 0x1000 * o) 6 1 .w1c 0 false
def DSP_STAT_MODE_DONE (o : Nat) : Fld := .mk (0x90004 + 0x1000 * o) 5 1 .w1c 0 false
def DSP_STAT_RETRAIN (o : Nat) : Fld := .mk (0x90004 + 0x1000 * o) 4 1 .ro 0 false
def DSP_STAT_PEND (o : Nat) : Fld := .mk (0x90004 + 0x1000 * o) 3 1 .ro 0 false
def DSP_STAT_ACTIVE (o : Nat) : Fld := .mk (0x90004 + 0x1000 * o) 2 1 .ro 0 false
def DSP_STAT_LINK (o : Nat) : Fld := .mk (0x90004 + 0x1000 * o) 1 1 .ro 0 false
def DSP_STAT_HPD (o : Nat) : Fld := .mk (0x90004 + 0x1000 * o) 0 1 .ro 0 false
/-- DSP_STAT, as R463 of spec/19_display_outputs.md lays it out. -/
def DSP_STAT : Reg := ⟨0x90004, 4, [(0x1000, 2)], fun ix => let o := ix.getD 0 0; [DSP_STAT_TRAINFAIL o, DSP_STAT_MODEERR o, DSP_STAT_MODE_DONE o, DSP_STAT_RETRAIN o, DSP_STAT_PEND o, DSP_STAT_ACTIVE o, DSP_STAT_LINK o, DSP_STAT_HPD o]⟩

def DSP_HTIM0_HFP (o : Nat) : Fld := .mk (0x90008 + 0x1000 * o) 16 16 .rw 0x30 false
def DSP_HTIM0_HACT (o : Nat) : Fld := .mk (0x90008 + 0x1000 * o) 0 16 .rw 0xa00 false
/-- DSP_HTIM0, as R463 of spec/19_display_outputs.md lays it out. -/
def DSP_HTIM0 : Reg := ⟨0x90008, 4, [(0x1000, 2)], fun ix => let o := ix.getD 0 0; [DSP_HTIM0_HFP o, DSP_HTIM0_HACT o]⟩

def DSP_HTIM1_HBP (o : Nat) : Fld := .mk (0x9000c + 0x1000 * o) 16 16 .rw 0x50 false
def DSP_HTIM1_HSYNC (o : Nat) : Fld := .mk (0x9000c + 0x1000 * o) 0 16 .rw 0x20 false
/-- DSP_HTIM1, as R463 of spec/19_display_outputs.md lays it out. -/
def DSP_HTIM1 : Reg := ⟨0x9000c, 4, [(0x1000, 2)], fun ix => let o := ix.getD 0 0; [DSP_HTIM1_HBP o, DSP_HTIM1_HSYNC o]⟩

def DSP_VTIM0_VFP (o : Nat) : Fld := .mk (0x90010 + 0x1000 * o) 16 16 .rw 3 false
def DSP_VTIM0_VACT (o : Nat) : Fld := .mk (0x90010 + 0x1000 * o) 0 16 .rw 0x640 false
/-- DSP_VTIM0, as R463 of spec/19_display_outputs.md lays it out. -/
def DSP_VTIM0 : Reg := ⟨0x90010, 4, [(0x1000, 2)], fun ix => let o := ix.getD 0 0; [DSP_VTIM0_VFP o, DSP_VTIM0_VACT o]⟩

def DSP_VTIM1_VBP (o : Nat) : Fld := .mk (0x90014 + 0x1000 * o) 16 16 .rw 0x25 false
def DSP_VTIM1_VSYNC (o : Nat) : Fld := .mk (0x90014 + 0x1000 * o) 0 16 .rw 6 false
/-- DSP_VTIM1, as R463 of spec/19_display_outputs.md lays it out. -/
def DSP_VTIM1 : Reg := ⟨0x90014, 4, [(0x1000, 2)], fun ix => let o := ix.getD 0 0; [DSP_VTIM1_VBP o, DSP_VTIM1_VSYNC o]⟩

def DSP_PCLK_KHZ (o : Nat) : Fld := .mk (0x90018 + 0x1000 * o) 0 19 .rw 0x418d4 false
/-- DSP_PCLK, as R463 of spec/19_display_outputs.md lays it out. -/
def DSP_PCLK : Reg := ⟨0x90018, 4, [(0x1000, 2)], fun ix => let o := ix.getD 0 0; [DSP_PCLK_KHZ o]⟩

def DSP_LINK_VPOL (o : Nat) : Fld := .mk (0x9001c + 0x1000 * o) 5 1 .rw 0 false
def DSP_LINK_HPOL (o : Nat) : Fld := .mk (0x9001c + 0x1000 * o) 4 1 .rw 0 false
def DSP_LINK_RATE (o : Nat) : Fld := .mk (0x9001c + 0x1000 * o) 2 2 .rw 2 false
def DSP_LINK_LANES (o : Nat) : Fld := .mk (0x9001c + 0x1000 * o) 0 2 .rw 2 false
/-- DSP_LINK, as R463 of spec/19_display_outputs.md lays it out. -/
def DSP_LINK : Reg := ⟨0x9001c, 4, [(0x1000, 2)], fun ix => let o := ix.getD 0 0; [DSP_LINK_VPOL o, DSP_LINK_HPOL o, DSP_LINK_RATE o, DSP_LINK_LANES o]⟩

def DSP_TCMD_APPLY (o : Nat) : Fld := .mk (0x90020 + 0x1000 * o) 0 1 .wo 0 false
/-- DSP_TCMD, as R463 of spec/19_display_outputs.md lays it out. -/
def DSP_TCMD : Reg := ⟨0x90020, 4, [(0x1000, 2)], fun ix => let o := ix.getD 0 0; [DSP_TCMD_APPLY o]⟩

def DSP_BGCOL_RGB (o : Nat) : Fld := .mk (0x90024 + 0x1000 * o) 0 24 .rw 0 false
/-- DSP_BGCOL, as R463 of spec/19_display_outputs.md lays it out. -/
def DSP_BGCOL : Reg := ⟨0x90024, 4, [(0x1000, 2)], fun ix => let o := ix.getD 0 0; [DSP_BGCOL_RGB o]⟩

def DSP_FRAME_CNT (o : Nat) : Fld := .mk (0x90028 + 0x1000 * o) 0 32 .ro 0 false
/-- DSP_FRAME, as R463 of spec/19_display_outputs.md lays it out. -/
def DSP_FRAME : Reg := ⟨0x90028, 4, [(0x1000, 2)], fun ix => let o := ix.getD 0 0; [DSP_FRAME_CNT o]⟩

def DSP_LAYER_RETIRED_L (o : Nat) : Fld := .mk (0x9002c + 0x1000 * o) 0 3 .w1c 0 false
/-- DSP_LAYER_RETIRED, as R463 of spec/19_display_outputs.md lays it out. -/
def DSP_LAYER_RETIRED : Reg := ⟨0x9002c, 4, [(0x1000, 2)], fun ix => let o := ix.getD 0 0; [DSP_LAYER_RETIRED_L o]⟩

def DSP_LCTL_WM (o : Nat) (L : Nat) : Fld := .mk (0x90100 + 0x1000 * o + 0x40 * L) 16 3 .rw 4 false
def DSP_LCTL_GALPHA (o : Nat) (L : Nat) : Fld := .mk (0x90100 + 0x1000 * o + 0x40 * L) 8 8 .rw 0xff false
def DSP_LCTL_OPAQUE (o : Nat) (L : Nat) : Fld := .mk (0x90100 + 0x1000 * o + 0x40 * L) 3 1 .rw 0 false
def DSP_LCTL_FMT (o : Nat) (L : Nat) : Fld := .mk (0x90100 + 0x1000 * o + 0x40 * L) 1 2 .rw 0 false
def DSP_LCTL_EN (o : Nat) (L : Nat) : Fld := .mk (0x90100 + 0x1000 * o + 0x40 * L) 0 1 .rw 0 false
/-- DSP_LCTL, as R464 of spec/19_display_outputs.md lays it out. -/
def DSP_LCTL : Reg := ⟨0x90100, 4, [(0x1000, 2), (0x40, 3)], fun ix => let o := ix.getD 0 0; let L := ix.getD 1 0; [DSP_LCTL_WM o L, DSP_LCTL_GALPHA o L, DSP_LCTL_OPAQUE o L, DSP_LCTL_FMT o L, DSP_LCTL_EN o L]⟩

def DSP_LPOS_Y (o : Nat) (L : Nat) : Fld := .mk (0x90104 + 0x1000 * o + 0x40 * L) 16 16 .rw 0 false
def DSP_LPOS_X (o : Nat) (L : Nat) : Fld := .mk (0x90104 + 0x1000 * o + 0x40 * L) 0 16 .rw 0 false
/-- DSP_LPOS, as R464 of spec/19_display_outputs.md lays it out. -/
def DSP_LPOS : Reg := ⟨0x90104, 4, [(0x1000, 2), (0x40, 3)], fun ix => let o := ix.getD 0 0; let L := ix.getD 1 0; [DSP_LPOS_Y o L, DSP_LPOS_X o L]⟩

def DSP_LSIZE_H (o : Nat) (L : Nat) : Fld := .mk (0x90108 + 0x1000 * o + 0x40 * L) 16 16 .rw 0 false
def DSP_LSIZE_W (o : Nat) (L : Nat) : Fld := .mk (0x90108 + 0x1000 * o + 0x40 * L) 0 16 .rw 0 false
/-- DSP_LSIZE, as R464 of spec/19_display_outputs.md lays it out. -/
def DSP_LSIZE : Reg := ⟨0x90108, 4, [(0x1000, 2), (0x40, 3)], fun ix => let o := ix.getD 0 0; let L := ix.getD 1 0; [DSP_LSIZE_H o L, DSP_LSIZE_W o L]⟩

def DSP_LSTRIDE_BYTES (o : Nat) (L : Nat) : Fld := .mk (0x9010c + 0x1000 * o + 0x40 * L) 0 20 .rw 0 false
/-- DSP_LSTRIDE, as R464 of spec/19_display_outputs.md lays it out. -/
def DSP_LSTRIDE : Reg := ⟨0x9010c, 4, [(0x1000, 2), (0x40, 3)], fun ix => let o := ix.getD 0 0; let L := ix.getD 1 0; [DSP_LSTRIDE_BYTES o L]⟩

def DSP_LADDR_ADDR (o : Nat) (L : Nat) : Fld := .mk (0x90110 + 0x1000 * o + 0x40 * L) 0 40 .rw 0 false
/-- DSP_LADDR, as R464 of spec/19_display_outputs.md lays it out. -/
def DSP_LADDR : Reg := ⟨0x90110, 8, [(0x1000, 2), (0x40, 3)], fun ix => let o := ix.getD 0 0; let L := ix.getD 1 0; [DSP_LADDR_ADDR o L]⟩

def DSP_LRETADDR_ADDR (o : Nat) (L : Nat) : Fld := .mk (0x90118 + 0x1000 * o + 0x40 * L) 0 40 .ro 0 false
/-- DSP_LRETADDR, as R464 of spec/19_display_outputs.md lays it out. -/
def DSP_LRETADDR : Reg := ⟨0x90118, 8, [(0x1000, 2), (0x40, 3)], fun ix => let o := ix.getD 0 0; let L := ix.getD 1 0; [DSP_LRETADDR_ADDR o L]⟩

def DSP_LUNDER_LINES (o : Nat) (L : Nat) : Fld := .mk (0x90120 + 0x1000 * o + 0x40 * L) 0 32 .rc 0 false
/-- DSP_LUNDER, as R464 of spec/19_display_outputs.md lays it out. -/
def DSP_LUNDER : Reg := ⟨0x90120, 4, [(0x1000, 2), (0x40, 3)], fun ix => let o := ix.getD 0 0; let L := ix.getD 1 0; [DSP_LUNDER_LINES o L]⟩

def DSP_TEAR_CNT_CNT (o : Nat) (L : Nat) : Fld := .mk (0x90124 + 0x1000 * o + 0x40 * L) 0 32 .rc 0 false
/-- DSP_TEAR_CNT, as R464 of spec/19_display_outputs.md lays it out. -/
def DSP_TEAR_CNT : Reg := ⟨0x90124, 4, [(0x1000, 2), (0x40, 3)], fun ix => let o := ix.getD 0 0; let L := ix.getD 1 0; [DSP_TEAR_CNT_CNT o L]⟩

def DSP_LSTAT_URGENT (o : Nat) (L : Nat) : Fld := .mk (0x90128 + 0x1000 * o + 0x40 * L) 16 1 .ro 0 false
def DSP_LSTAT_COVLINES (o : Nat) (L : Nat) : Fld := .mk (0x90128 + 0x1000 * o + 0x40 * L) 0 16 .ro 0 false
/-- DSP_LSTAT, as R464 of spec/19_display_outputs.md lays it out. -/
def DSP_LSTAT : Reg := ⟨0x90128, 4, [(0x1000, 2), (0x40, 3)], fun ix => let o := ix.getD 0 0; let L := ix.getD 1 0; [DSP_LSTAT_URGENT o L, DSP_LSTAT_COVLINES o L]⟩

/-- Every register of the unit, for access by address. -/
def devRegs : List Reg :=
  [DEV_ID, DEV_POS, DEV_PACE, DEV_PACE_CTL, DEV_SUPPLY, DEV_PWRFAIL, TB_CTL, TB_STAT, TB_DT, TB_DTSET, TB_HOLDUNC, TB_ISLOCK] ++
  [TB_REFIN, TB_WALL, TB_WALLUNC, BCN_CTL, BCN_EPOCHPER, BCN_STAT, BCN_CMD, BCN_DELAY, BCN_RESID, BCN_CNT, BCN_SEND, BCN_MDLY] ++
  [FEF_TTCTL, FEF_TTSTAT, FEF_TTOFS, FEF_TTDLY, FEF_TTASYM, DEV_SNFSRC, DEV_SNFCMD, DEV_SNFSUM, FAIL_CTL, FAIL_STAT, FAIL_RWR, FAIL_RRD] ++
  [FAIL_RWM, FAIL_SBASE, FAIL_SSIZE, FAIL_SWR, FAIL_SRD, FAIL_SWM, FAIL_LOST, FAIL_SEQ, FAIL_CNTBASE, FAIL_CNTTHR, MOT_CTL, MOT_POS] ++
  [MOT_POSDT, MOT_VEL, MOT_PITCH, MOT_C0, MOT_ZPOS, MOT_ZDT, MOT_STAT, MOT_CMD, MOT_COASTDT, MOT_GUARD, MOT_SCHCNT, MOT_SADDPOS] ++
  [MOT_SADDACT, MOT_SADDRES, MOT_CNT, MOT_LATECNT, MOT_SGW, CT_CTL, CT_STAT, CT_BASE, CT_HKEY0, CT_HKEY1, CT_CMD, CT_GT0BASE] ++
  [CT_GT1BASE, CT_CMBASE, CT_KMINDT, CT_SEALCFG, CT_BATCH, CT_BSTAT, CT_SEALDONE, CT_CNT, CT_REPCTL, CT_REPSTAT, MEM_CTL, MEM_ECCSTAT] ++
  [MEM_UEADDR, MEM_AECNT, MEM_AEINFO, MEM_AEMAST, MEM_BTCFG, MEM_BTMASK, MEM_BTSTAT, MEM_BTCUR, MEM_BTFADDR, MEM_COLLIDE, MEM_ECCCNT, MEM_REPAIR] ++
  [MEM_BTCOV, MEM_RLO, MEM_RHI, DDR_CTL, DDR_STAT, DDR_SCHEDCFG, DDR_REFCFG, DDR_PWRCFG, DDR_RHCFG, DDR_SCRUBCFG, DDR_OORCNT, DDR_CHSTAT] ++
  [DDR_RHCNT, DDR_SRCNT, DDR_REFFORCE, DDR_RKSTAT, DDR_ECCCNT, DDR_CEINFO, DDR_UEINFO, EVT_COAL, EVT_RAISE, EVT_MSGCNT, EVT_PEND, EVT_STAT] ++
  [EVT_DBDATA, EVT_SRC, LAP_CTL, LAP_PORT, LAP_STAT, LAP_RTO, LAP_DELIV, LAP_PTPCFG, LAP_IP4, LAP_IP4MASK, LAP_IP4GW, LAP_MAC] ++
  [LAP_CNT, LAP_SESS, FEF_EVCTL, FEF_EVCNT, FEF_MSGCNT, SEC_BOOT, SEC_CMD, SEC_STAT, SEC_STAGE, SEC_STAGELEN, SEC_ATTNONCE, SEC_ATTADDR] ++
  [SEC_ATTLEN, SEC_IDFP, SEC_CALID, SEC_RECCFG, SEC_HOSTFP, SEC_SWCMD, SEC_SWSTAT, SEC_SWOFS, SEC_SWLEN, SEC_SWSESS, SEC_SWAPER, DEV_CTL] ++
  [DEV_PSTATE, DEV_PCMD, DEV_RSTCAUSE, DEV_RSTCFG, DEV_CLSVC, PIL_TIME, PIL_DOZEDT, PIL_OFFTIME, PIL_CMP, PIL_SAFECTL, PIL_WAKECFG, PIL_WAKEAT] ++
  [PIL_WAKESRC, HLT_CTL, HLT_STAT, HLT_RECBASE, HLT_CURVEBASE, HLT_WARN, HLT_WORST, HLT_SOONEST, HLT_EOLDT, HLT_CCCMD, HLT_OVEN, DSP_CTL] ++
  [DSP_STAT, DSP_HTIM0, DSP_HTIM1, DSP_VTIM0, DSP_VTIM1, DSP_PCLK, DSP_LINK, DSP_TCMD, DSP_BGCOL, DSP_FRAME, DSP_LAYER_RETIRED, DSP_LCTL] ++
  [DSP_LPOS, DSP_LSIZE, DSP_LSTRIDE, DSP_LADDR, DSP_LRETADDR, DSP_LUNDER, DSP_TEAR_CNT, DSP_LSTAT]

end Sys2Proof.Machine
end

