-- ==== Sys2Proof/Machine/Device.lean ====
section
/-! DEFINITION. The whole device as plain data, and the one way each unit is read and changed. -/

namespace Sys2Proof.Machine

/-- What a waiting thread waits for (R195 to R200, R226, R229, R236). -/
inductive WaitKind where
  /-- WAITC: class and argument -/
  | cond (cls arg : Nat)
  /-- WAITT -/
  | until_
  /-- SYNC on a barrier with its mask -/
  | sync (b mask : Nat)
  /-- MEAS or MEAS COLLECT on the V (false) or I (true) input, result register -/
  | meas (isI : Bool) (dst : Nat)
  /-- PSRANGE that waits for a change in progress, then requests range `r` -/
  | psBusy (r : Nat) (w : Bool)
  /-- PSRANGE.W waiting for its own change -/
  | psEnd
  /-- IMPED.W -/
  | imped
deriving DecidableEq, Repr

/-- A wait in progress: kind, deadline, issue DT. -/
structure Wait where
  kind : WaitKind
  deadline : Option Nat
  issue : Nat
deriving DecidableEq, Repr

/-- A micro-context (R241): micro-PC, MT0 to MT7, condition latch, loop count, lock mask, trap level, micro-stack of the present level and of the levels below, lock masks inherited at the entry of each level (the present one first), words since dispatch or the last safe point (R256), since when a word waits (R248), whether an instruction wait of the present word has ended, and whether its words run from the control store: an opcode outside R189, whose routine only the store gives. -/
structure Micro where
  upc : Nat := 0
  mt : List Nat := List.replicate 8 0
  latch : Nat := 0
  loop : Nat := 0
  locks : Nat := 0
  level : Nat := 0
  stack : List Nat := []
  below : List (List Nat) := []
  inherited : List Nat := []
  safe : Nat := 0
  waitAt : Option Nat := none
  waited : Bool := false
  own : Bool := false
deriving DecidableEq, Repr

/-- A thread: the registers of R212 and what no register shows. -/
structure Thread where
  regs : Regs := []
  wait : Option Wait := none
  /-- state to return to when a quiesce is released (R208) -/
  former : Nat := 0
  /-- a wait that ended during a quiesce: T and the wait stamp it takes at the release (R199) -/
  held : Option (Bool × Nat) := none
  /-- the word fetched and not yet executed (R183) -/
  issued : Option Nat := none
  /-- halt cause requested while an instruction is in progress (R210) -/
  haltReq : Option Nat := none
  /-- handler of a LOG+ABORT redirect waiting for a boundary (R223) -/
  redirect : Option Nat := none
  /-- asynchronous traps pending, by number (R252) -/
  traps : List Nat := []
  /-- words executed by the routine in progress (R252) -/
  budget : Nat := 0
  /-- the context of the routine or handler in progress (R241) -/
  micro : Option Micro := none
deriving DecidableEq, Repr

/-- A capture of a channel (R272 to R288). `desc` holds the 16 words of the descriptor it works from. -/
structure CapCh where
  regs : Regs := []
  desc : List Nat := []
  /-- arm or re-arm DT (while in HOLDOFF the one to come), start of sample 0 of the grid once it has begun, index of the next sample to complete, DT from which samples enter the buffer -/
  armDt : Nat := 0
  grid : Option Nat := none
  next : Nat := 0
  bufFrom : Nat := 0
  /-- conversions that no complete sample holds yet -/
  conv : List Conv := []
  /-- complete samples held: grid index, V word, I word; oldest first -/
  samples : List (Nat × Nat × Nat) := []
  /-- the last VALID sample of the level source (R275) -/
  prev : Option Int := none
  /-- triggers not decided yet: stamp, from TSRC (R276) -/
  offers : List (Nat × Bool) := []
  /-- accepted trigger: stamp, from TSRC, CH_STEPIDX; its grid index; pre-trigger samples; post samples stored -/
  trig : Option (Nat × Bool × Nat) := none
  t0 : Nat := 0
  npre : Nat := 0
  npost : Nat := 0
  /-- reservation: offset and length in its ring; post samples that fit -/
  ofs : Nat := 0
  len : Nat := 0
  room : Nat := 0
  flags : Nat := 0
  /-- triggers missed since the last accepted one, and those that the open record carries; in this arming the last TRIGDT and ENDDT -/
  missed : Nat := 0
  recMissed : Nat := 0
  last : Option (Nat × Nat) := none
  mviol : Nat := 0
  mfirst : Option Int := none
  marks : List (Nat × Nat) := []
  /-- triggers still to skip (R284) -/
  skip : Nat := 0
  capseq : Nat := 0
  /-- block of the pre-trigger area: offset, size (R278) -/
  block : Option (Nat × Nat) := none
deriving DecidableEq, Repr

/-- A channel record waiting for delivery (R235, R392): KIND, type, LCN, STEPIDX, DT and its data bytes. -/
structure Record where
  kind : Nat
  typ : Nat
  lcn : Nat
  idx : Nat
  dt : Nat
  data : List Nat
  /-- sent in a RECORD message that is not yet acknowledged -/
  sent : Option Nat := none
deriving DecidableEq, Repr

/-- A cluster: register blocks, 64 threads, 64 captures, 8 interval units, the control store, barriers and the record queue. -/
structure Cluster where
  regs : Regs := []
  thr : Tab Thread 64 := Tab.all_ {}
  cap : Tab CapCh 64 := Tab.all_ {}
  sti : Tab Sti 8 := Tab.all_ {}
  /-- control-store words written one by one, by address, with their 10 parity bits (R243, R258, R259); opcodes whose dispatch entry was written; and whether the base microcode fills the rest (R260) -/
  cs : List (Nat × Nat) := []
  dispSet : List Nat := []
  base : Bool := false
  bars : List (Nat × Nat) := []
  records : List Record := []
  /-- capture writes staged while memory stalls them: channel, address, 8-byte value (R279, R356) -/
  stage : List (Nat × Nat × Nat) := []
  /-- DTs of machine checks, newest first (R437) -/
  mcks : List Nat := []
  /-- reloads that failed in succession (R434); the firmware reloads by itself (R436) -/
  failed : Nat := 0
  auto : Bool := false
  /-- instructions issued in the present pace window, and its start (R26) -/
  issued : Nat := 0
  paceAt : Nat := 0
  /-- per-master copies of MCE_CSADDR and MCE_CSDATA0 to 5: master, words (R262) -/
  csRegs : List (Nat × List Nat) := []
deriving DecidableEq, Repr

/-- What the event controller keeps for a source beside its register: unreported raises, DT of the first, coalescing timer (R385, R388). -/
structure EvtCell where
  src : Nat
  count : Nat
  first : Nat
  due : Option Nat
deriving DecidableEq, Repr

/-- One access response given to a master on its port: register or memory data, or an error code (the model's output). -/
structure Resp where
  master : Nat
  addr : Nat
  data : List Nat
  err : Nat
deriving DecidableEq, Repr

/-- The device. `dt` is device time in fine steps (R6); every command takes place at `dt`. `regs` holds the device blocks, offsets from 0x4000_0000. -/
structure Device where
  dt : Nat := 0
  /-- MODEL's own: the number of free values used so far (log entry 2) -/
  free : Nat := 0
  regs : Regs := []
  afe : Tab Afe 8 := Tab.all_ {}
  cl : Tab Cluster 16 := Tab.all_ {}
  grp : Tab Grp 128 := Tab.all_ {}
  ch : Tab Chan 1024 := Tab.all_ {}
  /-- on-chip banks and DDR5 space; an unlisted byte is 0 (R363, R433) -/
  mem : List Host.Cell := []
  /-- 8-byte words whose stored bits hold an uncorrectable error (R352, R376) -/
  bad : List Nat := []
  /-- words and lines whose stored bits hold a correctable error: (address, device) (R351, R375) -/
  soft : List (Nat × Nat) := []
  /-- corrected words waiting for their write-back slot (R351) -/
  wback : List Nat := []
  /-- region register words before writes that are not yet in force: region key, DT of effect, low, high (R347) -/
  regWait : List (Nat × Nat × Nat × Nat) := []
  /-- background test: DT of the last return, slices marched and skipped in this pass per bank (R354, R355) -/
  btAt : Nat := 0
  /-- the next slice of the background test's pass -/
  btNext : Nat := 0
  btTested : List (Nat × Nat) := []
  btSkipped : List (Nat × Nat) := []
  /-- captured high words, by master and address of the register (R2, R105, R132) -/
  caught : List (Nat × Nat × Nat) := []
  /-- held low words, by master and address (R2) -/
  held : List (Nat × Nat × Nat) := []
  /-- the responses of the last command that accessed memory, in service order -/
  resp : List Resp := []
  /-- contexts that wait for locks, in the order of their requests: cluster, thread (R249) -/
  lockQ : List (Nat × Nat) := []
  evt : List EvtCell := []
  /-- sources delivered to the firmware and not yet taken (R387) -/
  lampQ : List Nat := []
  tb : Timebase := {}
  /-- the role has been fixed in this boot; ROLE_REQ in the boot control block; a write of it not yet saved (R60, R404) -/
  roleDone : Bool := false
  bootRole : Nat := 0
  roleDirty : Bool := false
  bcn : Beacon := {}
  fef : Tab FefLink 4 := Tab.all_ {}
  /-- OSEQ of the next EVREL this device originates; the last 64 EVRELs handled, newest first: ORIGIN, OSEQ (R397) -/
  oseq : Nat := 0
  evSeen : List (Nat × Nat) := []
  fail : FailUnit := {}
  mot : Motion := {}
  ct : CellTab := {}
  /-- device records waiting for delivery (R415) -/
  records : List Record := []
  ddr : Ddr := {}
  dsp : Tab Dsp 2 := Tab.all_ {}
  sess : Tab Sess 4 := Tab.all_ {}
  /-- messages the last command sent: session slot (4 for a clear answer), message (the model's output) -/
  lapOut : List (Nat × LMsg) := []
  /-- wear counts by element, in the unit of their class (R442, R443); unlisted 0 -/
  wear : List (Nat × Nat) := []
  /-- lane phase: 0 OFF, 1 waiting for the superframe boundary, 2 on, 3 sending the last superframe; and since when (R165, R166) -/
  lanes : Nat := 0
  lanesAt : Nat := 0
  ilkOpen : Bool := false
  hot : Bool := false
  /-- the last junction samples of the AFE chiplets, in °C (R48, R443) -/
  temps : List Int := []
  pw : Power := {}
  sec : Sec := {}
  health : Health := {}
deriving DecidableEq, Repr

/-! ### Access to the units -/

def Device.get (d : Device) (f : Fld) : Nat := d.regs.get f
def Device.on (d : Device) (f : Fld) : Bool := d.regs.on f
def Device.set (f : Fld) (v : Nat) (d : Device) : Device := { d with regs := d.regs.set f v }
def Device.setB (f : Fld) (b : Bool) (d : Device) : Device := { d with regs := d.regs.setB f b }
def Device.bump (f : Fld) (n : Nat) (d : Device) : Device := { d with regs := d.regs.bump f n }

/-- Channel `n`, group `g`, chiplet `a`, cluster `k`; out of range, the reset unit. -/
def Device.chan (d : Device) (n : Nat) : Chan := d.ch.getD n {}
def Device.group (d : Device) (g : Nat) : Grp := d.grp.getD g {}
def Device.chip (d : Device) (a : Nat) : Afe := d.afe.getD a {}
def Device.clus (d : Device) (k : Nat) : Cluster := d.cl.getD k {}
def Device.thread (d : Device) (k c : Nat) : Thread := (d.clus k).thr.getD c {}
def Device.sti (d : Device) (k u : Nat) : Sti := (d.clus k).sti.getD u {}
def Device.capt (d : Device) (n : Nat) : CapCh := (d.clus (n / 64)).cap.getD (n % 64) {}

def Device.modChan (n : Nat) (f : Chan → Chan) (d : Device) : Device := { d with ch := d.ch.modify n f }
def Device.modGrp (g : Nat) (f : Grp → Grp) (d : Device) : Device := { d with grp := d.grp.modify g f }
def Device.modAfe (a : Nat) (f : Afe → Afe) (d : Device) : Device := { d with afe := d.afe.modify a f }
def Device.modCl (k : Nat) (f : Cluster → Cluster) (d : Device) : Device := { d with cl := d.cl.modify k f }
def Device.modThr (k c : Nat) (f : Thread → Thread) (d : Device) : Device :=
  d.modCl k fun x => { x with thr := x.thr.modify c f }
def Device.modSti (k u : Nat) (f : Sti → Sti) (d : Device) : Device :=
  d.modCl k fun x => { x with sti := x.sti.modify u f }
def Device.modCap (n : Nat) (f : CapCh → CapCh) (d : Device) : Device :=
  d.modCl (n / 64) fun x => { x with cap := x.cap.modify (n % 64) f }
/-- The same change to every channel for which `p` holds. -/
def Device.mapChans (p : Nat → Bool) (f : Chan → Chan) (d : Device) : Device :=
  { d with ch := d.ch.mapIdx fun n c => if p n then f c else c }

def Afe.get (a : Afe) (f : Fld) : Nat := a.regs.get f
def Afe.on (a : Afe) (f : Fld) : Bool := a.regs.on f
def Afe.set (f : Fld) (v : Nat) (a : Afe) : Afe := { a with regs := a.regs.set f v }
def Afe.setB (f : Fld) (b : Bool) (a : Afe) : Afe := { a with regs := a.regs.setB f b }
def Cluster.get (x : Cluster) (f : Fld) : Nat := x.regs.get f
def Cluster.on (x : Cluster) (f : Fld) : Bool := x.regs.on f
def Cluster.set (f : Fld) (v : Nat) (x : Cluster) : Cluster := { x with regs := x.regs.set f v }
def Cluster.setB (f : Fld) (b : Bool) (x : Cluster) : Cluster := { x with regs := x.regs.setB f b }
def Cluster.bump (f : Fld) (n : Nat) (x : Cluster) : Cluster := { x with regs := x.regs.bump f n }
def Thread.get (t : Thread) (f : Fld) : Nat := t.regs.get f
def Thread.on (t : Thread) (f : Fld) : Bool := t.regs.on f
def Thread.set (f : Fld) (v : Nat) (t : Thread) : Thread := { t with regs := t.regs.set f v }
def Thread.setB (f : Fld) (b : Bool) (t : Thread) : Thread := { t with regs := t.regs.setB f b }
def Sti.get (u : Sti) (f : Fld) : Nat := u.regs.get f
def Sti.on (u : Sti) (f : Fld) : Bool := u.regs.on f
def Sti.set (f : Fld) (v : Nat) (u : Sti) : Sti := { u with regs := u.regs.set f v }
def Sti.setB (f : Fld) (b : Bool) (u : Sti) : Sti := { u with regs := u.regs.setB f b }
def CapCh.get (u : CapCh) (f : Fld) : Nat := u.regs.get f
def CapCh.on (u : CapCh) (f : Fld) : Bool := u.regs.on f
def CapCh.set (f : Fld) (v : Nat) (u : CapCh) : CapCh := { u with regs := u.regs.set f v }
def CapCh.setB (f : Fld) (b : Bool) (u : CapCh) : CapCh := { u with regs := u.regs.setB f b }

/-- The next free value (log entry 2). -/
def Device.freeVal (d : Device) : Nat := Config.freeValue d.free
def Device.useFree (d : Device) : Device := { d with free := d.free + 1 }

/-- Service state of cluster `k`: 0 READY, 1 OUT, 2 LOADING, 3 REJOIN (R435). -/
def Device.clState (d : Device) (k : Nat) : Nat := bits (d.get DEV_CLSVC_STATE) (2 * k) 2
def Device.setClState (k v : Nat) (d : Device) : Device :=
  d.set DEV_CLSVC_STATE (setBits (d.get DEV_CLSVC_STATE) (2 * k) 2 v)

/-- The wear count of element `e`. -/
def wearOf (e : Nat) (w : List (Nat × Nat)) : Nat := ((w.find? fun x => x.1 == e).map (·.2)).getD 0

/-- A wear count put in its place. -/
def putWear (e v : Nat) : List (Nat × Nat) → List (Nat × Nat)
  | [] => [(e, v)]
  | x :: t => if e < x.1 then (e, v) :: x :: t else x :: putWear e v t

/-- Adds `n` to the wear count of element `e` (R99, R443). -/
def bumpWear (e n : Nat) (w : List (Nat × Nat)) : List (Nat × Nat) :=
  putWear e (wearOf e w + n) (w.filter fun x => decide (x.1 ≠ e))

/-- The record of element `e` in the management bank (R442). -/
def Device.wearAt (d : Device) (e : Nat) : Nat := 0x3E00000 + d.get HLT_RECBASE_OFS + 32 * e

/-- The raw value of element `e` grows by `n`; its record shows it (R442, R443). -/
def Device.wearBy (e n : Nat) (d : Device) : Device :=
  let w := bumpWear e n d.wear
  { d with wear := w, mem := memWrite (d.wearAt e) (wearOf e w) 8 d.mem }

/-- Units of one hot-switching cycle at the junction temperature of chiplet `a` (R443). -/
def Device.cycleUnits (a : Nat) (d : Device) : Nat :=
  let t := d.temps.getD a 0
  if t < 55 then 16 else if t < 70 then 24 else if t < 85 then 32 else 48

/-- Hot-switching cycles on switch `s` of channel `ch`: 0 I-range, 1 V-cal, 2 I-cal (R99, R442, R443). -/
def Device.wick (ch s cycles : Nat) (d : Device) : Device := d.wearBy (3 * ch + s) (d.cycleUnits (ch / 128) * cycles)

/-- The line channel number of channel `n` (R20); DEVICE counts as 0 while VALID = 0 (R21). -/
def Device.lcn (d : Device) (n : Nat) : Nat :=
  d.get DEV_POS_BAY * 2 ^ 17 + d.get DEV_POS_SHELF * 2 ^ 14 +
    (if d.on DEV_POS_VALID then d.get DEV_POS_DEVICE else 0) * 2 ^ 10 + n % 1024

end Sys2Proof.Machine
end

