-- ==== Sys2Proof/Machine/Events.lean ====
section
/-! DEFINITION. The event controller (R14, R15, R384 to R388). -/

namespace Sys2Proof.Machine

/-- Sources that are reserved and never raised (R78, R178, R271, R381, R384, R398, R421, R447, R462). -/
def reservedSource (s : Nat) : Bool :=
  512 ≤ s || [(181, 191), (210, 223), (230, 231), (236, 236), (239, 239), (245, 247), (249, 255), (306, 319), (331, 343),
    (351, 351), (378, 415), (428, 447), (454, 455), (473, 479)].any fun r => r.1 ≤ s && s ≤ r.2

/-- EVT_COAL time of a priority in fine steps, EVT_COAL counting milliseconds; P2 = 0 counts as 1 (R388, R399). -/
def Device.coalTime (d : Device) (prio : Nat) : Nat :=
  1000 * usLen * (match prio with
    | 0 => d.get EVT_COAL_P0 | 1 => d.get EVT_COAL_P1 | _ => max 1 (d.get EVT_COAL_P2))

/-- The unreported raises of source `s` (R385). -/
def Device.evtCell (d : Device) (s : Nat) : EvtCell :=
  (d.evt.find? fun e => e.src == s).getD ⟨s, 0, 0, none⟩

/-- The list of cells with the one of its source replaced; cells stay in source order. -/
def putCell (e : EvtCell) : List EvtCell → List EvtCell
  | [] => [e]
  | x :: t => if e.src < x.src then e :: x :: t else if x.src = e.src then e :: t else x :: putCell e t

/-- An execute-at joins those that wait, in order of EXEC_AT; equal ones keep their order of arrival, which is SEQ order (R69). -/
def putExec (e : BExec) : List BExec → List BExec
  | [] => [e]
  | x :: t => if e.at_ < x.at_ then e :: x :: t else x :: putExec e t

/-- The execute-at lead in fine steps: LEAD_US, at least 2 (R69). -/
def Device.lead (d : Device) : Nat := max 2 (d.get BCN_CTL_LEAD_US) * usLen

def Device.modFef (l : Nat) (f : FefLink → FefLink) (d : Device) : Device := { d with fef := d.fef.modify l f }
def Device.flink (d : Device) (l : Nat) : FefLink := d.fef.getD l {}

/-- Queues a reliable frame on Fefitil link `l`; the first 32 are in flight (R396). -/
def Device.fefQueue (l typ : Nat) (body : List Nat) (d : Device) : Device :=
  d.modFef l fun x => { x with tx := x.tx ++ [⟨x.seq, typ, body, d.dt, 0⟩], seq := (x.seq + 1) % 65536 }

/-- The content of an EVREL (R396). -/
def evrelBody (kind num hops origin oseq at_ : Nat) : List Nat :=
  [kind, num % 256, hops, 0] ++ toBytes 2 origin ++ toBytes 2 oseq ++ toBytes 8 at_

/-- A TRIG (0) or SYNC (1) that this device issues goes out as EVREL on every link whose TX and number range ask for it (R397). -/
def Device.evrelIssue (kind num at_ : Nat) (d : Device) : Device :=
  let ls := (List.range 4).filter fun l =>
    d.on (FEF_EVCTL_TX l) && d.get (FEF_EVCTL_FIRST l) ≤ num && num ≤ d.get (FEF_EVCTL_LAST l)
  if ls.isEmpty then d
  else
    let origin := bits (d.lcn 0) 10 11
    let body := evrelBody kind num 1 origin d.oseq at_
    let d := { d with oseq := (d.oseq + 1) % 65536, evSeen := (origin, d.oseq) :: d.evSeen.take 63 }
    ls.foldl (fun d l => d.fefQueue l 2 body) d

/-- BCN_SEND and everything that acts as it does (R80, R233): kind 0 TRIG, 1 SYNC. A master queues the frame, a member its request; on a stand-alone device it takes effect locally after the lead. -/
def Device.bcnSend (kind num : Nat) (d : Device) : Device :=
  match d.get DEV_POS_ROLE with
  | 2 => { d with bcn := { d.bcn with downQ := d.bcn.downQ ++ [{ typ := 5 + 2 * kind, payload := num % 256 }] } }
  | 1 => { d with bcn := { d.bcn with upQ := d.bcn.upQ ++ [(0x85 + 2 * kind, num % 256)] } }
  | _ =>
    let d := d.evrelIssue kind (num % 256) (d.dt + d.lead)
    { d with bcn := { d.bcn with execs := putExec ⟨kind, num % 256, 0, d.dt + d.lead⟩ d.bcn.execs } }

/-- `n` raises of source `s` (R385, R387, R388): PENDING, the unreported count, the coalescing timer of the first one, delivery to the firmware under RLAMP, and the Beacon request under RBCN. -/
def Device.raiseN (s n : Nat) (d : Device) : Device :=
  if reservedSource s || n == 0 then d
  else
    let c := d.evtCell s
    let en := d.on (EVT_SRC_ENABLE s)
    let prio := d.get (EVT_SRC_PRIORITY s)
    let due := if c.count != 0 then c.due
      else if prio == 3 then some d.dt else some (d.dt + d.coalTime prio)
    let cell : EvtCell := ⟨s, min 65535 (c.count + n), if c.count = 0 then d.dt else c.first, due⟩
    let q := if en && d.on (EVT_SRC_RLAMP s) && !d.lampQ.contains s then d.lampQ ++ [s] else d.lampQ
    let was := d.on (EVT_SRC_PENDING s)
    let d := { d.setB (EVT_SRC_PENDING s) true with evt := putCell cell d.evt, lampQ := q }
    if en && !was && d.on (EVT_SRC_RBCN s) then d.bcnSend 0 (d.get (EVT_SRC_BCNTRIG s)) else d

/-- One raise of source `s`. -/
def Device.raise (s : Nat) (d : Device) : Device := d.raiseN s 1

/-- A doorbell raise with its data word (R385, R386). -/
def Device.ring (db data : Nat) (d : Device) : Device :=
  ((d.set (EVT_DBDATA_DATA (db % 32)) data).raise (480 + db % 32))

/-- Raises GRP.g once for each channel of a list (R144, R169). -/
def Device.raiseGroups (ns : List Nat) (d : Device) : Device :=
  (List.range 128).foldl (fun d g =>
    let k := (ns.filter fun n => n / 8 == g).length
    if k == 0 then d else d.raiseN g k) d

/-- Sets bits of SEQ_CAUSE and raises SEQ.k (R192, R210): 0 OVERRUN, 1 HALT, 2 PACE_LOW, 3 STI. -/
def Device.seqCause (k i : Nat) (d : Device) : Device :=
  let f := match i with
    | 0 => SEQ_CAUSE_OVERRUN | 1 => SEQ_CAUSE_HALT | 2 => SEQ_CAUSE_PACE_LOW | _ => SEQ_CAUSE_STI
  (d.modCl k (Cluster.setB f true)).raise (128 + k)

/-- A timed action reached the data plane `late` fine steps after its time (R25, R192). -/
def Device.overrun (n late : Nat) (d : Device) : Device :=
  (d.modThr (n / 64) (n % 64) fun t =>
    { t with regs := ((t.regs.setB SEQ_TSTAT_OVR true).set SEQ_TLATE_TICKS (min (2 ^ 32 - 1) (late / 128))).bump SEQ_TOVCNT_CNT 1 }).seqCause (n / 64) 0

end Sys2Proof.Machine
end

