-- ==== Sys2Proof/Machine/Snuffer.lean ====
section
/-! DEFINITION. The Snuffer at device level: level causes, snuffs over a scope, re-arms (R15, R168 to R172), and the safe-off output (R441). -/

namespace Sys2Proof.Machine

/-- The WIN level causes of a channel: a tripped comparator with SNF = 1; a mask freezes the state (R111, R168). -/
def Chan.winLevels (c : Chan) : Nat :=
  maskOf 4 fun k =>
    match c.masks.getD k none with
    | some m => m.before && c.cmpSnf k
    | none => c.tripped k && c.cmpSnf k && c.cmpEn k

/-- The mask of level causes of R168 that are active in the scope of channel `n`. -/
def Device.levels (d : Device) (n : Nat) : Nat :=
  let c := d.chan n
  let g := d.group (n / 8)
  let a := d.chip (n / 128)
  let lock := d.get TB_ISLOCK_LOCK
  c.winLevels + 2 ^ 4 * b2n (c.cmV || c.cmI) +
    2 ^ 5 * b2n (g.on GRP_SLSTAT_LOCK && (bit (g.get GRP_SLSTAT_FAULT) (n % 8) || !g.on GRP_SLSTAT_READY)) +
    2 ^ 6 * b2n (!g.on GRP_SLSTAT_LOCK) + 2 ^ 7 * b2n g.hbBad + 2 ^ 8 * b2n g.tempBad +
    2 ^ 10 * b2n (a.on AFE_TPRSTAT_TAPFAIL4) +
    2 ^ 11 * b2n (!bit lock 0 || !bit lock (1 + n / 128)) +
    2 ^ 12 * b2n d.hot + 2 ^ 13 * b2n d.ilkOpen +
    2 ^ 14 * b2n (d.on (PIL_CMP_TRIPPED 4) && d.on DEV_SNFSRC_SMOKE_EN) +
    2 ^ 15 * b2n (d.on (PIL_CMP_TRIPPED 5) && d.on DEV_SNFSRC_DOOR_EN) +
    2 ^ 17 * b2n (d.get DEV_POS_ROLE == 1 && d.on BCN_CTL_ESTOP_ON_LOSS && !d.on BCN_STAT_MSG_LOCK) +
    2 ^ 18 * b2n (d.clState (n / 64) != 0)

/-- `cause` reaches the Snuffer for every channel of which `p` holds (R169): each is snuffed in the first frame sampled after `d.dt`, and GRP.g is raised for each. -/
def Device.snuffWhere (cause : Nat) (p : Nat → Bool) (d : Device) : Device :=
  (d.mapChans p (Chan.snuff cause (sampledFrame d.dt))).raiseGroups ((List.range 1024).filter p)

/-- A snuff of one channel. -/
def Device.snuffCh (cause n : Nat) (d : Device) : Device :=
  (d.modChan n (Chan.snuff cause (sampledFrame d.dt))).raise (n / 8)

/-- A snuff of one channel in the frame that begins at boundary `bnd`. -/
def Device.snuffAt (cause n bnd : Nat) (d : Device) : Device :=
  (d.modChan n (Chan.snuff cause bnd)).raise (n / 8)

/-- A snuff of the whole device, with source 452 for the causes that R178 names. -/
def Device.snuffAll (cause : Nat) (d : Device) : Device :=
  (d.snuffWhere cause fun _ => true).raise 452

/-- A snuff of the channels of group `g`; causes 6 to 9 raise the cluster's source (R178). -/
def Device.snuffGroup (cause g : Nat) (d : Device) : Device :=
  let d := d.snuffWhere cause fun n => n / 8 == g
  if 6 ≤ cause && cause ≤ 9 then d.raise (456 + g / 8) else d

/-- A re-arm request for channel `n` (R172): accepted while no level source is active. Answers whether it was accepted. -/
def Device.rearm (n : Nat) (d : Device) : Device × Bool :=
  if !(d.chan n).on CH_SNFSTAT_SNUFFED then (d, true)
  else if d.levels n = 0 then (d.modChan n Chan.rearm, true)
  else (d.modChan n (Chan.setB CH_SNFSTAT_REJ true), false)

/-- Records a step end of channel `n` and raises GRP.g when the record changes (R144). -/
def Device.endStep (n : Nat) (e : StepEnd) (d : Device) : Device :=
  if (d.chan n).endsBy e then (d.modChan n (Chan.endStep e)).raise (n / 8) else d

/-- An ABORT request on the active step of channel `n` (R142): it takes effect at the first boundary after the first request plus the deskew. -/
def Device.abortStep (n : Nat) (d : Device) : Device :=
  if (d.chan n).running then
    d.modChan n fun c => { c with abortAt := some (c.abortAt.getD (boundaryAfter d.dt + c.deskew)) }
  else d

/-! ### ILK_SAFEOFF -/

/-- Forcing condition `i` of R441 begins or ends (bit `i` of FORCE: 0 before READY, 1 e-stop, 2 comparator, 3 power-fail, 4 DOZE, 5 OVERTEMP). Its onset clears PERMIT and turns the output non-conducting. -/
def Device.force (i : Nat) (on_ : Bool) (d : Device) : Device :=
  let f := setBit (d.get PIL_SAFECTL_FORCE) i on_
  let d := d.set PIL_SAFECTL_FORCE f
  if on_ then
    let was := d.on PIL_SAFECTL_CONDUCT
    let d := (d.setB PIL_SAFECTL_PERMIT false).setB PIL_SAFECTL_CONDUCT false
    if was then d.raise 425 else d
  else d

/-- A PERMIT write: ignored while a condition holds (R441). -/
def Device.permit (d : Device) : Device :=
  if d.get PIL_SAFECTL_FORCE != 0 then d
  else
    let was := d.on PIL_SAFECTL_CONDUCT
    let d := (d.setB PIL_SAFECTL_PERMIT true).setB PIL_SAFECTL_CONDUCT true
    if was then d else d.raise 426

end Sys2Proof.Machine
end

