-- ==== Sys2Proof/Machine/Threads.lean ====
section
/-! DEFINITION. Threads of a sequencer: state, halting, waking, host requests, quiesce (R182 to R185, R199, R200, R208 to R210, R223). -/

namespace Sys2Proof.Machine

/-- STATE of R208: 0 HALTED, 1 READY, 2 BUSY, 3 WAITING, 4 QUIESCED. -/
def Thread.state (t : Thread) : Nat := t.get SEQ_TSTAT_STATE
def Thread.pc (t : Thread) : Nat := t.get SEQ_TPC_PC
def Thread.g (t : Thread) (i : Nat) : Nat := t.get (SEQ_TG_VAL (i % 16))
def Thread.l (t : Thread) (i : Nat) : Nat := t.get (SEQ_TL_CNT (i % 4))
def Thread.flags (t : Thread) : Nat := t.get SEQ_TFLAGS_FLAGS
def Thread.flag (t : Thread) (i : Nat) : Bool := bit t.flags i
def Thread.setG (i v : Nat) (t : Thread) : Thread := t.set (SEQ_TG_VAL (i % 16)) v
def Thread.setL (i v : Nat) (t : Thread) : Thread := t.set (SEQ_TL_CNT (i % 4)) v
def Thread.setFlags (v : Nat) (t : Thread) : Thread := t.set SEQ_TFLAGS_FLAGS v
/-- Flag `i` (0 Z, 1 N, 2 CY, 3 OV, 4 T, 5 P) set to `b`. -/
def Thread.setFlag (i : Nat) (b : Bool) (t : Thread) : Thread := t.setFlags (setBit t.flags i b)
def Thread.setPc (v : Nat) (t : Thread) : Thread := t.set SEQ_TPC_PC v
/-- Z and N from a written result (R201). -/
def Thread.setZN (v : Nat) (t : Thread) : Thread :=
  (t.setFlag 0 (v % 2 ^ 64 == 0)).setFlag 1 (bit v 63)

/-- The trap level of the thread's context, and whether its words run from the control store: in a handler, or in a routine that only the store gives (R241, R251). -/
def Thread.level (t : Thread) : Nat := match t.micro with | some x => x.level | none => 0
def Thread.onStore (t : Thread) : Bool := match t.micro with | some x => x.own || x.level != 0 | none => false

/-- A thread that may execute its issued instruction: READY, or BUSY in it. -/
def Thread.runnable (t : Thread) : Bool := (t.state == 1 || t.state == 2) && !t.onStore

/-- The context of a routine ends: its values are lost (R241). -/
def Thread.drop (t : Thread) : Thread := { t with issued := none, budget := 0, micro := none }

/-- A new state, kept behind QUIESCED while a quiesce holds the thread (R208). -/
def Thread.enter (st : Nat) (t : Thread) : Thread :=
  if t.state == 4 then { t with former := st } else t.set SEQ_TSTAT_STATE st

/-- A wait ends: T as given if the wait sets it, the wait stamp, and the thread is READY (R196); a routine that runs from the control store goes on with the word that waited (R248). -/
def Thread.wake (tf : Option Bool) (stamp : Option Nat) (t : Thread) : Thread :=
  let t := match tf with | some b => t.setFlag 4 b | none => t
  let t := match stamp with | some s => t.set SEQ_TWSTAMP_DT s | none => t
  match t.micro with
  | some m => if t.onStore then { t.enter 2 with wait := none, micro := some { m with waited := true } } else { (t.enter 1).drop with wait := none }
  | none => { (t.enter 1).drop with wait := none }

/-- The PC moves past a wait that ends (R195, R198, R200); under a quiesce that takes effect at the release (R199). -/
def Thread.wakeNext (tf : Option Bool) (stamp : Option Nat) (t : Thread) : Thread :=
  if t.state == 4 then { t with held := some (tf.getD false, stamp.getD 0) }
  else (t.wake tf stamp).setPc (if t.onStore then t.pc else t.pc + 1)

/-- The thread starts to wait (R208). -/
def Thread.await (w : Wait) (t : Thread) : Thread := { t.enter 3 with wait := some w, issued := none }

/-- HALTED with a cause (R209); a wait or routine in progress is abandoned. -/
def Thread.halt (cause : Nat) (t : Thread) : Thread :=
  { (t.set SEQ_TSTAT_STATE 0).set SEQ_TSTAT_CAUSE cause with
    wait := none, issued := none, haltReq := none, redirect := none, held := none, budget := 0, micro := none, former := 0 }

/-- Does the thread wait in a SYNC on barrier `b`. -/
def Thread.inSync (t : Thread) (b : Nat) : Bool :=
  (t.state == 3 || t.state == 4) &&
    match t.wait with | some w => (match w.kind with | .sync b' _ => b' == b && t.held.isNone | _ => false) | none => false

/-- Every thread of cluster `k` waiting on barrier `b` leaves it with T as given, the wait stamp the present DT; the barrier is reset (R200). -/
def Device.leaveSync (k b : Nat) (tf : Bool) (d : Device) : Device :=
  d.modCl k fun x =>
    { x with
      thr := x.thr.map fun t => if t.inSync b then t.wakeNext (some tf) (some d.dt) else t
      bars := x.bars.filter fun e => decide (e.1 ≠ b) }

/-- QUIESCED status of a cluster: every thread QUIESCED or HALTED under QUIESCE (R210). -/
def Cluster.showQuiesce (x : Cluster) : Cluster :=
  x.setB SEQ_STAT_QUIESCED (x.on SEQ_CTL_QUIESCE && x.thr.all fun t => t.state == 4 || t.state == 0)

/-- Thread `c` of cluster `k` halts with `cause` (R209, R210): SEQ.k is raised under HALT_EVT, and a barrier it takes part in breaks (R200). -/
def Device.haltThread (k c cause : Nat) (d : Device) : Device :=
  let x := d.clus k
  let broken := (x.bars.filter fun e => bit e.2 c).map (·.1)
  let d := d.modThr k c (Thread.halt cause)
  let d := broken.foldl (fun d b => d.leaveSync k b true) d
  let d := d.modCl k Cluster.showQuiesce
  if x.on SEQ_CTL_HALT_EVT then d.seqCause k 1 else d

/-- Opcodes of long routines with safe points: DIVQ, LDTAB, SEG COPY, CTSEAL (R202, R228, R256, R307, R337). -/
def longRoutine (w : Nat) : Bool :=
  let op := bits w 56 8
  op == 0x27 || op == 0x4A || op == 0x84 || (op == 0x91 && bits w 32 8 != 0)

/-- A host HALT (11) or ABORT (12) reaches a thread (R199, R210, R255): at the boundary, at a safe point of a long routine, or in a wait at once; after the instruction or handler in progress otherwise. ABORT also ends the active step. -/
def Device.hostStop (k c cause : Nat) (d : Device) : Device :=
  let t := d.thread k c
  if t.state == 0 then d
  else
    let d := if cause == 12 then d.abortStep (64 * k + c) else d
    if t.onStore && !(t.level == 0 && t.wait.isSome) then d.modThr k c fun t => { t with haltReq := some cause }
    else match t.issued with
    | some w => if longRoutine w then d.haltThread k c cause
        else d.modThr k c fun t => { t with haltReq := some cause }
    | none => d.haltThread k c cause

/-- RUN on a thread: a HALTED one becomes READY at its PC with CAUSE 0 (R210), QUIESCED while a quiesce lasts. -/
def Device.runThread (k c : Nat) (d : Device) : Device :=
  let x := d.clus k
  d.modThr k c fun t =>
    if t.state == 0 then
      let t := t.set SEQ_TSTAT_CAUSE 0
      if x.on SEQ_CTL_QUIESCE then { t.set SEQ_TSTAT_STATE 4 with former := 1 } else t.set SEQ_TSTAT_STATE 1
    else t

/-- The redirect of a LOG+ABORT (R223): pushes the PC and jumps to HANDLER with P = 0; STACK at depth 16. -/
def Device.redirectThread (k c : Nat) (d : Device) : Device :=
  let t := d.thread k c
  match t.redirect with
  | none => d
  | some h =>
    if t.onStore && !(t.level == 0 && t.wait.isSome) then d
    else if t.state == 0 then d.modThr k c fun t => { t with redirect := none }
    else if t.get SEQ_TSP_DEPTH ≥ 16 then d.haltThread k c 4
    else d.modThr k c fun t =>
      let dep := t.get SEQ_TSP_DEPTH
      let t := ((t.set (SEQ_TSTK_PC dep) t.pc).set SEQ_TSP_DEPTH (dep + 1)).setPc h
      { ((t.setFlag 5 false).enter 1).drop with wait := none, held := none, redirect := none }

/-- A thread whose instruction has ended: READY again, QUIESCED under a quiesce `q` (R210). -/
def Thread.ended (q : Bool) (u : Thread) : Thread :=
  let t := u.drop
  if t.state == 2 then
    if q then { t.set SEQ_TSTAT_STATE 4 with former := 1 } else t.set SEQ_TSTAT_STATE 1
  else t

/-- The end of an instruction of thread `c`: `f` is what it did to the thread, PC included. The thread is READY again; a host request or a quiesce waiting for the boundary acts now (R210), as does the redirect (R223). -/
def Device.retire (k c : Nat) (f : Thread → Thread) (d : Device) : Device :=
  let q := (d.clus k).on SEQ_CTL_QUIESCE
  let d := d.modThr k c fun t => (f t).ended q
  let d := d.redirectThread k c
  match (d.thread k c).haltReq with
  | some cause => d.haltThread k c cause
  | none => if q then d.modCl k Cluster.showQuiesce else d

/-- The end of an instruction that only moves on: `f` on the thread, then PC + 1. -/
def Device.retireNext (k c : Nat) (f : Thread → Thread) (d : Device) : Device :=
  d.retire k c fun t => (f t).setPc (t.pc + 1)

/-- Sets SEQ_CTL.QUIESCE (R199, R210): READY and WAITING threads show QUIESCED; a long routine in progress is abandoned; other instructions finish first. -/
def Device.quiesce (k : Nat) (d : Device) : Device :=
  d.modCl k fun x =>
    let x := x.setB SEQ_CTL_QUIESCE true
    ({ x with thr := x.thr.map fun t =>
        if t.state == 1 || t.state == 3 then { t.set SEQ_TSTAT_STATE 4 with former := t.state }
        else if t.state == 2 && !t.onStore && (match t.issued with | some w => longRoutine w | none => true) then
          { t.drop.set SEQ_TSTAT_STATE 4 with former := 1 }
        else t } : Cluster).showQuiesce

/-- Clears SEQ_CTL.QUIESCE: the threads return to their former states (R208, R210). -/
def Device.unquiesce (k : Nat) (d : Device) : Device :=
  d.modCl k fun x =>
    let x := x.setB SEQ_CTL_QUIESCE false
    ({ x with thr := x.thr.map fun t => if t.state == 4 then t.set SEQ_TSTAT_STATE t.former else t } : Cluster).showQuiesce

end Sys2Proof.Machine
end

