-- ==== Sys2Proof/Machine/Interval.lean ====
section
/-! DEFINITION. Interval units (R118 to R123), and the offer of a trigger to a capture (R275). -/

namespace Sys2Proof.Machine

def Sti.mode (u : Sti) : Nat := u.get STI_CTL_MODE

/-- Selector CLASS (R118). -/
def selClass (sel : Nat) : Nat := bits sel 13 3

/-- Does selector `sel` name the source: comparator `k` of channel `n`. -/
def selWindow (sel n k : Nat) : Bool := selClass sel == 0 && bits sel 11 2 == k && bits sel 1 10 == n
/-- Does selector `sel` name MOT line `line`. -/
def selLine (sel line : Nat) : Bool := selClass sel == 1 && bits sel 0 4 == line

/-- Edge choice: 0 rising, 1 falling, 2 either (R128). -/
def edgeWanted (choice : Nat) (rising : Bool) : Bool :=
  choice == 2 || (choice == 0 && rising) || (choice == 1 && !rising)

/-- Arms a unit at DT `t` (R119): results and their flags clear; a reserved selector class reports ERR. -/
def Sti.arm (t : Nat) (u : Sti) : Sti :=
  let r := u.regs
  let r := ((((r.set STI_RES_VAL 0).set STI_TSTART_DT 0).set STI_TSTOP_DT 0).set STI_CNT_CNT 0).set STI_FREQ_MHZ 0
  let r := ((((r.setB STI_STAT_ORDER false).setB STI_STAT_SUB_RES false).setB STI_STAT_MERGED false).setB STI_STAT_UNC false).setB STI_STAT_COARSE false
  let r := ((r.setB STI_STAT_DONE false).setB STI_STAT_TIMEOUT false).setB STI_STAT_STARTED false
  let bad := 2 ≤ selClass (u.get STI_START_SEL) || (u.mode ≤ 2 && 2 ≤ selClass (u.get STI_STOP_SEL))
  let on_ := 1 ≤ u.mode && u.mode ≤ 4
  if bad then { u with regs := (r.setB STI_STAT_ERR true).setB STI_STAT_ARMED false, armed := none }
  else if on_ then
    { u with regs := (r.set STI_TARM_DT t).setB STI_STAT_ARMED true,
             armed := some t, closeAt := none, starts := [], stops := [] }
  else { u with regs := r.setB STI_STAT_ARMED false, armed := none }

/-- Ends a measurement without a result (R119). -/
def Sti.disarm (u : Sti) : Sti :=
  { u with regs := (u.regs.setB STI_STAT_ARMED false).setB STI_STAT_STARTED false,
           armed := none, closeAt := none, starts := [], stops := [] }

/-- A stamp list with one more stamp, in DT order. -/
def putStamp (s : Stamp) : List Stamp → List Stamp
  | [] => [s]
  | x :: t => if s.dt < x.dt then s :: x :: t else x :: putStamp s t

/-- An edge of a source offered to the unit; it counts when stamped at or after the arm DT and inside a level window (R117, R119). -/
def Sti.offer (isSrc : Nat → Bool) (rising : Bool) (s : Stamp) (u : Sti) : Sti :=
  match u.armed with
  | none => u
  | some a =>
    if s.dt < a || (match u.closeAt with | some c => c ≤ s.dt | none => false) then u
    else
      let u := if isSrc (u.get STI_START_SEL) && edgeWanted (u.get STI_CTL_START_EDGE) rising then
          { u.setB STI_STAT_STARTED true with starts := putStamp s u.starts } else u
      if u.mode ≤ 2 && isSrc (u.get STI_STOP_SEL) && edgeWanted (u.get STI_CTL_STOP_EDGE) rising then
        { u with stops := putStamp s u.stops } else u

/-- The deadline of signed and next-stop modes (R121). -/
def Sti.deadline (u : Sti) : Option Nat :=
  match u.armed with
  | some a => if u.get STI_TMO_VAL = 0 then none else some (a + u.get STI_TMO_VAL * 128)
  | none => none

/-- Start and stop of signed (1) and next-stop (2) mode, edges after the deadline not counting (R120, R121). -/
def Sti.pair (u : Sti) : Option (Stamp × Stamp) :=
  let ok := fun s : Stamp => match u.deadline with | some e => s.dt ≤ e | none => true
  match u.starts.find? ok with
  | none => none
  | some a =>
    match u.stops.find? fun s => ok s && (u.mode == 1 || a.dt ≤ s.dt) with
    | some b => some (a, b)
    | none => none

/-- First and last edge and the period count of frequency (3) and period (4) mode (R123); none until the gate has ended. -/
def Sti.span (u : Sti) : Option (Stamp × Stamp × Nat) :=
  match u.starts with
  | [] => none
  | f :: rest =>
    if u.mode == 3 then
      let g := u.get STI_TMO_VAL * 128
      match rest.find? fun s => f.dt + g ≤ s.dt with
      | some l => some (f, l, (rest.filter fun s => s.dt ≤ l.dt).length)
      | none => none
    else
      let n := u.get STI_TMO_VAL
      if n = 0 then some (f, f, 0)
      else match rest[n - 1]? with
        | some l => some (f, l, n)
        | none => none

/-- The result of a pair in the registers (R120, R121). -/
def Sti.putPair (a b : Stamp) (u : Sti) : Sti :=
  let res : Int := (b.dt : Int) - a.dt
  let m := bor a.marks b.marks
  let r := ((u.regs.set STI_RES_VAL (uns 64 res)).set STI_TSTART_DT a.dt).set STI_TSTOP_DT b.dt
  let r := (r.setB STI_STAT_ORDER (u.mode == 1 && res < 0)).setB STI_STAT_SUB_RES (res.natAbs < a.q + b.q)
  let r := ((r.setB STI_STAT_MERGED (bit m 0)).setB STI_STAT_UNC (bit m 1)).setB STI_STAT_COARSE (bit m 2)
  { u with regs := (r.setB STI_STAT_DONE true).setB STI_STAT_ARMED false, armed := none }

/-- The result of a span in the registers (R123): STI_FREQ in mHz, nearest, ties away from zero. -/
def Sti.putSpan (a b : Stamp) (n : Nat) (timeout : Bool) (u : Sti) : Sti :=
  let len := b.dt - a.dt
  let f := if n = 0 || len = 0 then 0 else (roundDiv ((n : Int) * secLen * 1000) len).toNat
  let m := bor a.marks b.marks
  let r := ((u.regs.set STI_RES_VAL len).set STI_TSTART_DT a.dt).set STI_TSTOP_DT b.dt
  let r := (r.set STI_CNT_CNT n).set STI_FREQ_MHZ f
  let r := r.setB STI_STAT_SUB_RES (len < a.q + b.q)
  let r := ((r.setB STI_STAT_MERGED (bit m 0)).setB STI_STAT_UNC (bit m 1)).setB STI_STAT_COARSE (bit m 2)
  { u with regs := (r.setB (if timeout then STI_STAT_TIMEOUT else STI_STAT_DONE) true).setB STI_STAT_ARMED false, armed := none }

/-- The unit's measurement can be declared DONE at `now`: 1 µs after the later stamp (R121). -/
def Sti.finish (now : Nat) (u : Sti) : Option Sti :=
  if u.armed.isNone then none
  else if u.mode ≤ 2 then
    match u.pair with
    | some (a, b) => if max a.dt b.dt + usLen ≤ now then some (u.putPair a b) else none
    | none => none
  else match u.span with
    | some (a, b, n) => if b.dt + usLen ≤ now then some (u.putSpan a b n false) else none
    | none => none

/-- The unit times out at `now`: 1 µs after its deadline, after twice the gate, or after an edge gap of 2^31 ticks (R121, R123). -/
def Sti.expire (now : Nat) (u : Sti) : Option Sti :=
  if u.armed.isNone || (u.finish now).isSome then none
  else if u.mode ≤ 2 then
    match u.deadline with
    | some e =>
      if e + usLen ≤ now && u.pair.isNone then
        some { u with regs := (u.regs.setB STI_STAT_TIMEOUT true).setB STI_STAT_ARMED false, armed := none }
      else none
    | none => none
  else match u.starts, u.starts.getLast? with
    | f :: _, some l =>
      let lim := if u.mode == 3 then f.dt + 2 * (u.get STI_TMO_VAL * 128) else l.dt + 2 ^ 31 * 128
      if lim + usLen ≤ now && u.span.isNone then some (u.putSpan f l (u.starts.length - 1) true) else none
    | _, _ => none

/-- An edge offered to every interval unit of the device (R118). -/
def Device.offerEdge (isSrc : Nat → Bool) (rising : Bool) (s : Stamp) (d : Device) : Device :=
  { d with cl := d.cl.map fun x => { x with sti := x.sti.map (Sti.offer isSrc rising s) } }

/-- SEQ.k is raised with cause STI when EVT asks for it (R121). -/
def Device.stiEvent (k u : Nat) (d : Device) : Device :=
  if (d.sti k u).on STI_CTL_EVT then d.seqCause k 3 else d

/-- A unit declares DONE (row STI_DONE). -/
def Device.stiDone (k u : Nat) (d : Device) : Device :=
  match (d.sti k u).finish d.dt with
  | some x => (d.modSti k u fun _ => x).stiEvent k u
  | none => d

/-- A unit reports TIMEOUT (row STI_TIMEOUT). -/
def Device.stiTimeout (k u : Nat) (d : Device) : Device :=
  match (d.sti k u).expire d.dt with
  | some x => (d.modSti k u fun _ => x).stiEvent k u
  | none => d

/-- A MOT_XG edge arms the units that wait for it: at its stamp, or for a level window that closes at the falling stamp (R119). -/
def Device.stiXg (rising : Bool) (t : Nat) (d : Device) : Device :=
  { d with cl := d.cl.map fun x => { x with sti := x.sti.map fun u =>
      let a := u.get STI_CTL_ARM
      if (a == 1 && rising) || (a == 2 && !rising) || (a == 3 && rising) then u.arm t
      else if a == 3 && u.armed.isSome then { u with closeAt := some t }
      else u } }

/-! ### Trigger offers to captures -/

/-- TSRC and TARG of the descriptor a capture works from (R274). -/
def CapCh.word (u : CapCh) (i : Nat) : Nat := u.desc.getD i 0
def CapCh.tsrc (u : CapCh) : Nat := bits (u.word 0) 16 4
def CapCh.targ (u : CapCh) : Nat := u.word 1
/-- STATE of R273: 0 IDLE, 1 ARMED, 2 POST, 3 CLOSING, 4 HOLDOFF. -/
def CapCh.state (u : CapCh) : Nat := u.get CAP_STAT_STATE

/-- A trigger of source `tsrc`, stamped `t`, is offered to the capture of channel `n` when that is its source and TARG selects it (R275, R276). -/
def Device.offerCap (n tsrc t : Nat) (arg : Nat → Bool) (d : Device) : Device :=
  let u := d.capt n
  if u.state != 0 && u.tsrc == tsrc && arg u.targ then
    d.modCap n fun u => { u with offers := u.offers ++ [(t, true)] }
  else d

end Sys2Proof.Machine
end

