-- ==== Sys2Proof/Machine/DdrSched.lean ====
section
/-! DEFINITION. The DDR5 scheduler: addresses, queues, owed refreshes, row-hammer counts and the command slot (R364 to R373). -/

namespace Sys2Proof.Machine

/-! ### DDR5 addresses -/

/-- The DDR5 location of an address (R364): channel, rank r, bank (group and index), bank index, row. -/
structure DLoc where
  ch : Nat
  rank : Nat
  bank : Nat
  bidx : Nat
  row : Nat
deriving DecidableEq, Repr

def Device.ddrLoc (d : Device) (a : Nat) : DLoc :=
  let o := (a - 0x1000000000) / 128
  let two := 2 ≤ d.get DDR_STAT_ARR
  let ch := if two then o % 2 else 0
  let o := if two then o / 2 else o
  let o := o / 128
  let bgf := o % 8
  let bk := o / 8 % 4
  let o := o / 32
  let rk := if d.ddr.ranks2 then o % 2 else 0
  let o := if d.ddr.ranks2 then o / 2 else o
  let dm := if d.get DDR_STAT_ARR == 3 then o % 2 else 0
  let row := if d.get DDR_STAT_ARR == 3 then o / 2 else o
  ⟨ch, 2 * dm + rk, (bxor bgf (row % 8)) * 4 + bk, bk, row⟩

/-- Is the address outside the usable DDR5 space (R364). -/
def Device.ddrOut (d : Device) (a n : Nat) : Bool :=
  !d.on DDR_STAT_AVAIL || d.get DDR_STAT_CAPGIB * 2 ^ 30 < a - 0x1000000000 + n

def Device.modDdr (c : Nat) (f : DdrCh → DdrCh) (d : Device) : Device :=
  { d with ddr := { d.ddr with ch := d.ddr.ch.modify c f } }
def Device.ddrCh (d : Device) (c : Nat) : DdrCh := d.ddr.ch.getD c {}

/-- The channel's queue is full: the request stalls at its master (R367). -/
def Device.ddrFull (d : Device) (a : Nat) : Bool := 128 ≤ (d.ddrCh (d.ddrLoc a).ch).queue.length

/-- A request enters its channel's queue (R366); the write drain begins when the queued writes reach WRHI. It abandons a self-refresh entry whose command has not been issued (R379). -/
def Device.ddrPush (a : Nat) (write : Bool) (d : Device) : Device :=
  let c := (d.ddrLoc a).ch
  let d := if (d.ddrCh c).entering then d.bump (DDR_SRCNT_ABANDON c) 1 else d
  let hi := d.get DDR_SCHEDCFG_WRHI
  let d := d.modDdr c fun x =>
    let q := x.queue ++ [⟨a / 64 * 64, write, 0⟩]
    { x with queue := q, entering := false, drain := x.drain || decide (hi ≤ (q.filter fun y => y.write).length) }
  d.set (DDR_CHSTAT_QUSED c) (d.ddrCh c).queue.length

/-! ### Arrangement -/

/-- Channels present in the arrangement, and ranks of a channel (R361, R362). -/
def Device.ddrHas (c : Nat) (d : Device) : Bool :=
  d.on DDR_STAT_AVAIL && (c == 0 || (c == 1 && 2 ≤ d.get DDR_STAT_ARR))
def Device.ddrRanks (d : Device) : List Nat :=
  let one := if d.ddr.ranks2 then [0, 1] else [0]
  if d.get DDR_STAT_ARR == 3 then one ++ one.map (2 + ·) else one
/-- All-bank refresh (R369). -/
def Device.allBank (d : Device) : Bool := d.get DDR_STAT_ARR == 3
/-- The refresh units of a rank: its four bank indices, or the whole rank as index 0 (R369). -/
def Device.refreshUnits (d : Device) : List Nat := if d.allBank then [0] else [0, 1, 2, 3]

/-! ### Refresh -/

def DdrCh.debtOf (x : DdrCh) (r u : Nat) : Nat :=
  ((x.debt.find? fun e => e.1 == r && e.2.1 == u).map (·.2.2)).getD 0
def DdrCh.setDebt (r u n : Nat) (x : DdrCh) : DdrCh :=
  { x with debt := (if n == 0 then [] else [(r, u, n)]) ++ x.debt.filter fun e => !(e.1 == r && e.2.1 == u) }

/-- DDR_RKSTAT.DEBT shows the highest bank index (R383). -/
def Device.showDebt (c r : Nat) (d : Device) : Device :=
  d.set (DDR_RKSTAT_DEBT c r) (d.refreshUnits.foldl (fun m u => max m ((d.ddrCh c).debtOf r u)) 0)

/-- The limit of DEBT (R370). -/
def Device.debtLimit (c r : Nat) (d : Device) : Nat :=
  if d.on (DDR_RKSTAT_DOUBLED c r) then 8
  else let p := d.get DDR_REFCFG_POSTMAX; if 1 ≤ p && p ≤ 8 then p else 8

/-- `n` refreshes issued ahead of requests (R371): counted, event 206 for the first since the count was read. -/
def Device.forcedRefresh (c n : Nat) (d : Device) : Device :=
  if n == 0 then d
  else
    let first := d.get (DDR_REFFORCE_CNT c) == 0
    let d := d.bump (DDR_REFFORCE_CNT c) n
    if first then d.raise 206 else d

/-- One refresh of unit `u` of rank `r` is issued; the rows of those banks are closed (R366). -/
def Device.issueRefresh (c r u : Nat) (d : Device) : Device :=
  let all := d.allBank
  (d.modDdr c fun x =>
    { x.setDebt r u (x.debtOf r u - 1) with
      open_ := x.open_.filter fun o => !(o.1 == r && (all || o.2.1 % 4 == u)) }).showDebt c r

/-! ### Row-hammer (R372, R373) -/

/-- The entry with the lowest count, the lowest row on a tie. -/
def lowestRh : List RhEntry → Option RhEntry
  | [] => none
  | e :: t => match lowestRh t with
    | some f => if e.count < f.count || (e.count == f.count && e.row < f.row) then some e else some f
    | none => some e

/-- An activate of a row (R372): the table after it and the row's count. -/
def DdrCh.touch (rank bank row : Nat) (x : DdrCh) : DdrCh × Nat :=
  let mine := fun (e : RhEntry) => e.rank == rank && e.bank == bank
  match x.rh.find? fun e => mine e && e.row == row with
  | some e => ({ x with rh := x.rh.map fun f => if f = e then { e with count := e.count + 1 } else f }, e.count + 1)
  | none =>
    if (x.rh.filter mine).length < 64 then ({ x with rh := x.rh ++ [⟨rank, bank, row, 1⟩] }, 1)
    else match lowestRh (x.rh.filter mine) with
      | some e => ({ x with rh := x.rh.map fun f => if f = e then ⟨rank, bank, row, e.count + 1⟩ else f }, e.count + 1)
      | none => (x, 0)

/-- An activate, and the action it makes due (R373). -/
def Device.activate (c rank bank row : Nat) (d : Device) : Device :=
  let (x, n) := (d.ddrCh c).touch rank bank row
  let x := if d.on DDR_CTL_RH_EN && max 64 (d.get DDR_RHCFG_THR) ≤ n then
      { x with
        rh := x.rh.map fun e => if e.rank == rank && e.bank == bank && e.row == row then { e with count := 0 } else e
        acts := x.acts ++ [(rank, bank, row)] }
    else x
  d.modDdr c fun _ => x

/-- A row-hammer action is issued (R373): directed refresh management, or the four neighbours. -/
def Device.rhAction (c rank bank row : Nat) (d : Device) : Device :=
  let d := d.modDdr c fun x => { x with acts := x.acts.drop 1 }
  let first := !(d.ddrCh c).rhSeen
  let d := d.modDdr c fun x => { x with rhSeen := true }
  let d := if d.on (DDR_CHSTAT_DRFM c) && !d.on DDR_RHCFG_NODRFM then d.bump (DDR_RHCNT_DRFM c) 1
    else
      let top := if d.ddr.dens32 then 131072 else 65536
      let ns := ([(row : Int) - 2, (row : Int) - 1, (row : Int) + 1, (row : Int) + 2]).filter fun x => 0 ≤ x && x < top
      let d := ns.foldl (fun d x => d.activate c rank bank x.toNat) d
      let d := d.modDdr c fun x => { x with open_ := x.open_.filter fun o => !(o.1 == rank && o.2.1 == bank) }
      d.bump (DDR_RHCNT_NBR c) 1
  if first then d.raise 203 else d

/-! ### The command slot (R365, R366) -/

/-- The requests that no older request to the same line precedes, with their places in the queue. -/
def eligible : List DReq → Nat → List Nat → List (Nat × DReq)
  | [], _, _ => []
  | q :: t, i, seen => if seen.contains q.line then eligible t (i + 1) seen else (i, q) :: eligible t (i + 1) (q.line :: seen)

/-- The request that a slot serves (R366). -/
def Device.pick (c : Nat) (d : Device) : Option (Nat × DReq) :=
  let x := d.ddrCh c
  let qs := eligible x.queue 0 []
  let hit := fun (q : Nat × DReq) => let l := d.ddrLoc q.2.line; x.open_.contains (l.rank, l.bank, l.row)
  let pref := fun (q : Nat × DReq) => q.2.write == x.drain
  let late := fun (q : Nat × DReq) => max 1 (d.get DDR_SCHEDCFG_BYPASS) ≤ q.2.bypassed
  [qs.find? late, qs.find? fun q => hit q && pref q, qs.find? hit, qs.find? pref, qs.head?].findSome? id

/-- Serves the request at place `i`: its row is opened, the older ones are bypassed, the drain follows (R366). -/
def Device.serveDdr (c i : Nat) (q : DReq) (d : Device) : Device :=
  let l := d.ddrLoc q.line
  let open_ := (d.ddrCh c).open_.contains (l.rank, l.bank, l.row)
  let d := if open_ then d
    else (d.modDdr c fun x =>
      { x with open_ := (l.rank, l.bank, l.row) :: x.open_.filter fun o => !(o.1 == l.rank && o.2.1 == l.bank) }).activate c l.rank l.bank l.row
  let hi := d.get DDR_SCHEDCFG_WRHI
  let lo := d.get DDR_SCHEDCFG_WRLO
  let d := d.modDdr c fun x =>
    let older := (x.queue.take i).map fun y => { y with bypassed := y.bypassed + 1 }
    let rest := older ++ x.queue.drop (i + 1)
    let w := (rest.filter fun y => y.write).length
    { x with queue := rest, drain := if hi ≤ w then true else if w ≤ lo then false else x.drain,
             emptyAt := if rest.isEmpty then d.dt else x.emptyAt }
  d.set (DDR_CHSTAT_QUSED c) (d.ddrCh c).queue.length

/-- A refresh that may not wait: rank and unit (R370). -/
def Device.mustRefresh (c : Nat) (d : Device) : Option (Nat × Nat) :=
  ((d.ddrCh c).debt.find? fun e => d.debtLimit c e.1 ≤ e.2.2).map fun e => (e.1, e.2.1)

/-- Row DDR_COMMAND_SLOT (R366, R370, R373): a refresh that may not wait, an action, a request, or in idle time a postponed refresh. -/
def Device.ddrSlot (c : Nat) (d : Device) : Device :=
  if !d.ddrHas c || d.on (DDR_CHSTAT_SR c) then d
  else match d.mustRefresh c with
    | some (r, u) => (d.issueRefresh c r u).forcedRefresh c 1
    | none => match (d.ddrCh c).acts with
      | a :: _ => d.rhAction c a.1 a.2.1 a.2.2
      | [] => match d.pick c with
        | some (i, q) => d.serveDdr c i q
        | none => match (d.ddrCh c).debt with
          | e :: _ => d.issueRefresh c e.1 e.2.1
          | [] => d

/-! ### A full queue (R367, R379) -/

/-- Command slots of channel `c` pass, at most `n`, until its queue has room. -/
def Device.ddrDrain (c : Nat) : Nat → Device → Device
  | 0, d => d
  | n + 1, d => if (d.ddrCh c).queue.length < 128 then d else (d.ddrSlot c).ddrDrain c n

/-- A request that meets a full queue waits at its master while the channel serves what it holds; one in self-refresh leaves it. -/
def Device.ddrRoom (a : Nat) (d : Device) : Device :=
  if d.ddrFull a then
    let c := (d.ddrLoc a).ch
    (d.setB (DDR_CHSTAT_SR c) false).ddrDrain c 64
  else d

end Sys2Proof.Machine
end

