-- ==== Sys2Proof/Machine/Mem.lean ====
section
/-! DEFINITION. Memory: the canonical cell list, targets, region registers, ECC, and the one read, write and atomic through which every master reaches the banks and DDR5 space (R342 to R352, R363, R364, R374 to R376, R465, R466). -/

namespace Sys2Proof.Machine

def Device.rd (d : Device) (a n : Nat) : Nat := memRead d.mem a n
/-- The `n` bytes from `a` on. -/
def Device.bytesAt (d : Device) (a n : Nat) : List Nat := toBytes n (d.rd a n)

/-! ### Targets and regions -/

/-- The target of an address (R343, R465). -/
def targetOf (x : Nat) : Option Nat :=
  if x < 0x3000000 then some (x / 0x300000)
  else if x < 0x3800000 then some 16
  else if x < 0x3C00000 then some 17
  else if x < 0x3E00000 then some 18
  else if x < 0x4000000 then some 19
  else if 0x40000000 ≤ x && x < 0x50000000 then some 21
  else if 0x1000000000 ≤ x && x < 0x5000000000 then some 20
  else none

/-- Is a register-space address inside a block (R465). -/
def assignedReg (x : Nat) : Bool :=
  (0x40000000 ≤ x && x < 0x400F0000) || (0x41000000 ≤ x && x < 0x41080000) ||
    (0x42000000 ≤ x && x < 0x43000000)

/-- A region (R343): granules [base, limit). -/
structure Region where
  en : Bool
  pinned : Bool
  trap : Bool
  r : Bool
  w : Bool
  a : Bool
  x : Bool
  base : Nat
  limit : Nat
deriving DecidableEq, Repr

/-- The trap save area of cluster `k` (R254, R345). -/
def Device.trapArea (d : Device) (k : Nat) : Nat := targetBase k + (d.clus k).get MCE_TSBASE_BASE

/-- The fixed regions of R345. -/
def Device.fixedRegion (d : Device) (m t i : Nat) : Option Region :=
  if m < 16 && t == m && i == 7 then
    some ⟨true, true, true, true, true, false, false, d.trapArea m / 4096, d.trapArea m / 4096 + 4⟩
  else if m == 35 && t == 19 && i == 0 then
    some ⟨true, true, false, true, true, true, false, 0x3E00, 0x3E40⟩
  else none

/-- The words MEM_RLO and MEM_RHI of a region (R360). -/
def Region.lo (g : Region) : Nat :=
  b2n g.en * 2 ^ 31 + b2n g.pinned * 2 ^ 30 + b2n g.trap * 2 ^ 29 + g.base % 2 ^ 28
def Region.hi (g : Region) : Nat :=
  b2n g.r * 2 ^ 31 + b2n g.w * 2 ^ 30 + b2n g.a * 2 ^ 29 + b2n g.x * 2 ^ 28 + g.limit % 2 ^ 28
def Region.ofWords (lo hi : Nat) : Region :=
  ⟨bit lo 31, bit lo 30, bit lo 29, bit hi 31, bit hi 30, bit hi 29, bit hi 28, lo % 2 ^ 28, hi % 2 ^ 28⟩

/-- A region as its registers read. -/
def Device.regionShown (d : Device) (m t i : Nat) : Region :=
  match d.fixedRegion m t i with
  | some g => g
  | none =>
    ⟨d.on (MEM_RLO_EN m t i), d.on (MEM_RLO_PINNED m t i), false, d.on (MEM_RHI_R m t i),
      d.on (MEM_RHI_W m t i), d.on (MEM_RHI_A m t i), d.on (MEM_RHI_X m t i),
      d.get (MEM_RLO_BASE m t i), d.get (MEM_RHI_LIMIT m t i)⟩

/-- Number of a region in the register block. -/
def regionKey (m t i : Nat) : Nat := (m * 22 + t) * 8 + i

/-- The region that decides an access arriving now (R347): a write counts from 1 µs after it. -/
def Device.region (d : Device) (m t i : Nat) : Region :=
  match d.fixedRegion m t i with
  | some g => g
  | none =>
    match d.regWait.find? fun e => e.1 == regionKey m t i && d.dt < e.2.1 with
    | some e => Region.ofWords e.2.2.1 e.2.2.2
    | none => d.regionShown m t i

def Region.covers (g : Region) (gr : Nat) : Bool := g.en && g.base ≤ gr && gr < g.limit

/-- Does the region grant the access kind: 0 read, 1 write, 2 atomic, 3 fetch, 4 burst read, 5 burst write (R344). -/
def Region.grants (g : Region) (kind : Nat) : Bool :=
  match kind with
  | 0 => g.r | 4 => g.r | 1 => g.w | 5 => g.w | 2 => g.a | 3 => g.x | _ => false

/-- R344: is the access to granule `gr` of target `t` performed. `frame` marks a trap-frame access of a sequencer. -/
def Device.allowed (d : Device) (m t kind gr : Nat) (frame : Bool) : Bool :=
  ((List.range 8).any fun i => (d.region m t i).covers gr && ((d.region m t i).grants kind || (frame && i == 7))) &&
    !(t < 16 && (d.region t t 7).covers gr && !(frame && m == t) && !(m == 35 && (kind == 0 || kind == 4))) &&
    !(t == 19 && 0x3E00 ≤ gr && gr < 0x3E40 && m != 35)

/-- A refused access is counted and reported (R346, R466); target 31 stands for none. -/
def Device.refuse (m t kind a : Nat) (d : Device) : Device :=
  let d := d.bump MEM_AECNT_CNT 1
  let d := if d.on MEM_AEINFO_VALID then d
    else ((((d.setB MEM_AEINFO_VALID true).set MEM_AEINFO_KIND kind).set MEM_AEINFO_TARGET t).set MEM_AEINFO_ADDR a).set MEM_AEMAST_MASTER m
  d.raise 195

/-! ### ECC -/

/-- The unit of ECC that holds `a`: the 8-byte word on chip, the 64-byte line in DDR5 space. -/
def eccUnit (t a : Nat) : Nat := if t == 20 then a / 64 * 64 else a / 8 * 8

/-- A correctable error found at unit `u` by a read (R351, R375). -/
def Device.corrected (t u : Nat) (d : Device) : Device :=
  if t == 20 then
    let l := d.ddrLoc u
    let dev := ((d.soft.find? fun e => e.1 == u).map (·.2)).getD 0
    let first := !d.on (DDR_CEINFO_VALID l.ch)
    let d := d.bump (DDR_ECCCNT_CE l.ch l.rank) 1
    let d := if first then
        (((d.setB (DDR_CEINFO_VALID l.ch) true).set (DDR_CEINFO_DEV l.ch) dev).set (DDR_CEINFO_RANK l.ch) l.rank).set (DDR_CEINFO_ADDR l.ch) u
      else d
    let d := { d with soft := d.soft.filter fun e => decide (e.1 ≠ u) }
    if first then d.raise 199 else d
  else
    let first := !d.on MEM_ECCSTAT_CE
    let d := d.bump (MEM_ECCCNT_CE t) 1
    let d := if first then (d.setB MEM_ECCSTAT_CE true).raise 192 else d
    if d.on MEM_CTL_SCRUBWB && !d.wback.contains u then { d with wback := d.wback ++ [u] } else d

/-- An uncorrectable error found at unit `u` by a read of master `m` (R352, R376). -/
def Device.uncorrectable (m t u : Nat) (d : Device) : Device :=
  if t == 20 then
    let l := d.ddrLoc u
    let d := d.bump (DDR_ECCCNT_UE l.ch l.rank) 1
    let d := if d.on (DDR_UEINFO_VALID l.ch) then d
      else ((d.setB (DDR_UEINFO_VALID l.ch) true).set (DDR_UEINFO_MASTER l.ch) m).set (DDR_UEINFO_ADDR l.ch) u
    d.raise 200
  else
    let d := (d.bump (MEM_ECCCNT_UE t) 1).setB MEM_ECCSTAT_UE true
    let d := if d.on MEM_UEADDR_VALID then d
      else ((d.setB MEM_UEADDR_VALID true).set MEM_UEADDR_MASTER m).set MEM_UEADDR_ADDR u
    d.raise 193

/-- The units of ECC that an access touches. -/
def unitsOf (t a n : Nat) : List Nat :=
  let w := if t == 20 then 64 else 8
  (List.range ((a + max n 1 - 1) / w - a / w + 1)).map fun i => (a / w + i) * w

/-- A write has replaced or rewritten the units: a correctable error in them is gone, and a write-back is dropped (R351). -/
def Device.rewritten (us : List Nat) (d : Device) : Device :=
  { d with soft := d.soft.filter fun e => !us.contains e.1, wback := d.wback.filter fun u => !us.contains u }

/-! ### The background test's hold -/

/-- Does the access touch the slice that the background test has borrowed (R354, R356). -/
def Device.stalled (d : Device) (a n : Nat) : Bool :=
  d.on MEM_BTSTAT_BORROWED && a < 0x4000000 && a / 4096 ≤ d.get MEM_BTCUR_SLICE &&
    d.get MEM_BTCUR_SLICE ≤ (a + max n 1 - 1) / 4096

/-! ### Display watch -/

/-- Every write into the span of a layer during its active scan is counted (R461). -/
def Device.tear (a n : Nat) (d : Device) : Device :=
  (List.range 2).foldl (fun d o =>
    match d.dsp.val[o]? with
    | none => d
    | some x =>
      if !d.on (DSP_STAT_ACTIVE o) || x.blank then d
      else (List.range 3).foldl (fun d l =>
        match x.layers[l]? with
        | some y =>
          if y.en && y.fmt != 3 && a < y.addr + y.stride * y.h && y.addr < a + n then
            (d.bump (DSP_TEAR_CNT_CNT o l) 1).raise (302 + o) else d
        | none => d) d) d

/-! ### The three accesses -/

/-- An answer of memory: data and error, 0 none, 1 access refused, 2 uncorrectable, 3 stalled (borrowed slice, or DDR5 queue full). -/
structure Ans where
  data : Nat
  err : Nat
deriving DecidableEq, Repr

/-- What stands in the way of an access, if anything: refusals are reported (R344, R346, R364). A full DDR5 queue serves until it has room (R367). -/
def Device.gate (m kind a n : Nat) (frame : Bool) (d : Device) : Device × Nat :=
  match targetOf a with
  | none => (d.refuse m 31 kind a, 1)
  | some t =>
    if t == 21 || !d.allowed m t kind (a / 4096) frame || !d.allowed m t kind ((a + max n 1 - 1) / 4096) frame then (d.refuse m t kind a, 1)
    else if t == 20 && d.ddrOut a n then ((d.bump DDR_OORCNT_CNT 1).raise 202, 1)
    else if d.stalled a n then (d, 3)
    else if t == 20 then
      let d := d.ddrRoom a
      (d, if d.ddrFull a then 3 else 0)
    else (d, 0)

/-- A read of `n` bytes by master `m` (kind 0 read, 3 fetch, 4 burst). A refused read returns 0 (R346). -/
def Device.readMem (m kind a n : Nat) (d : Device) : Device × Ans :=
  match d.gate m kind a n false with
  | (d, 0) =>
    let t := (targetOf a).getD 31
    let us := unitsOf t a n
    let d := if t == 20 then d.ddrPush a false else d
    match us.find? fun u => d.bad.contains u with
    | some u => (d.uncorrectable m t u, ⟨0, 2⟩)
    | none =>
      let d := us.foldl (fun d u => if d.soft.any fun e => e.1 == u then d.corrected t u else d) d
      (d, ⟨d.rd a n, 0⟩)
  | (d, e) => (d, ⟨0, e⟩)

/-- The effect of a write that is performed: bytes, check bits, display watch (R352, R461). -/
def Device.store (t a n v : Nat) (d : Device) : Device :=
  let us := unitsOf t a n
  let d := d.rewritten us
  let whole := us.filter fun u => a ≤ u && u + (if t == 20 then 64 else 8) ≤ a + n
  ({ d with mem := memWrite a v n d.mem, bad := d.bad.filter fun u => !whole.contains u } : Device).tear a n

/-- A write of `n` bytes by master `m` (kind 1 write, 5 burst). A partial write to an uncorrectable word is not performed (R352, R376). -/
def Device.writeMem (m kind a n v : Nat) (frame : Bool) (d : Device) : Device × Ans :=
  match d.gate m kind a n frame with
  | (d, 0) =>
    let t := (targetOf a).getD 31
    let w := if t == 20 then 64 else 8
    let us := unitsOf t a n
    let d := if t == 20 then d.ddrPush a true else d
    if us.any fun u => d.bad.contains u && !(a ≤ u && u + w ≤ a + n) then
      (if t == 20 then d.raise 201 else (d.setB MEM_ECCSTAT_PWDROP true).raise 194, ⟨0, 2⟩)
    else (d.store t a n v, ⟨0, 0⟩)
  | (d, e) => (d, ⟨0, e⟩)

/-- An atomic of `n` bytes at a bank (R350): `f` takes the old value to the new one. An uncorrectable word is left as it is. -/
def Device.atomicMem (m a n : Nat) (f : Nat → Nat) (d : Device) : Device × Ans :=
  match d.gate m 2 a n false with
  | (d, 0) =>
    let t := (targetOf a).getD 31
    let u := eccUnit t a
    if d.bad.contains u then (d.uncorrectable m t u, ⟨0, 2⟩)
    else
      let d := if d.soft.any fun e => e.1 == u then d.corrected t u else d
      let old := d.rd a n
      (d.store t a n (f old % 2 ^ (8 * n)), ⟨old, 0⟩)
  | (d, e) => (d, ⟨0, e⟩)

/-- Reads `ns` words of `n` bytes from `a` on; the first error stops the run. -/
def Device.readWords (m kind n : Nat) : Nat → Nat → Device → Device × List Nat × Nat
  | 0, _, d => (d, [], 0)
  | k + 1, a, d =>
    match d.readMem m kind a n with
    | (d, ⟨v, 0⟩) => match d.readWords m kind n k (a + n) with | (d, vs, e) => (d, v :: vs, e)
    | (d, ⟨_, e⟩) => (d, [], e)

end Sys2Proof.Machine
end

