-- ==== Sys2Proof/Machine/Beacon.lean ====
section
/-! DEFINITION. The timebase, device time, the Beacon bus and Fefitil time transfer (R50 to R76). -/

namespace Sys2Proof.Machine

def Device.bc (f : Beacon → Beacon) (d : Device) : Device := { d with bcn := f d.bcn }
def Device.role (d : Device) : Nat := d.get DEV_POS_ROLE

/-! ### Reference and holdover -/

/-- The first choice of R50 that is qualified: 1 REFIN, 2 Beacon clock; none when there is none. -/
def Device.refChoice (d : Device) : Option Nat :=
  if d.role == 1 then (if d.on BCN_STAT_CLK_LOCK then some 2 else none)
  else if d.on TB_CTL_REFIN_EN && d.on TB_REFIN_QUAL then some 1 else none

/-- The timebase moves to holdover without a phase step (R52). -/
def Device.holdover (d : Device) : Device :=
  let d := ((d.set TB_STAT_SRC 3).setB TB_STAT_REF_LOST true)
  (({ d with tb := { d.tb with pullIn := none, heldFrom := some d.dt } } : Device).raise 224).raise 226

/-- The selected reference has been lost (R51, R52); the Beacon clock loses its lock with it (R71). -/
def Device.refLoss (d : Device) : Device :=
  match d.get TB_STAT_SRC with
  | 1 => ((d.setB TB_REFIN_QUAL false).setB TB_REFIN_PRESENT false).holdover
  | 2 => ((d.setB BCN_STAT_CLK_LOCK false).raise 232).holdover
  | _ => { d with tb := { d.tb with pullIn := none } }

/-- A reference completes qualification (R51): 1 REFIN with its frequency, offset and level, 2 the Beacon clock. If it is the first choice of the role, a timebase in holdover begins pull-in by steering (R52, R55). -/
def Device.refQualify (src : Nat) (f100 : Bool) (ofs amp : Int) (d : Device) : Device :=
  let d := if src == 1 then
      ((((d.setB TB_REFIN_QUAL true).setB TB_REFIN_PRESENT true).setB TB_REFIN_FREQ f100).set TB_REFIN_FOFS (uns 16 ofs)).set TB_REFIN_AMP (uns 8 amp)
    else d.setB BCN_STAT_CLK_LOCK true
  if d.refChoice == some src && d.get TB_STAT_SRC == 3 then { d with tb := { d.tb with pullIn := some src } } else d

/-- Lock bit of island `i`, 1 to 25 (R58, R79). -/
def Device.setIsland (i : Nat) (b : Bool) (d : Device) : Device :=
  d.set TB_ISLOCK_LOCK (setBit (d.get TB_ISLOCK_LOCK) (i - 1) b)

/-- The timebase first locks (R53, R54): DT starts counting if it was not. -/
def Device.tbLock (d : Device) : Device :=
  match d.refChoice with
  | some src =>
    if d.tb.locked then d
    else
      let d := ((((d.set TB_STAT_SRC src).setB TB_STAT_LOCKED true).setB TB_STAT_DT_VALID true).setB TB_STAT_FREERUN false).set TB_HOLDUNC_UNC 0
      { d.setIsland 1 true with tb := { d.tb with locked := true, pullIn := none, heldFrom := none } }
  | none => d

/-- No reference qualified within 2 s of boot (R52, R54). -/
def Device.freerun (d : Device) : Device :=
  if d.tb.locked || d.on TB_STAT_DT_VALID || d.refChoice.isSome then d
  else
    let d := ((d.set TB_STAT_SRC 3).setB TB_STAT_FREERUN true).setB TB_STAT_DT_VALID true
    ({ d.setIsland 1 true with tb := { d.tb with heldFrom := some d.dt } } : Device).raise 226

/-- Pull-in to a re-qualified reference completes (R52): TB_HOLDUNC freezes, event 225. -/
def Device.refRegained (d : Device) : Device :=
  match d.tb.pullIn with
  | some src =>
    let d := ((d.set TB_STAT_SRC src).setB TB_STAT_LOCKED true).setB TB_STAT_FREERUN false
    ({ d with tb := { d.tb with locked := true, pullIn := none, heldFrom := none } } : Device).raise 225
  | none => d

/-- TB_HOLDUNC clears (R53). -/
def Device.clearUnc (d : Device) : Device :=
  let d := d.set TB_HOLDUNC_UNC 0
  { d with tb := { d.tb with heldFrom := d.tb.heldFrom.map fun _ => d.dt } }

/-- Growth of TB_HOLDUNC over one whole millisecond (R53); whether the MEMS die drifted by at most 1 °C per minute in it is not something a register shows (log entry 20). -/
def Device.uncStep (d : Device) (ms : Nat) : Nat :=
  if d.on TB_STAT_FREERUN then 2000 else if Config.memsStable ms then 5 else 20

/-- One millisecond in fine steps. -/
def msLen : Nat := 204800000

/-- What passing from `d.dt` to the next tick adds to TB_HOLDUNC (R53). -/
def Device.holdGrow (d : Device) : Device :=
  match d.tb.heldFrom with
  | some h =>
    if (d.dt - h) / msLen < (d.dt + 128 - h) / msLen then
      d.set TB_HOLDUNC_UNC (satInc 32 (d.get TB_HOLDUNC_UNC) (d.uncStep ((d.dt + 128 - h) / msLen)))
    else d
  | none => d

/-! ### Device time -/

/-- The device is idle (R56). -/
def Device.idle (d : Device) : Bool :=
  (d.cl.all fun x => (x.thr.all fun t => t.state == 0) && (x.cap.all fun c => c.get CAP_STAT_STATE == 0)) &&
    (d.ch.all fun c => !c.on CH_SNFSTAT_EN && !c.on CH_RSTAT_PEND && (List.range 4).all fun j => !c.on (CH_ESCTL_ARMED j)) &&
    d.bcn.execs.isEmpty

/-- A step of DT changes the Taper grid at the end of the period in progress (R83). -/
def Device.gridMoved (d : Device) : Device :=
  { d with afe := d.afe.map fun x => if x.on AFE_TPRSTAT_RUN then { x with staged := true } else x }

/-- The next tick boundary: DT advances by one tick, or takes the value loaded or stepped (R54, R56, R57, R68). -/
def Device.tickDt (d : Device) : Device :=
  match d.tb.load, d.tb.stepBy with
  | some v, _ => ({ d with dt := v, tb := { d.tb with load := none, stepBy := none } } : Device).gridMoved
  | none, some r =>
    ({ d.holdGrow with dt := ((d.dt : Int) + 128 + r).toNat, tb := { d.tb with stepBy := none } } : Device).gridMoved
  | none, none => { d.holdGrow with dt := d.dt + 128 }

/-- The reaction to a write of the high word of TB_DTSET (R56). -/
def Device.dtSet (d : Device) : Device :=
  if d.role != 1 && d.idle then
    let v := d.get TB_DTSET_VALUE / 128 * 128
    let d := (d.setB TB_STAT_DTSET_DONE true).clearUnc
    let d := { d with tb := { d.tb with load := some v } }
    if d.role == 2 then d.bc fun b => { b with downQ := { typ := 4, payload := 3 } :: b.downQ } else d
  else (d.setB TB_STAT_DTSET_REJ true).raise 228

/-! ### Timing islands -/

/-- An island loses lock (R58). -/
def Device.islandUnlock (i : Nat) (d : Device) : Device :=
  if i == 0 || 25 < i || !bit (d.get TB_ISLOCK_LOCK) (i - 1) then d
  else
    let d := (d.setIsland i false).raise 229
    if i == 1 then ((d.setB TB_STAT_LOCKED false).raise 227).snuffWhere 11 fun _ => true
    else if i ≤ 9 then d.snuffWhere 11 fun n => n / 128 == i - 2
    else d

/-- An island relocks (R58). -/
def Device.islandRelock (i : Nat) (d : Device) : Device :=
  if i == 0 || 25 < i then d
  else
    let d := d.setIsland i true
    if i == 1 && d.tb.locked then d.setB TB_STAT_LOCKED true else d

/-! ### Role -/

/-- Boot step 5 fixes the role (R60, R21): the request of the boot control block, the Beacon clock on BCN_IN, a termination on BCN_OUT. -/
def Device.roleDecide (clk term : Bool) (d : Device) : Device :=
  if d.roleDone then d
  else
    let r := if d.get BCN_CTL_ROLE_REQ == 1 then 0 else if clk then 1 else if term then 2 else 0
    let d := { d.set DEV_POS_ROLE r with roleDone := true }
    let d := if r == 1 then (d.setB BCN_STAT_CLK_LOCK true).setB DEV_POS_VALID false else d.setB DEV_POS_VALID true
    if r == 2 then (d.setB BCN_STAT_ALIGNED true).bc fun b => { b with enumPos := some 1, found := 0, offeredAt := none }
    else d

/-- The firmware saves ROLE_REQ to the boot control block (R60). -/
def Device.roleSave (d : Device) : Device :=
  if d.roleDirty then { d with bootRole := d.get BCN_CTL_ROLE_REQ, roleDirty := false } else d

/-! ### Frames -/

/-- The 20 bytes of a downstream frame (R62, R63); the comma is given by its 8-bit value. -/
def BFrame.bytes (f : BFrame) : List Nat :=
  let c := [f.typ, f.dest, f.seq] ++ toBytes 8 f.execAt ++ toBytes 6 f.payload
  [0xBC] ++ c ++ toBytes 2 (crc16 c)

/-- The 12 bytes of an owned-slot or reply frame, and the 5 of an ESTOP (R62). -/
def upBytes (typ origin payload : Nat) : List Nat :=
  let c := [typ, origin] ++ toBytes 7 payload
  [0xBC] ++ c ++ toBytes 2 (crc16 c)
def upEstopBytes (origin : Nat) : List Nat := [0xBC, 0x86, origin] ++ toBytes 2 (crc16 [0x86, origin])

/-- Position of this device on the bus. -/
def Device.pos (d : Device) : Nat := d.get DEV_POS_DEVICE

/-- A frame with a good CRC has been received: message lock (R71, R80). -/
def Device.heard (d : Device) : Device :=
  (d.setB BCN_STAT_MSG_LOCK true).bc fun b => { b with lastFrame := d.dt }

/-- A bad CRC (R63): discarded, counted; it is still repeated. -/
def Device.beaconBad (d : Device) : Device :=
  (d.setB BCN_STAT_CRC_ERR true).bump BCN_CNT_CRCCNT 1

/-- An execute-at message is scheduled at EXEC_AT (R69). -/
def Device.schedExec (e : BExec) (d : Device) : Device := d.bc fun b => { b with execs := putExec e b.execs }

/-- The low 56 bits of the identity fingerprint (R64, R422). -/
def idLow : Nat := (Config.identity 0 % 2 ^ 32 + Config.identity 1 % 2 ^ 32 * 2 ^ 32) % 2 ^ 56

/-- The kind of execute-at of a downstream TYPE (R64). -/
def execKind (typ : Nat) : Option Nat :=
  match typ with | 5 => some 0 | 7 => some 1 | 6 => some 2 | _ => none

/-- A 2 µs cycle starts at the master (R61, R65): a reply window's cycle is silent; otherwise the first queued frame goes out, or an addressed frame of enumeration or calibration, or IDLE. -/
def Device.beaconCycle (d : Device) : Device :=
  if d.role != 2 || d.dt % (2 * usLen) != 0 then d
  else if d.bcn.hush == 2 then d.bc fun b => { b with hush := 1, down := [] }
  else
    let addr := d.bcn.hush == 0
    let d := d.bc fun b => { b with hush := 0 }
    let send := fun (f : BFrame) (d : Device) =>
      let f := { f with seq := d.bcn.seq % 256 }
      d.bc fun b => { b with down := f.bytes, seq := (b.seq + 1) % 256 }
    match d.bcn.downQ with
    | f :: rest =>
      let d := d.bc fun b => { b with downQ := rest }
      match execKind f.typ with
      | some k =>
        let at_ := max f.execAt (d.dt + d.lead)
        let d := if k ≤ 1 && !f.relayed then d.evrelIssue k (f.payload % 256) at_ else d
        (send { f with execAt := at_ } d).schedExec ⟨k, f.payload % 256, f.payload / 256 % 256, at_⟩
      | none => send (if f.typ == 4 then { f with execAt := d.dt } else f) d
    | [] =>
      match addr, d.bcn.enumPos, d.bcn.cal with
      | true, some p, _ =>
        if d.bcn.offeredAt.isSome then send { typ := 0 } d
        else (send { typ := 1, dest := 0xFF, payload := p } d).bc fun b => { b with offeredAt := some d.dt, hush := 2 }
      | true, none, some c =>
        (send { typ := 2, dest := c.pos } d).bc fun b => { b with t1 := d.dt, hush := 2 }
      | _, _, _ => send { typ := 0 } d

/-- A member receives IDLE and repeats it (R63). -/
def Device.beaconIdle (d : Device) : Device := if d.role == 1 then d.heard else d

/-- A member receives ENUM at frame instant `d.dt` (R65, R66): without a position it takes the one offered and replies; the overflow probe 0xFF gives none. -/
def Device.beaconEnum (p : Nat) (d : Device) : Device :=
  if d.role != 1 then d
  else
    let d := d.heard
    let has := d.on DEV_POS_VALID
    let answer := fun d : Device => d.bc fun b => { b with reply := some (d.dt + usLen, 0x81, idLow) }
    if !has && 1 ≤ p && p ≤ 15 then answer ((d.set DEV_POS_DEVICE p).setB DEV_POS_VALID true)
    else if !has && p == 0xFF then answer d
    else if has && d.pos == p then answer d
    else d

/-- The addressed member receives DREQ, stamped `t2` (R65, R67): it replies 1,000 ns later with that turnaround. -/
def Device.beaconDreq (dest t2 : Nat) (d : Device) : Device :=
  if d.role == 1 && d.on DEV_POS_VALID && d.pos == dest then
    d.heard.bc fun b => { b with reply := some (t2 + usLen, 0x82, usLen) }
  else d

/-- A member receives OFFSET (R67). -/
def Device.beaconOffset (dest dp : Nat) (d : Device) : Device :=
  if d.role == 1 && d.on DEV_POS_VALID && d.pos == dest then
    (d.heard.set BCN_DELAY_D dp).setB BCN_STAT_CAL_DONE true
  else d

/-- A member receives EPOCH, stamped `arr` (R68): the residual, then a step, steering, or the loss of alignment. -/
def Device.beaconEpoch (execAt arr : Nat) (set_ force : Bool) (d : Device) : Device :=
  if d.role != 1 then d
  else
    let d := d.heard
    if !d.on BCN_STAT_CAL_DONE then d
    else
      let r : Int := (execAt : Int) + (d.get BCN_DELAY_D : Int) - arr
      let d := d.set BCN_RESID_RES (uns 32 r)
      if set_ && (!d.on BCN_STAT_ALIGNED || force) then
        { (d.setB BCN_STAT_ALIGNED true).clearUnc with tb := { d.tb with stepBy := some r } }
      else if r.natAbs ≤ 64 then d
      else if d.on BCN_STAT_ALIGNED then (d.setB BCN_STAT_ALIGNED false).raise 234
      else d

/-- ENUM_ACK reaches the master (R66): the next position is offered; after position 15 the overflow probe; an answer to the probe is an overflow and ends enumeration. -/
def Device.enumEnd (d : Device) : Device :=
  let n := d.bcn.found
  let d := (d.set BCN_STAT_MEMBERS n).bc fun b => { b with enumPos := none, offeredAt := none }
  let d := d.raise 237
  if n == 0 then d else d.bc fun b => { b with cal := some ⟨1, 0, 0⟩ }

def Device.beaconEnumAck (d : Device) : Device :=
  if d.role != 2 then d
  else match d.bcn.enumPos, d.bcn.offeredAt with
    | some p, some _ =>
      if p == 255 then ((d.setB BCN_STAT_OVERFLOW true).raise 238).enumEnd
      else d.bc fun b => { b with found := p, enumPos := some (if p == 15 then 255 else p + 1), offeredAt := none }
    | _, _ => d

/-- No ENUM_ACK for 64 cycles: enumeration ends (R66). -/
def Device.enumTimeout (d : Device) : Device :=
  if d.role != 2 then d
  else match d.bcn.enumPos, d.bcn.offeredAt with
    | some _, some t => if t + 64 * 2 * usLen ≤ d.dt then d.enumEnd else d
    | _, _ => d

/-- A DRSP reaches the master, stamped `t4` (R67). After 256 exchanges d_p is stored and sent, and the next member follows; after the last one a SET epoch goes out (R68). -/
def Device.beaconDrsp (t4 turn : Nat) (d : Device) : Device :=
  if d.role != 2 then d
  else match d.bcn.cal with
    | none => d
    | some c =>
      let rtt : Int := (t4 : Int) - d.bcn.t1 - turn
      let c := { c with n := c.n + 1, sum := c.sum + rtt }
      if c.n < 256 then d.bc fun b => { b with cal := some c }
      else
        let dp := (roundDiv c.sum 512).toNat
        let last := d.get BCN_STAT_MEMBERS ≤ c.pos
        let d := d.set (BCN_MDLY_D c.pos) dp
        d.bc fun b =>
          { b with
            cal := if last then none else some ⟨c.pos + 1, 0, 0⟩
            downQ := b.downQ ++ [{ typ := 3, dest := c.pos, payload := dp }] ++
              (if last then [{ typ := 4, payload := 1 }] else []) }

/-- TRIG_REQ or SYNC_REQ reaches the master, which reissues it downstream (R70). -/
def Device.beaconReq (kind num origin : Nat) (d : Device) : Device :=
  if d.role == 2 then
    d.bc fun b => { b with downQ := b.downQ ++ [{ typ := 5 + 2 * kind, payload := num % 256 + 256 * origin }] }
  else d

/-- An upstream ESTOP arrives (R70): the master issues ESTOP downstream ahead of other frames; a member forwards the one from downstream. -/
def Device.beaconEstopUp (origin : Nat) (d : Device) : Device :=
  match d.role with
  | 2 => d.bc fun b => { b with downQ := { typ := 6, payload := origin } :: b.downQ }
  | 1 => d.bc fun b => { b with upEstop := some origin }
  | _ => d

/-- A member transmits upstream (R61): its reply when due (0), its ESTOP in the ESTOP slot (1), or its request in its owned slot (2). The instants are its own DT, its delay d_p ahead of the arrival. -/
def Device.beaconUp (which : Nat) (d : Device) : Device :=
  let b := d.bcn
  let arr := (d.dt + d.get BCN_DELAY_D) % (2 * usLen)
  if d.role != 1 then d
  else match which with
    | 0 => match b.reply with
      | some (due, typ, pl) =>
        if due ≤ d.dt then d.bc fun b => { b with reply := none, up := upBytes typ d.pos pl } else d
      | none => d
    | 1 => match b.upEstop with
      | some o => if d.on BCN_STAT_ALIGNED && 14 * usLen ≤ 10 * arr && 10 * arr < 14 * usLen + 1280 then
          d.bc fun b => { b with upEstop := none, up := upEstopBytes o } else d
      | none => d
    | _ => match b.upQ with
      | (typ, num) :: rest => if d.on BCN_STAT_ALIGNED && 16 * usLen ≤ 10 * arr && 10 * arr < 16 * usLen + 1280 then
          d.bc fun b => { b with upQ := rest, up := upBytes typ d.pos num } else d
      | [] => d

/-- BCN_CMD on a master (R66 to R68, R80): 0 ENUM, 1 RECAL, 2 SET_EPOCH. -/
def Device.bcnCmd (op : Nat) (d : Device) : Device :=
  if d.role != 2 then d
  else match op with
    | 0 => d.bc fun b => { b with enumPos := some 1, found := 0, offeredAt := none, cal := none }
    | 1 => if d.get BCN_STAT_MEMBERS == 0 then d else d.bc fun b => { b with cal := some ⟨1, 0, 0⟩ }
    | _ => d.bc fun b => { b with downQ := b.downQ ++ [{ typ := 4, payload := 1 }] }

/-- The CHECK-epoch period elapses at the master (R68, R80). -/
def Device.epochTimer (d : Device) : Device :=
  if d.role == 2 && d.on BCN_CTL_EPOCH_EN && d.bcn.epochAt + max 10 (d.get BCN_EPOCHPER_MS) * msLen ≤ d.dt then
    d.bc fun b => { b with downQ := b.downQ ++ [{ typ := 4, payload := 0 }], epochAt := d.dt }
  else d

/-- No valid frame for 10 µs at a member (R71). -/
def Device.msgLoss (d : Device) : Device :=
  if d.role == 1 && d.on BCN_STAT_MSG_LOCK && d.bcn.lastFrame + 10 * usLen ≤ d.dt then
    let d := (d.setB BCN_STAT_MSG_LOCK false).raise 233
    if d.on BCN_CTL_ESTOP_ON_LOSS then d.snuffAll 17 else d
  else d

/-- A member loses the Beacon clock (R71): holdover, alignment kept. -/
def Device.clkLoss (d : Device) : Device :=
  if d.role == 1 && d.on BCN_STAT_CLK_LOCK then
    let d := (d.setB BCN_STAT_CLK_LOCK false).raise 232
    if d.get TB_STAT_SRC == 2 then d.holdover else d
  else d

/-! ### Fefitil time transfer -/

/-- A link end sends its timing exchange of the millisecond (R73). -/
def Device.fefSend (l : Nat) (d : Device) : Device :=
  if d.on (FEF_TTSTAT_LOCK l) then d.modFef l fun x => { x with t1 := d.dt } else d

/-- Does link `l` steer the timebase (R72): a master or stand-alone device with exactly one upstream link, and that one trusted. -/
def Device.steers (d : Device) (l : Nat) : Bool :=
  d.role != 1 && ((List.range 4).filter fun i => d.get (FEF_TTCTL_DIR i) == 1) == [l] && d.on (FEF_TTSTAT_TRUSTED l)

/-- Insertion into a rising list, and the doubled median of a list. -/
def insertInt (x : Int) : List Int → List Int
  | [] => [x]
  | y :: t => if x ≤ y then x :: y :: t else y :: insertInt x t
def median2 (xs : List Int) : Int :=
  let s := xs.foldr insertInt []
  s.getD ((xs.length - 1) / 2) 0 + s.getD (xs.length / 2) 0

/-- Trust of link `l` changes and its event is raised (R74). -/
def Device.setTrust (l : Nat) (b : Bool) (d : Device) : Device :=
  if d.on (FEF_TTSTAT_TRUSTED l) == b then d else (d.setB (FEF_TTSTAT_TRUSTED l) b).raise (240 + l)

/-- The firmware's correction through TB_DTSET of an offset above one tick (R74). -/
def Device.fixOffset (l : Nat) (d : Device) : Device :=
  if (d.flink l).fixOfs && d.steers l && d.idle then
    let v := ((d.dt : Int) + sgn 32 (d.get (FEF_TTOFS_OFS l))).toNat
    ((d.set TB_DTSET_VALUE v).dtSet).modFef l fun x => { x with fixOfs := false, hist := [] }
  else d

/-- A timing exchange completes on link `l` (R73, R74): stamps, CRC and the uncertain mark; offset, delay, cleanness and trust. -/
def Device.fefFrame (l t1 t2 t3 t4 : Nat) (crcOk unc : Bool) (d : Device) : Device :=
  if 4 ≤ l || !d.on (FEF_TTSTAT_LOCK l) then d
  else
    let x := d.flink l
    let f : Int := (t2 : Int) - t1
    let b : Int := (t4 : Int) - t3
    let rtt := ((t4 : Int) - t1) - ((t3 : Int) - t2)
    let ofs2 := f - b - sgn 32 (d.get (FEF_TTASYM_ASYM l))
    let near := x.hist.isEmpty || 10 * (2 * rtt - median2 (x.hist.map (·.2))).natAbs ≤ 4096
    if crcOk && !unc && near then
      let hist := ((ofs2, rtt) :: x.hist).take 16
      let mean := openDiv (hist.foldl (fun a p => a + p.1) 0) (2 * hist.length : Nat)
      let d := (d.set (FEF_TTOFS_OFS l) (uns 32 mean)).set (FEF_TTDLY_DLY l) (uns 32 (openDiv rtt 2))
      let d := d.bump (FEF_TTSTAT_CLEAN l) 1
      let d := d.modFef l fun x => { x with hist := hist, unclean := 0 }
      let was := d.on (FEF_TTSTAT_TRUSTED l)
      let d := if 16 ≤ d.get (FEF_TTSTAT_CLEAN l) then d.setTrust l true else d
      let d := if !was && d.steers l && 128 < mean.natAbs then
          (d.modFef l fun x => { x with fixOfs := true }).raise 244 else d
      let d := if d.steers l && d.on TB_CTL_STEER_EN && mean.natAbs < 128 then d.clearUnc else d
      d.fixOffset l
    else
      let n := min 4 (x.unclean + 1)
      let d := (d.set (FEF_TTSTAT_CLEAN l) 0).modFef l fun x => { x with unclean := n }
      if n == 4 then d.setTrust l false else d

/-- The link restarts untrusted after bring-up or a retrain (R74). -/
def Device.fefRestart (l : Nat) (d : Device) : Device :=
  let d := (d.set (FEF_TTSTAT_CLEAN l) 0).setTrust l false
  d.modFef l fun x => { x with hist := [], unclean := 0, fixOfs := false }

/-- A link finishes training or loses it (row FEF_LINK_CHANGE). -/
def Device.fefLink (l : Nat) (up : Bool) (d : Device) : Device :=
  if 4 ≤ l then d else (d.setB (FEF_TTSTAT_LOCK l) up).fefRestart l

/-- An event message of PTP, stamped at the PHY with one-tick resolution, gives TAI time `tai` in ns and an uncertainty (R76). -/
def Device.ptp (tai unc : Nat) (changed : Bool) (d : Device) : Device :=
  let ns := openDiv ((d.dt / 128 : Nat) * 5) 8
  let d := (d.set TB_WALL_NS (uns 64 ((tai : Int) - ns))).set TB_WALLUNC_NS unc
  if changed then d.raise 248 else d

end Sys2Proof.Machine
end

