-- ==== Sys2Proof/Machine/Keccak.lean ====
section
/-! DEFINITION. SHAKE256 over byte lists (FIPS 202), the hash of R320, R322, R412 and R416. -/

namespace Sys2Proof.Machine

/-- Rotation of a 64-bit lane to the left. -/
def rotl64 (v n : Nat) : Nat := (v * 2 ^ (n % 64)) % 2 ^ 64 + v / 2 ^ (64 - n % 64)

/-- Round constants of Keccak-f[1600]. -/
def keccakRC : List Nat :=
  [0x0000000000000001, 0x0000000000008082, 0x800000000000808A, 0x8000000080008000,
   0x000000000000808B, 0x0000000080000001, 0x8000000080008081, 0x8000000000008009,
   0x000000000000008A, 0x0000000000000088, 0x0000000080008009, 0x000000008000000A] ++
  [0x000000008000808B, 0x800000000000008B, 0x8000000000008089, 0x8000000000008003,
   0x8000000000008002, 0x8000000000000080, 0x000000000000800A, 0x800000008000000A,
   0x8000000080008081, 0x8000000000008080, 0x0000000080000001, 0x8000000080008008]

/-- Rotation offsets of lane x + 5 y. -/
def keccakRho : List Nat :=
  [0, 1, 62, 28, 27, 36, 44, 6, 55, 20, 3, 10, 43, 25, 39, 41, 45, 15, 21, 8, 18, 2, 61, 56, 14]

def lane (s : List Nat) (x y : Nat) : Nat := s.getD (x % 5 + 5 * (y % 5)) 0

/-- One round. -/
def keccakRound (s : List Nat) (rc : Nat) : List Nat :=
  let c := (List.range 5).map fun x =>
    bxor (bxor (bxor (bxor (lane s x 0) (lane s x 1)) (lane s x 2)) (lane s x 3)) (lane s x 4)
  let t := (List.range 25).map fun i =>
    let x := i % 5
    bxor (s.getD i 0) (bxor (c.getD ((x + 4) % 5) 0) (rotl64 (c.getD ((x + 1) % 5) 0) 1))
  -- rho and pi: lane (x, y) of B comes from lane (x + 3 y, x) of A
  let b := (List.range 25).map fun i =>
    let j := (i % 5 + 3 * (i / 5)) % 5 + 5 * (i % 5)
    rotl64 (t.getD j 0) (keccakRho.getD j 0)
  (List.range 25).map fun i =>
    let x := i % 5
    let y := i / 5
    let v := bxor (lane b x y) (band (2 ^ 64 - 1 - lane b (x + 1) y) (lane b (x + 2) y))
    if i = 0 then bxor v rc else v

def keccakF (s : List Nat) : List Nat := keccakRC.foldl keccakRound s

/-- Absorbs one block of 136 bytes. -/
def absorb (s block : List Nat) : List Nat :=
  keccakF (s.mapIdx fun i v => if i < 17 then bxor v (ofBytes ((block.drop (8 * i)).take 8)) else v)

/-- Absorbs a padded message of `n` blocks. -/
def absorbAll : Nat → List Nat → List Nat → List Nat
  | 0, _, s => s
  | n + 1, bs, s => absorbAll n (bs.drop 136) (absorb s (bs.take 136))

/-- The padding of SHAKE256 after a message of `n` bytes. -/
def shakePad (n : Nat) : List Nat :=
  let k := 136 - n % 136
  if k = 1 then [0x9F] else 0x1F :: List.replicate (k - 2) 0 ++ [0x80]

/-- The first 32 bytes of SHAKE256 of a message. -/
def shake256 (msg : List Nat) : List Nat :=
  let bs := msg ++ shakePad msg.length
  ((absorbAll (bs.length / 136) bs (List.replicate 25 0)).take 4).flatMap (toBytes 8)

end Sys2Proof.Machine
end

