-- ==== Sys2Proof/Machine/CellTable.lean ====
section
/-! DEFINITION. The cell table, its cache, leaves, batches, carrier map, replication, K-value and grading (R319 to R327, R416). -/

namespace Sys2Proof.Machine

/-! ### The record (R319): a 128-byte image as one number -/

def cellId (m : Nat) : Nat := bits m 0 64
def cellState (m : Nat) : Nat := bits m 64 8
def cellUpd (m : Nat) : Nat := bits m 640 64
def cellBatch (m : Nat) : Nat := bits m 128 64
def cellLcn (m : Nat) : Nat := bits m 608 21
def cellCarrier (m : Nat) : Nat := bits m 704 48
def cellNoform (m : Nat) : Bool := bit m 91
/-- Bits [lo + w − 1 : lo] of an image replaced, several at once. -/
def setFields (m : Nat) (fs : List (Nat × Nat × Nat)) : Nat := fs.foldl (fun m f => setBits m f.1 f.2.1 f.2.2) m
/-- The cell IDs that are refused (R319). -/
def badId (id : Nat) : Bool := id == 0 || id == 2 ^ 64 - 1

/-! ### The cell cache (R321) -/

/-- Copies `n` lines of 64 B as the cell-table engine. Answers the first error. -/
def Device.copyLines : Nat → Nat → Nat → Device → Device × Nat
  | 0, _, _, d => (d, 0)
  | n + 1, a, b, d =>
    match d.readMem 33 4 a 64 with
    | (d, ⟨v, 0⟩) =>
      match d.writeMem 33 5 b 64 v false with
      | (d, ⟨_, 0⟩) => Device.copyLines n (a + 64) (b + 64) d
      | (d, ⟨_, e⟩) => (d, e)
    | (d, ⟨_, e⟩) => (d, e)

/-- The bank address of a cache line: set and way in order (log entry 44). -/
def lineAddr (l : CLine) : Nat := 0x3800000 + (l.bucket % 1024 * 4 + l.way) * 1024

/-- The DDR5 address of bucket `b` (R319). -/
def Device.bucketAddr (b : Nat) (d : Device) : Nat := d.get CT_BASE_ADDR + b * 0x400

def Device.modCt (f : CellTab → CellTab) (d : Device) : Device := { d with ct := f d.ct }

/-- Brings bucket `b` into the cache (R321): a hit becomes most recently used; a miss takes a free way of its set or the least recently used one, written back when dirty. Answers an error and the line's address. -/
def Device.ctLine (b : Nat) (d : Device) : Device × Nat × Nat :=
  match d.ct.lines.find? fun l => l.bucket == b with
  | some l => (d.modCt fun t => { t with lines := l :: t.lines.erase l }, 0, lineAddr l)
  | none =>
    let d := d.bump CT_CNT_CCMISS 1
    let set := d.ct.lines.filter fun l => l.bucket % 1024 == b % 1024
    let free := (List.range 4).find? fun w => !(set.any fun l => l.way == w)
    let (d, e, way) := match free, set.getLast? with
      | some w, _ => (d, 0, w)
      | none, some v =>
        if v.dirty then
          match d.copyLines 16 (lineAddr v) (d.bucketAddr v.bucket) with
          | (d, e) => (d.modCt fun t => { t with lines := t.lines.erase v }, e, v.way)
        else (d.modCt fun t => { t with lines := t.lines.erase v }, 0, v.way)
      | none, none => (d, 0, 0)
    if e != 0 then (d, e, 0)
    else
      let l : CLine := ⟨way, b, false⟩
      match d.copyLines 16 (d.bucketAddr b) (lineAddr l) with
      | (d, 0) => (d.modCt fun t => { t with lines := l :: t.lines }, 0, lineAddr l)
      | (d, e) => (d, e, 0)

/-- The image of record handle `h` (bucket × 8 + slot), through the cache. -/
def Device.ctRead (h : Nat) (d : Device) : Device × Nat × Nat :=
  match d.ctLine (h / 8) with
  | (d, 0, a) => match d.readMem 33 4 (a + h % 8 * 128) 128 with | (d, r) => (d, r.err, r.data)
  | (d, e, _) => (d, e, 0)

/-- Stores an image at handle `h`; its line becomes dirty. -/
def Device.ctWrite (h m : Nat) (d : Device) : Device × Nat :=
  match d.ctLine (h / 8) with
  | (d, 0, a) =>
    match d.writeMem 33 5 (a + h % 8 * 128) 128 m false with
    | (d, r) => (d.modCt fun t => { t with lines := t.lines.map fun l => if l.bucket == h / 8 then { l with dirty := true } else l }, r.err)
  | (d, e, _) => (d, e)

/-- Row CT_FLUSH_DONE: every dirty line is written back (R321). -/
def Device.ctFlushLines : List CLine → Device → Device × Nat
  | [], d => (d, 0)
  | l :: t, d =>
    if l.dirty then
      match d.copyLines 16 (lineAddr l) (d.bucketAddr l.bucket) with
      | (d, 0) => Device.ctFlushLines t (d.modCt fun x =>
          { x with lines := x.lines.map fun y => if y.bucket == l.bucket then { y with dirty := false } else y })
      | (d, e) => (d, e)
    else Device.ctFlushLines t d

def Device.ctFlushDone (d : Device) : Device :=
  if !d.on CT_STAT_FLUSHBUSY then d
  else match d.ctFlushLines d.ct.lines with
    | (_, 3) => d
    | (d, _) => d.setB CT_STAT_FLUSHBUSY false

/-- CT_CTL.EN has been set (R321): the cache is invalid and the recount begins. -/
def Device.ctEnable (d : Device) : Device :=
  (d.modCt fun t => { t with lines := [] }).setB CT_STAT_RECOUNT true

/-- The record slots of the table that hold a cell, counted over the listed bytes: `last` is the slot counted last. -/
def liveCount (base : Nat) : Option Nat → List Host.Cell → Nat
  | _, [] => 0
  | last, c :: t =>
    if base ≤ c.1 && c.1 < base + 0x8000000 && (c.1 - base) % 128 < 8 && last != some ((c.1 - base) / 128) then
      1 + liveCount base (some ((c.1 - base) / 128)) t
    else liveCount base last t

/-- Row CT_RECOUNT_DONE (R321). -/
def Device.ctRecountDone (d : Device) : Device :=
  if d.on CT_STAT_RECOUNT then
    (d.set CT_STAT_LIVE (liveCount (d.get CT_BASE_ADDR) none d.mem)).setB CT_STAT_RECOUNT false
  else d

/-! ### The index (R320) -/

/-- Bucket `b_j` of a cell. -/
def Device.ctHash (j id : Nat) (d : Device) : Nat :=
  let key := (List.range 4).flatMap fun w => toBytes 4 (d.get (if j == 0 then CT_HKEY0_KEY w else CT_HKEY1_KEY w))
  ofBytes ((shake256 (key ++ toBytes 8 id)).take 4) % 2 ^ 17

/-- The cell IDs of the eight records of bucket `b`. -/
def Device.ctIds (b : Nat) (d : Device) : Device × Nat × List Nat :=
  match d.ctLine b with
  | (d, 0, a) =>
    match d.readMem 33 4 a 1024 with
    | (d, ⟨v, 0⟩) => (d, 0, (List.range 8).map fun r => bits v (1024 * r) 64)
    | (d, ⟨_, e⟩) => (d, e, [])
  | (d, e, _) => (d, e, [])

/-- Looks a cell up in both buckets (R320). Answers an error and its handle. -/
def Device.ctFind (id : Nat) (d : Device) : Device × Nat × Option Nat :=
  let b0 := d.ctHash 0 id
  let b1 := d.ctHash 1 id
  match d.ctIds b0 with
  | (d, 0, xs) =>
    match xs.findIdx? (· == id) with
    | some r => (d, 0, some (b0 * 8 + r))
    | none =>
      match d.ctIds b1 with
      | (d, 0, ys) => (d, 0, (ys.findIdx? (· == id)).map (b1 * 8 + ·))
      | (d, e, _) => (d, e, none)
  | (d, e, _) => (d, e, none)

/-- A free slot for a new cell: in the bucket that holds fewer records, a tie to b_0 (R320). None with FULL, counted and reported. -/
def Device.ctSlot (id : Nat) (d : Device) : Device × Nat × Option Nat :=
  let b0 := d.ctHash 0 id
  let b1 := d.ctHash 1 id
  match d.ctIds b0 with
  | (d, 0, xs) =>
    match d.ctIds b1 with
    | (d, 0, ys) =>
      let n0 := (xs.filter (· != 0)).length
      let n1 := (ys.filter (· != 0)).length
      if 8 ≤ n0 && 8 ≤ n1 then ((d.bump CT_CNT_FULL 1).raise 263, 0, none)
      else if n1 < n0 then (d, 0, (ys.findIdx? (· == 0)).map (b1 * 8 + ·))
      else (d, 0, (xs.findIdx? (· == 0)).map (b0 * 8 + ·))
    | (d, e, _) => (d, e, none)
  | (d, e, _) => (d, e, none)

def Device.ctLive (n : Int) (d : Device) : Device := d.set CT_STAT_LIVE ((d.get CT_STAT_LIVE : Int) + n).toNat

/-! ### Leaves and batches (R322) -/

/-- Queues a device record (R415). -/
def Device.putRecord (kind lcn idx dt : Nat) (data : List Nat) (d : Device) : Device :=
  { d with records := d.records ++ [{ kind := kind, typ := 0, lcn := lcn, idx := idx, dt := dt, data := data }] }

/-- Must a change that needs a leaf stall (R322, R415). -/
def Device.leafStall (d : Device) : Bool :=
  4 ≤ d.ct.closed.length || (d.on SEC_RECCFG_LEAFREC && 256 ≤ d.records.length)

/-- Closes the open batch unless it is empty (R322). -/
def Device.closeBatch (d : Device) : Device :=
  if d.ct.leaves.isEmpty then d
  else
    let n := d.get CT_BATCH_NUM
    let d := d.modCt fun t => { t with leaves := [], closed := t.closed ++ [⟨n, t.leaves, d.dt⟩] }
    (((d.set CT_BATCH_NUM (n + 1)).set CT_BSTAT_LEAVES 0).set CT_BSTAT_QUEUED d.ct.closed.length).raise 264

/-- MAXLEAF and MAXMS within their ranges (R341). -/
def Device.maxLeaf (d : Device) : Nat := max 1 (min 4096 (d.get CT_SEALCFG_MAXLEAF))
def Device.maxMs (d : Device) : Nat := max 1 (min 10000 (d.get CT_SEALCFG_MAXMS))

/-- Sends a local change on every link that replicates its new state (R324). -/
def Device.replicate (m : Nat) (d : Device) : Device :=
  (List.range 4).foldl (fun d l =>
    if d.on (CT_REPCTL_TX l) && 1 ≤ cellState m && bit (d.get (CT_REPCTL_STATEMASK l)) (cellState m - 1) then
      d.fefQueue l 3 (toBytes 128 m ++ toBytes 8 (cellCarrier m) ++ toBytes 4 (d.lcn 0) ++
        toBytes 8 (cellUpd m) ++ toBytes 4 (b2n (d.on (CT_REPCTL_MAPTX l))))
    else d) d

/-- A changed image takes its place in the open batch (R322): BATCH, LEAF and UPDDT are written, SEALED and REPL clear, the leaf is hashed. `free` frees the slot after a retire. Answers the first memory error. -/
def Device.ctChange (h m : Nat) (free : Bool) (d : Device) : Device × Nat :=
  let i := d.ct.leaves.length
  let m := setFields m [(96, 12, i), (128, 64, d.get CT_BATCH_NUM), (640, 64, d.dt), (93, 1, 0), (92, 1, 0)]
  let m := if free then setBits m 64 8 0 else m
  match d.ctWrite h (if free then 0 else m) with
  | (d, 0) =>
    let leaf : Leaf := ⟨h, d.dt, shake256 (toBytes 128 m)⟩
    let d := d.modCt fun t => { t with first := if t.leaves.isEmpty then d.dt else t.first, leaves := t.leaves ++ [leaf] }
    let d := d.set CT_BSTAT_LEAVES (i + 1)
    let d := if d.on SEC_RECCFG_LEAFREC then d.putRecord 3 (cellLcn m) i d.dt (toBytes 128 m) else d
    let d := d.replicate m
    (if (d.on CT_CTL_AUTOSEAL && d.maxLeaf ≤ i + 1) || 4096 ≤ i + 1 then d.closeBatch else d, 0)
  | (d, e) => (d, e)

/-- Row BATCH_AGE_CLOSE (R322). -/
def Device.batchAgeClose (d : Device) : Device :=
  if d.on CT_CTL_AUTOSEAL && !d.ct.leaves.isEmpty && d.ct.first + d.maxMs * 1000 * usLen ≤ d.dt then d.closeBatch else d

/-- One level of the Merkle tree (R416). -/
def merkleLevel : List (List Nat) → List (List Nat)
  | a :: b :: t => shake256 (1 :: a ++ b) :: merkleLevel t
  | xs => xs

/-- The root: levels until one node remains. -/
def merkleRoot : Nat → List (List Nat) → List Nat
  | 0, xs => xs.headD []
  | n + 1, xs => if xs.length ≤ 1 then xs.headD [] else merkleRoot n (merkleLevel xs)

/-- The identity fingerprint (R410). -/
def identityBytes : List Nat := (List.range 8).flatMap fun w => toBytes 4 (Config.identity w)

/-- The seal message of a batch (R416). -/
def Device.sealMessage (b : Batch) (d : Device) : List Nat :=
  toBytes 4 1 ++ toBytes 4 b.leaves.length ++ toBytes 8 b.num ++ toBytes 8 ((b.leaves.head?.map (·.upd)).getD 0) ++
    toBytes 8 b.closeAt ++ toBytes 8 (d.get TB_WALL_NS) ++ toBytes 4 (d.get TB_WALLUNC_NS) ++ toBytes 4 0 ++
    identityBytes ++ merkleRoot 13 (b.leaves.map (·.digest))

/-- Sets SEALED in the records that still carry the batch and leaf (R322). -/
def Device.markSealed (num : Nat) : Nat → List Leaf → Device → Device × Nat
  | _, [], d => (d, 0)
  | i, l :: t, d =>
    match d.ctRead l.handle with
    | (d, 0, m) =>
      if cellId m != 0 && cellBatch m == num && bits m 96 12 == i then
        match d.ctWrite l.handle (setBits m 93 1 1) with
        | (d, 0) => Device.markSealed num (i + 1) t d
        | (d, e) => (d, e)
      else Device.markSealed num (i + 1) t d
    | (d, e, _) => (d, e)

/-- Row BATCH_SIGNED: the signature of the oldest closed batch, given by the security engine (R322, R415, R416). It waits while the record queue is full; without an identity nothing is signed (R419). -/
def Device.batchSigned (sig : List Nat) (d : Device) : Device :=
  match d.ct.closed with
  | [] => d
  | b :: rest =>
    if 256 ≤ d.records.length || d.on SEC_STAT_IDERR then d
    else match d.markSealed b.num 0 b.leaves with
      | (_, 3) => d
      | (d, _) =>
        let d := d.putRecord 2 (d.lcn 0) 0 b.closeAt (d.sealMessage b ++ sig)
        let d := d.modCt fun t => { t with closed := rest }
        ((d.set CT_SEALDONE_NUM b.num).set CT_BSTAT_QUEUED rest.length).raise 265

/-! ### Carrier map (R323) -/

/-- The cell ID of a carrier; none with event 267 on a miss. -/
def Device.carrierCell (car : Nat) (d : Device) : Device × Nat × Option Nat :=
  match d.readMem 33 0 (d.get CT_CMBASE_ADDR + 16 * (car % 4096)) 16 with
  | (d, ⟨_, 3⟩) => (d, 3, none)
  | (d, ⟨v, e⟩) =>
    if e = 0 && bit v 63 && bits v 0 48 == car % 2 ^ 48 then (d, 0, some (bits v 64 64))
    else (d.raise 267, 0, none)

/-! ### Replication (R324) -/

/-- Row FEF_CELLREC: a received record is applied by UPDDT and originating LCN. -/
def Device.cellRec (l : Nat) (img : Nat) (car lcn upd : Nat) (map : Bool) (d0 : Device) : Device :=
  let d := d0
  let id := cellId img
  if !d.on CT_CTL_EN || !d.on (CT_REPCTL_RX l) || badId id || d.on CT_STAT_RECOUNT then d
  else
    let m := setFields (img % 2 ^ 1024) [(92, 1, 1), (640, 64, upd)]
    let applied := fun d : Device =>
      let d := d.bump (CT_REPSTAT_APPLIED l) 1
      if map && d.on (CT_REPCTL_MAPTX l) && car < 2 ^ 48 - 1 then
        (d.writeMem 33 1 (d.get CT_CMBASE_ADDR + 16 * (car % 4096)) 16 (car + 2 ^ 63 + id * 2 ^ 64) false).1
      else d
    match d.ctFind id with
    | (_, 3, _) => d0
    | (d, 0, some h) =>
      match d.ctRead h with
      | (_, 3, _) => d0
      | (d, 0, old) =>
        if cellUpd old < upd || (cellUpd old == upd && cellLcn old < lcn) then
          match d.ctWrite h m with
          | (_, 3) => d0
          | (d, _) => applied d
        else
          let d := d.bump (CT_REPSTAT_DISCARD l) 1
          if upd < cellUpd old then d.raise 266 else d
      | (d, _, _) => d
    | (d, 0, none) =>
      match d.ctSlot id with
      | (_, 3, _) => d0
      | (d, 0, some h) =>
        match d.ctWrite h m with
        | (_, 3) => d0
        | (d, _) => applied (d.ctLive 1)
      | (d, _, _) => d
    | (d, _, _) => d

/-! ### K-value and grading (R325 to R327) -/

/-- KVAL, or none where K is missing. With Δt = 0 and no minimum the quotient has no stated value: the free value `fv` (log entry 2). -/
def kValue (m kmin fv : Nat) : Option Int :=
  let f := bits m 256 64
  let g := bits m 448 64
  if f == 0 || g < f || g - f < kmin then none
  else if g == f then some (sgn 32 fv)
  else some (sat 32 (roundDiv ((sgn 64 (bits m 384 64) - sgn 64 (bits m 192 64)) * 1728000000000000) ((g - f : Nat) : Int)))

/-- The value of PARAM `p` for an image with state `st` before grading: none when missing (R326). -/
def paramOf (m st p : Nat) : Option Int :=
  let opt := fun v : Nat => if v == 2 ^ 32 - 1 then none else some (v : Int)
  match p with
  | 0 => some (sgn 64 (bits m 384 64))
  | 1 => if bit m 88 then some (sgn 32 (bits m 576 32)) else none
  | 2 => opt (bits m 512 32)
  | 3 => opt (bits m 544 32)
  | 4 => if cellNoform m then none else some (sgn 64 (bits m 320 64))
  | 5 => if cellNoform m then none else some (sgn 64 (bits m 192 64))
  | 6 =>
    let f := bits m 256 64
    if f == 0 then none else some (openDiv ((bits m 448 64 : Nat) - (f : Int)) 204800000000)
  | 7 => some (st : Int)
  | _ => some (sgn 64 (bits m (768 + 64 * (p - 8)) 64))

/-- Bin `v` (256 B as one number): does it match, and does it name a reserved PARAM (R326, R327). -/
def binMatch (v m st : Nat) : Bool × Bool :=
  let ctl := fun r => bits v (8 * (0x40 + 0x18 * r)) 64
  let en := (List.range 8).filter fun r => bit (ctl r) 0
  let bad := en.any fun r => 12 ≤ bits (ctl r) 1 4
  let ok := en.all fun r =>
    match paramOf m st (bits (ctl r) 1 4) with
    | some x => sgn 64 (bits v (8 * (0x48 + 0x18 * r)) 64) ≤ x && x ≤ sgn 64 (bits v (8 * (0x50 + 0x18 * r)) 64)
    | none => bit (ctl r) 5
  (bit v 0 && !bad && ok, bit v 0 && bad)

/-- The first matching bin from `i` on, with its GATE; 63 when none matches (R327). Answers the error, bin and GATE. -/
def Device.gradeFrom (base m st : Nat) : Nat → Nat → Device → Device × Nat × Nat × Nat
  | 0, _, d => (d, 0, 63, 15)
  | n + 1, i, d =>
    match d.readMem 33 4 (base + 256 * i) 256 with
    | (d, ⟨_, 3⟩) => (d, 3, 63, 15)
    | (d, ⟨v, _⟩) =>
      let (hit, bad) := binMatch v m st
      let d := if bad then d.setB CT_STAT_GTERR true else d
      if hit then (d, 0, i, bits v 4 4) else Device.gradeFrom base m st n (i + 1) d

def Device.grade (m st : Nat) (d : Device) : Device × Nat × Nat × Nat :=
  d.gradeFrom (if d.on CT_CTL_GTSEL then d.get CT_GT1BASE_ADDR else d.get CT_GT0BASE_ADDR) m st 63 0

/-! ### The table operations of CTUPD and CTLOOK (R335, R336) -/

/-- The image with the words of `mask` taken from `new`; bit 0 and the engine's fields are ignored (R319, R336). -/
def mergeImage (old new mask : Nat) : Nat :=
  let m := (List.range 16).foldl (fun m w =>
    if w != 0 && bit mask w then setBits m (64 * w) 64 (bits new (64 * w) 64) else m) old
  setFields m [(92, 1, bits old 92 1), (93, 1, bits old 93 1), (96, 12, bits old 96 12), (128, 64, bits old 128 64), (640, 64, bits old 640 64)]

/-- The status codes of R332 that table operations give. -/
def stOk : Nat := 0
def stNotFound : Nat := 1
def stExists : Nat := 2
def stFull : Nat := 3
def stBadId : Nat := 4
def stNoMap : Nat := 5
def stPast : Nat := 6
def stSchFull : Nat := 7
def stOverlap : Nat := 8
def stDisabled : Nat := 9
def stBadReq : Nat := 10

/-- CTUPD: 0 UPDATE, 1 INSERT, 2 UPSERT, 3 RETIRE (R336). Answers a memory error and the status. -/
def Device.ctUpd (op img mask : Nat) (d : Device) : Device × Nat × Nat :=
  let id := cellId img
  if !d.on CT_CTL_EN then (d, 0, stDisabled)
  else if badId id then (d, 0, stBadId)
  else if d.leafStall then (d, 3, 0)
  else match d.ctFind id with
    | (d, 0, some h) =>
      if op == 1 then (d, 0, stExists)
      else match d.ctRead h with
        | (d, 0, old) =>
          if op == 3 then (match d.ctChange h old true with | (d, e) => (d.ctLive (-1), e, stOk))
          else (match d.ctChange h (mergeImage old img mask) false with | (d, e) => (d, e, stOk))
        | (d, e, _) => (d, e, 0)
    | (d, 0, none) =>
      if op == 0 || op == 3 then (d, 0, stNotFound)
      else match d.ctSlot id with
        | (d, 0, some h) =>
          let m := setFields (img % 2 ^ 1024) [(92, 1, 0), (93, 1, 0)]
          (match d.ctChange h m false with | (d, e) => (d.ctLive 1, e, stOk))
        | (d, 0, none) => (d, 0, stFull)
        | (d, e, _) => (d, e, 0)
    | (d, e, _) => (d, e, 0)

/-- A record set to GRADE 63 and RETEST, LATE or COAST as given (R314, R329, R330); `leaf` appends its leaf. Answers a memory error. -/
def Device.retest (id : Nat) (late coast leaf : Bool) (d : Device) : Device × Nat :=
  if leaf && d.leafStall then (d, 3)
  else match d.ctFind id with
    | (d, 0, some h) =>
      match d.ctRead h with
      | (d, 0, m) =>
        let m := setFields m [(64, 8, 4), (72, 8, 63)]
        let m := if late then setBits m 89 1 1 else setBits m 90 1 (b2n coast)
        if leaf then d.ctChange h m false else d.ctWrite h (setBits m 640 64 d.dt)
      | (d, e, _) => (d, e)
    | (d, e, _) => (d, e)

end Sys2Proof.Machine
end

