-- ==== Sys2Proof/Machine/Channels.lean ====
section
/-! DEFINITION. The channel events of the data plane at device level: Taper, calibration, windows, commits, loop updates, formats, lanes (R39, R82 to R100, R109 to R112, R124, R130 to R172). An event whose condition does not hold changes nothing (log entry 1). -/

namespace Sys2Proof.Machine

/-! ### The Taper -/

/-- Chiplet of channel `n` (R19). -/
def chipOf (n : Nat) : Nat := n / 128

/-- Taper period in fine steps. -/
def Afe.period (a : Afe) : Nat := 2 * a.half * frameLen

/-- Position of frame `F` in the Taper period: (F − PHASE) mod (2 × HALF) (R82). -/
def Afe.gridPos (a : Afe) (F : Nat) : Nat := (((F : Int) - a.phase) % ((2 * a.half : Nat) : Int)).toNat

/-- Half-ramp number of frame `F` (R133). -/
def Afe.halfNo (a : Afe) (F : Nat) : Int := ((F : Int) - a.phase) / (a.half : Int)

/-- D of R133: half-ramps in a loop group. -/
def Afe.groupLen (a : Afe) : Nat := (500 + a.half - 1) / a.half

/-- Does a loop group end at DT `t`, a half-ramp start whose number is a multiple of D (R133). -/
def Afe.groupEnds (a : Afe) (t : Nat) : Bool :=
  t % frameLen == 0 && ((t / frameLen : Nat) - (a.phase : Int)) % (a.half : Int) == 0 &&
    a.halfNo (t / frameLen) % (a.groupLen : Int) == 0

/-- The Taper is not ramping: held for a new grid, stopped, or not started (R83, R84). -/
def Afe.held (a : Afe) : Bool := !a.ramping || a.on AFE_TPRSTAT_RETIME || !a.on AFE_TPRSTAT_RUN

/-- HALF within 125 … 250,000 (R82). -/
def halfOf (v : Nat) : Nat := max 125 (min v 250000)

/-- Is DT `t` a half-ramp boundary of the grid in force (R82, R98). -/
def Afe.boundary (a : Afe) (t : Nat) : Bool :=
  t % frameLen == 0 && ((t / frameLen : Nat) - (a.phase : Int)) % (a.half : Int) == 0

/-- The grid a Taper runs on at its next start: the one in force while it ramps, otherwise the registers' (R83). -/
def Afe.grid (a : Afe) : Afe :=
  if a.ramping then a else { a with half := halfOf (a.get AFE_TPRHALF_HALF), phase := a.get AFE_TPRPHASE_PHASE }

/-- A half-ramp starts at a frame boundary (R82 to R84): rising at the grid's start, which also ends a hold; falling half a period later. -/
def Device.halfRampStart (a : Nat) (d : Device) : Device :=
  let x := d.chip a
  let F := d.dt / frameLen
  let pos := x.grid.gridPos F
  if d.dt % frameLen != 0 || !x.on AFE_TPRSTAT_RUN || !bit (d.get TB_ISLOCK_LOCK) (1 + a) then d
  else if pos == 0 && !x.stopping && !(x.ramping && x.staged) then
    d.modAfe a fun x =>
      { x with
        regs := ((x.regs.setB AFE_TPRSTAT_DIR false).setB AFE_TPRSTAT_RETIME false).set AFE_TPRSTART_DT d.dt
        ramping := true
        half := x.grid.half
        phase := x.grid.phase
        staged := if x.ramping then x.staged else false }
  else if pos == x.half && x.ramping then
    d.modAfe a fun x =>
      { x with regs := (x.regs.setB AFE_TPRSTAT_DIR true).set AFE_TPRSTART_DT d.dt }
  else d

/-- The tap check of R87 on nine stamps in crossing order: all present, rising in time, each segment's slope within 2 % of nominal. -/
def Afe.tapCheck (x : Afe) (stamps : List Nat) (falling : Bool) : Bool :=
  let volts := (List.range 9).map fun j => sgn 32 (x.get (AFE_TAPV_V (if falling then 8 - j else j)))
  stamps.length == 9 && (List.range 8).all fun i =>
    let s0 := stamps.getD i 0
    let s1 := stamps.getD (i + 1) 0
    let dc := (volts.getD (i + 1) 0 - volts.getD i 0).natAbs
    let lhs := dc * (x.half * frameLen) * 100
    let nom := 416000000 * (s1 - s0)
    s0 < s1 && 98 * nom ≤ lhs && lhs ≤ 102 * nom

/-- Every input's half-ramp counter since its last VALID I conversion (R146). -/
def Device.countHalves (a : Nat) (d : Device) : Device :=
  d.mapChans (fun n => n / 128 == a) fun c => { c with halves := c.halves + 1 }

/-- The tap check at the end of a half-ramp (R87): TAPERR and event 352 + a on a failure, TAPFAIL4 and the chiplet's snuff after four in a row. -/
def Device.tapResult (a : Nat) (ok : Bool) (d : Device) : Device :=
  if ok then
    d.modAfe a fun x => { x.setB AFE_TPRSTAT_TAPFAIL4 false with badHalves := 0, taperr := false }
  else
    let n := (d.chip a).badHalves + 1
    let d := d.modAfe a fun x => { x.setB AFE_TPRSTAT_TAPERR true with badHalves := min n 4, taperr := true }
    let d := d.raise (352 + a)
    if n == 4 then (d.modAfe a (Afe.setB AFE_TPRSTAT_TAPFAIL4 true)).snuffWhere 10 fun c => c / 128 == a else d

/-- At the end of the period in progress the Taper holds for a staged grid or after a DT step (R83). -/
def Device.taperRetime (a : Nat) (d : Device) : Device :=
  let x := d.chip a
  if d.dt % frameLen == 0 && x.on AFE_TPRSTAT_RUN && x.staged && x.ramping && x.on AFE_TPRSTAT_DIR &&
      x.get AFE_TPRSTART_DT + x.half * frameLen ≤ d.dt then
    d.modAfe a fun x =>
      { x.setB AFE_TPRSTAT_RETIME true with
        ramping := false, staged := false
        half := halfOf (x.get AFE_TPRHALF_HALF), phase := x.get AFE_TPRPHASE_PHASE }
  else d

/-- After an accepted clear of TPR_EN the Taper stops at the end of its half-ramp (R84). -/
def Device.taperStop (a : Nat) (d : Device) : Device :=
  let x := d.chip a
  if x.stopping && d.dt % frameLen == 0 &&
      (!x.ramping || x.get AFE_TPRSTART_DT + x.half * frameLen ≤ d.dt) then
    d.modAfe a fun x =>
      { x with regs := (x.regs.setB AFE_TPRSTAT_RUN false).setB AFE_TPRSTAT_RETIME false,
               ramping := false, stopping := false }
  else d

/-- The reaction to a write of AFE_CTL with TPR_EN = `on_` (R84): clearing is refused with ENREJ while a channel of the chiplet has its enable bit at 1. -/
def Device.taperEnable (a : Nat) (on_ : Bool) (d : Device) : Device :=
  let x := d.chip a
  if on_ then
    d.modAfe a fun x =>
      { x with regs := (x.regs.setB AFE_CTL_TPR_EN true).setB AFE_TPRSTAT_RUN true, stopping := false }
  else if !x.on AFE_CTL_TPR_EN then d
  else if (List.range 128).any fun i => (d.chan (128 * a + i)).on CH_SNFSTAT_EN then
    d.modAfe a (Afe.setB AFE_TPRSTAT_ENREJ true)
  else d.modAfe a fun x => { x.setB AFE_CTL_TPR_EN false with stopping := true }

/-- A vernier TDC group of a chiplet leaves or regains lock (R86, rule 4). -/
def Device.tdcLock (a : Nat) (locked : Bool) (d : Device) : Device :=
  d.modAfe a fun x => { x with tdcBad := !locked }

/-! ### Calibration -/

/-- May the round calibrate the input now (R97): CALMODE 0 always, 1 while disabled or at REST, 2 and 3 never. -/
def Chan.calEligible (c : Chan) : Bool :=
  match c.get CH_MCTL_CALMODE with
  | 0 => true
  | 1 => !c.on CH_SNFSTAT_EN || c.mode == 0
  | _ => false

/-- The head of the round's queue goes on the cal bus: CALB, its comparators masked, 20 µs of BLANK, the Wick cycles of R99 counted (R98, step 1; R111). -/
def Device.calConnect (a : Nat) (d : Device) : Device :=
  match (d.chip a).roundQ with
  | [] => d.modAfe a fun x => { x with onBus := false }
  | (n, isI) :: _ =>
    let t := d.dt + 20 * usLen
    let d := d.modAfe a fun x => { x with onBus := true }
    let d := d.modChan n fun c =>
      if isI then ((({ c with calI := true, irAt := min c.irAt d.dt, blank := max c.blank t } : Chan).mask 2 none).mask 3 none)
      else ((({ c with calV := true, blankV := max c.blankV t } : Chan).mask 0 none).mask 1 none)
    if isI then (d.wick n 2 1).wick n 0 2 else d.wick n 1 1

/-- The inputs of a chiplet that a round takes, in channel order, V first (R97); `all` also takes CALMODE 1 to 3. -/
def Device.roundList (a : Nat) (all : Bool) (d : Device) : List (Nat × Bool) :=
  (List.range 128).flatMap fun i =>
    let n := 128 * a + i
    if all || (d.chan n).calEligible then [(n, false), (n, true)] else []

/-- Starts a calibration round of chiplet `a` (R97, R104 OP = 1); paused while a traceable measurement runs (R100). -/
def Device.startRound (a : Nat) (all : Bool) (d : Device) : Device :=
  let x := d.chip a
  if x.trace.isSome || !x.roundQ.isEmpty then d
  else
    let q := d.roundList a all
    (d.modAfe a fun x => { x with roundQ := q, roundAt := d.dt }).calConnect a

/-- AFE_CALCFG.INTERVAL in minutes, 1 to 60 (R104). -/
def Afe.interval (x : Afe) : Nat := max 1 (min 60 (x.get AFE_CALCFG_INTERVAL))

/-- The calibration interval has elapsed and the firmware starts a round (R97). -/
def Device.calRound (a : Nat) (d : Device) : Device :=
  let x := d.chip a
  if x.roundAt + x.interval * 60 * 204800000000 ≤ d.dt && x.on AFE_TPRSTAT_RUN then d.startRound a false else d

/-- |OFS| ≤ 400,000, GAIN within 0.5 % of 2^30, |DLY| ≤ 2,048 (R98). -/
def coefOk (dly ofs : Int) (gain : Nat) : Bool :=
  dly.natAbs ≤ 2048 && ofs.natAbs ≤ 400000 && 199 * 2 ^ 30 ≤ 200 * gain && 200 * gain ≤ 201 * 2 ^ 30

/-- T-code per fine step at the present slope as numerator and denominator: 416,000,000 over HALF × 8,192 (R98, R100). -/
def Afe.tau (x : Afe) : Int × Int := (416000000, (x.half * frameLen : Nat))

/-- DLY, OFS and GAIN from the means Ar, Af and B of one range, in T-code with 32 fractional bits (R98, steps 3 and 5). -/
def Afe.coefs (x : Afe) (target ar af b : Int) : Int × Int × Nat :=
  let ofs := openDiv (ar + af) (2 ^ 33 : Nat)
  (roundDiv ((ar - af) * x.tau.2) (2 * x.tau.1 * (2 ^ 32 : Nat)), ofs,
    (openDiv ((2 ^ 62 : Nat) * target) (b - ofs * (2 ^ 32 : Nat))).toNat)

/-- Target of step 5 of R98: AFE_CALB for a V-input, AFE_CALIH for range H, ten times AFE_CALIL for range L. -/
def Afe.calTarget (x : Afe) (isI low : Bool) : Int :=
  if !isI then sgn 32 (x.get AFE_CALB_V) else if low then 10 * sgn 32 (x.get AFE_CALIL_I) else sgn 32 (x.get AFE_CALIH_I)

/-- The end of the head input's calibration at a half-ramp boundary (R98, steps 3 to 8): the coefficients follow from the means of the conversions taken, for an I-input those of the range in force and then those of the other; they load together unless one is out of limits, the input leaves the bus with 20 µs of BLANK, the window thresholds are recomputed (R107), the age restarts. -/
def Device.calCoefLoad (a : Nat) (ar af b ar2 af2 b2 : Int) (d : Device) : Device :=
  match (d.chip a).roundQ with
  | [] => d
  | (n, isI) :: rest =>
    let x := d.chip a
    let low := (d.chan n).on CH_MCTL_IRANGE
    if !x.onBus || !x.boundary d.dt then d
    else
      let (dly1, ofs1, gain1) := x.coefs (x.calTarget isI low) ar af b
      let (dly2, ofs2, gain2) := x.coefs (x.calTarget isI !low) ar2 af2 b2
      let ok := coefOk dly1 ofs1 gain1 && (!isI || coefOk dly2 ofs2 gain2)
      let t := d.dt + 20 * usLen
      let d := if ok then d else d.raise (360 + a)
      let d := d.modChan n fun c =>
        let c := if !ok then c
          else if isI then
            let r := ((c.regs.set CH_IDLY_DLY (uns 32 dly2)).set CH_IOFSH_OFS (uns 32 (if low then ofs2 else ofs1))).set CH_IGAINH_GAIN (if low then gain2 else gain1)
            ({ c with regs := (r.set CH_IOFSL_OFS (uns 32 (if low then ofs1 else ofs2))).set CH_IGAINL_GAIN (if low then gain1 else gain2), ageI := some d.dt } : Chan).loadInput true
          else
            let r := ((c.regs.set CH_VDLY_DLY (uns 32 dly1)).set CH_VOFS_OFS (uns 32 ofs1)).set CH_VGAIN_GAIN gain1
            ({ c with regs := r, ageV := some d.dt } : Chan).loadInput false
        if isI then (({ c with calI := false, blank := max c.blank t } : Chan).mask 2 (some t)).mask 3 (some t)
        else (({ c with calV := false, blankV := max c.blankV t } : Chan).mask 0 (some t)).mask 1 (some t)
      (d.modAfe a fun x => { x with roundQ := rest }).calConnect a

/-- The chiplets a command mask names; 0 means chiplet `a` only (R104, R127). -/
def chipMask (a mask : Nat) : List Nat := if mask = 0 then [a] else maskList mask 8

/-- Starts a traceable measurement of a point on one chiplet (R100): refused as busy, or when CAL is routed to another chiplet of a different command. -/
def Device.traceStart (a point : Nat) (others : List Nat) (d : Device) : Device :=
  let x := d.chip a
  if x.trace.isSome then d.modAfe a (Afe.set AFE_CALSTAT_RESULT 1)
  else if (List.range 8).any fun b => !others.contains b && (d.chip b).trace.isSome then
    d.modAfe a (Afe.set AFE_CALSTAT_RESULT 4)
  else d.modAfe a fun x =>
    { x with regs := (x.regs.setB AFE_CALSTAT_BUSY true).set AFE_CALSTAT_RESULT 0,
             trace := some (point, x.get AFE_TPRSTAT_HRCNT) }

/-- Nominal value of a traced point, in the units of AFE_CALX (R100, R104). -/
def pointNominal (p : Nat) : Int :=
  if p == 9 then 128000000 else if p == 10 then 12800000 else sgn 32 (tapReset p)

/-- The value in force of a traced point. -/
def Afe.pointNow (x : Afe) (p : Nat) : Int :=
  sgn 32 (if p ≤ 8 then x.get (AFE_TAPV_V p) else if p == 9 then x.get AFE_CALIH_I else x.get AFE_CALIL_I)

/-- The spread of 256 differences with sum `delta` and sum of squares `sq` exceeds 16 fine steps rms (R100). -/
def spreadOver (delta : Int) (sq : Nat) : Bool := delta * delta + (256 * 65536 : Nat) < 256 * (sq : Int)

/-- A traceable measurement ends after 256 half-ramps (R100). `delta` and `sq` are the sum and the sum of squares of the 256 differences in fine steps; `outside`: the standard lies outside its window. A difference of range L counts a tenth in I-code. -/
def Device.traceDone (a : Nat) (delta : Int) (outside : Bool) (sq : Nat) (d : Device) : Device :=
  let x := d.chip a
  match x.trace with
  | none => d
  | some (p, h0) =>
    if (x.get AFE_TPRSTAT_HRCNT + 65536 - h0) % 65536 < 256 then d
    else
      let d := d.modAfe a fun x => { x.setB AFE_CALSTAT_BUSY false with trace := none }
      if outside then (d.modAfe a (Afe.set AFE_CALSTAT_RESULT 2)).raise (360 + a)
      else if spreadOver delta sq then (d.modAfe a (Afe.set AFE_CALSTAT_RESULT 3)).raise (360 + a)
      else
        let calx := sgn 32 (x.get AFE_CALX_VAL)
        let (tn, td) := x.tau
        let td := if p == 10 then 10 * td else td
        let cand := roundDiv (calx * 256 * td - delta * tn) (256 * td)
        d.modAfe a fun x =>
          { x with
            regs := (x.regs.set AFE_CALSTAT_RESULT 0).set AFE_CALRES_RES (uns 32 (cand - pointNominal p))
            cands := ⟨p, cand, calx, delta, x.pointNow p⟩ :: x.cands.filter fun c => decide (c.point ≠ p)
            candAt := some d.dt }

/-- OP = 5 on one chiplet (R100). -/
def Device.calCommit (a : Nat) (d : Device) : Device := d.modAfe a fun x => { x with committing := true }

/-- The next half-ramp boundary after OP = 5: the candidates load and a complete internal round follows (R100). -/
def Device.calApply (a : Nat) (d : Device) : Device :=
  if !(d.chip a).committing then d
  else (d.modAfe a fun x =>
    let r := x.cands.foldl (fun r c =>
      if c.point ≤ 8 then r.set (AFE_TAPV_V c.point) (uns 32 c.value)
      else if c.point == 9 then r.set AFE_CALIH_I (uns 32 c.value) else r.set AFE_CALIL_I (uns 32 c.value)) x.regs
    { x with regs := r, cands := [], candAt := none, committing := false,
             traced := x.cands ++ x.traced.filter fun t => !x.cands.any fun c => c.point == t.point }).startRound a true

/-- OP = 6, and the 24 h expiry: all candidates are discarded (R100). -/
def Device.calDiscard (a : Nat) (d : Device) : Device :=
  d.modAfe a fun x => { x with cands := [], candAt := none }

def Device.calExpire (a : Nat) (d : Device) : Device :=
  match (d.chip a).candAt with
  | some t => if t + 86400 * 204800000000 ≤ d.dt then d.calDiscard a else d
  | none => d

/-- A write of AFE_CALCMD (R104). -/
def Device.calCmd (a op tap mask : Nat) (d : Device) : Device :=
  let as := chipMask a mask
  match op with
  | 1 => as.foldl (fun d b => d.startRound b true) d
  | 2 => as.foldl (fun d b => if tap ≤ 8 then d.traceStart b tap as else d) d
  | 3 => as.foldl (fun d b => d.traceStart b 9 as) d
  | 4 => as.foldl (fun d b => d.traceStart b 10 as) d
  | 5 => as.foldl (fun d b => d.calCommit b) d
  | 6 => as.foldl (fun d b => d.calDiscard b) d
  | _ => d

/-- Deskew calibration of a chiplet (R124): inputs whose channel regulates are skipped and counted. -/
def Device.skewStart (a : Nat) (d : Device) : Device :=
  let ok := fun n => !(d.chan n).on CH_SNFSTAT_EN || (d.chan n).mode == 0
  let ns := (List.range 128).map (128 * a + ·)
  let skipped := 2 * (ns.filter fun n => !ok n).length
  let d := d.modAfe a fun x =>
    { x with regs := ((x.regs.set AFE_SKSTAT_SKIPPED skipped).setB AFE_SKSTAT_BUSY true).setB AFE_SKSTAT_ERR false }
  let d := d.mapChans (fun n => n / 128 == a && ok n) fun c =>
    ((((({ c with calV := true, calI := true } : Chan).mask 0 none).mask 1 none).mask 2 none).mask 3 none)
  ns.foldl (fun d n => if ok n then (d.wick n 1 1).wick n 2 1 else d) d

def Device.skewCmd (a mask : Nat) (d : Device) : Device := (chipMask a mask).foldl (fun d b => d.skewStart b) d

/-- An input's deskew is loaded (R124, steps 4 and 5), the mean of 32 corrected delays whose sum is `sum`: outside 0 … 204,800 the previous value stays and event 360 + a is raised. The 20 µs BLANK ends the mask, and the active limits reload. -/
def Device.deskewLoad (n : Nat) (isI : Bool) (sum : Int) (d : Device) : Device :=
  let c := d.chan n
  let skew := roundDiv sum 32
  if !(if isI then c.calI else c.calV) || !(d.chip (chipOf n)).on AFE_SKSTAT_BUSY then d
  else
    let ok := 0 ≤ skew && skew ≤ 204800
    let t := d.dt + 20 * usLen
    let d := if ok then d else (d.modAfe (chipOf n) (Afe.setB AFE_SKSTAT_ERR true)).raise (360 + chipOf n)
    let d := d.modChan n fun c =>
      let c := if ok then c.set (if isI then CH_ISKEW_SKEW else CH_VSKEW_SKEW) skew.toNat else c
      let c := c.loadInput isI
      if isI then (({ c with calI := false, irAt := min c.irAt d.dt, blank := max c.blank t } : Chan).mask 2 (some t)).mask 3 (some t)
      else (({ c with calV := false, blankV := max c.blankV t } : Chan).mask 0 (some t)).mask 1 (some t)
    let busy := (List.range 128).any fun i =>
      (d.chan (128 * chipOf n + i)).calV || (d.chan (128 * chipOf n + i)).calI
    d.modAfe (chipOf n) (Afe.setB AFE_SKSTAT_BUSY busy)

/-! ### Common mode -/

/-- An input pin has lain outside ±12.5 V for 1 µs (R39). -/
def Device.cmRange (n : Nat) (isI : Bool) (d : Device) : Device :=
  (d.modChan n fun c => if isI then { c with cmI := true } else { c with cmV := true }).snuffCh 4 n

/-- Both pins of the input are back inside (R168). -/
def Device.cmEnd (n : Nat) (isI : Bool) (d : Device) : Device :=
  d.modChan n fun c => if isI then { c with cmI := false } else { c with cmV := false }

/-! ### Windows -/

/-- The consequences of a window event: a lost entry raises GRP.g (R115), a trip snuffs (R112), a selected edge is offered to interval units and the channel's capture (R109, R275). -/
def Device.windowOut (n k : Nat) (e : Option WEntry) (lost trip : Bool) (d : Device) : Device :=
  let d := if lost then d.raise (n / 8) else d
  let d := match e with
    | some e =>
      if edgeSelects ((d.chan n).cmpEdge k) e.into then
        let d := d.offerEdge (fun sel => selWindow sel n k) e.into
          ⟨e.dt, if e.merged then 128 else 1, b2n e.merged + 2 * b2n e.unc⟩
        d.offerCap n 1 e.dt fun a => bits a 0 2 == k && (bits a 2 2 == 2 || bits a 2 2 == b2n !e.into)
      else d
    | none => d
  if trip then d.snuffCh k n else d

/-- A window comparator changes state, raw stamp `t`; `merged`: the Taper comparator holds the input's TDC (R109, R112 to R115). -/
def Device.windowTransition (n k : Nat) (into unc merged : Bool) (t : Nat) (d : Device) : Device :=
  let (c, e, lost, trip) := (d.chan n).transition k into unc merged t
  (d.modChan n fun _ => c).windowOut n k e lost trip

/-- A comparator's mask ends with state `now` (R110). -/
def Device.windowMaskEnd (n k : Nat) (now : Bool) (d : Device) : Device :=
  match (d.chan n).masks.getD k none with
  | some m =>
    match m.until_ with
    | some t =>
      if t ≤ d.dt then
        let (c, e, lost, trip) := (d.chan n).maskEnd k now t
        (d.modChan n fun _ => c).windowOut n k e lost trip
      else d
    | none => d
  | none => d

/-! ### Commit, ends, slots -/

/-- Does the commit ask for the enable bit (R129). -/
def Chan.wantsEnable (c : Chan) : Bool :=
  let (m, h, _) := c.modeOf c.sh
  m != 0 || h

/-- Channel `n` enters RUN at its first commit, of a step or of a range change, while the lanes are on (R165). -/
def Device.laneRun (n : Nat) (d : Device) : Device :=
  if d.lanes == 2 then d.modGrp (n / 8) fun g => g.set GRP_DLSTAT_RUN (setBit (g.get GRP_DLSTAT_RUN) (n % 8) true) else d

/-- Starts a range change on channel `n` at the present DT and queues its SETUP for boundary B0 (R161, R165, R167); `commits`: the boundary of a commit that waits for it. -/
def Device.startRange (n target : Nat) (commits : Option Nat) (d : Device) : Device :=
  let d := (d.modChan n (Chan.requestRange d.dt target commits)).laneRun n
  let b0 := match (d.chan n).ps with | some p => p.b0 | none => d.dt
  let pol := bit ((d.group (n / 8)).get GRP_DLCFG_POL) (n % 8)
  let (g, tag) := (d.group (n / 8)).sendSetup (n % 8) target (b0 / frameLen)
  (d.modGrp (n / 8) fun _ => g).modChan n (Chan.setupSent tag pol ((d.group (n / 8)).get GRP_DLCFG_SSTART) b0)

/-- The commit of channel `n` that is due (R130, R131, R165, R169, R171). It is deferred while STEP_TRANSITION = 1; a first enabling commit with the lanes on makes an implicit range change first, or waits for the change in progress. -/
def Device.commit (n : Nat) (d : Device) : Device :=
  let c := d.chan n
  match c.commitAt with
  | none => d
  | some C =>
    if d.dt < C || c.on CH_RSTAT_STEP_TRANSITION then d
    else if !c.on CH_RSTAT_PEND then
      d.modChan n fun c => { c.setB CH_RSTAT_NOPEND true with commitAt := none }
    else if c.wantsEnable && !c.setupAcked && d.on DEV_CTL_LANE_EN && !c.on CH_SNFSTAT_SNUFFED then
      let d := d.modChan n fun c => { c with commitAt := none }
      match c.ps with
      | none => d.startRange n c.psr (some C)
      | some _ => d.modChan n fun c => { c with ps := c.ps.map fun p => { p with commits := some C } }
    else
      let irCal := c.calI && c.sh.regs.get SET_MODE_IRANGE != c.get CH_MCTL_IRANGE
      let irChg := c.sh.regs.get SET_MODE_IRANGE != c.get CH_MCTL_IRANGE
      let wasRun := c.running
      let d := d.modChan n fun c =>
        let c1 := if irCal then { c with calI := false } else c
        ((c1.commit C).loadWindows C)
      let d := if irCal then d.modAfe (chipOf n) fun x =>
          { x with roundQ := (x.roundQ.filter fun q => decide (q ≠ (n, true))) ++ [(n, true)], onBus := false } else d
      let d := if irChg then d.wick n 0 1 else d
      let d := if wasRun then d.raise (n / 8) else d
      let d := if 0 < c.lateBy then (d.overrun n c.lateBy).modChan n fun c => { c with lateBy := 0 } else d
      let d := d.laneRun n
      let c := d.chan n
      -- a commit on a snuffed channel ends at once (R171)
      if c.on CH_SNFSTAT_SNUFFED then d.endStep n ⟨C, 10, 0⟩
      else if c.enWant && !d.on DEV_CTL_LANE_EN then d.snuffAt 20 n C
      else if c.enWant && !(d.group (n / 8)).on GRP_SLSTAT_LOCK then (d.snuffAt 6 n C).raise (456 + n / 64)
      else d

/-- A micro-routine that wrote the shadow set ends: STEP_TRANSITION clears; a commit that fell due meanwhile takes place at the next boundary plus the deskew, late (R25, R130). -/
def Device.routineEnds (n : Nat) (d : Device) : Device :=
  d.modChan n fun c =>
    let c := if c.on CH_RSTAT_STEP_TRANSITION then c.setB CH_RSTAT_STEP_TRANSITION false else c
    match c.commitAt with
    | some C => if C ≤ d.dt then
        let C' := boundaryAfter d.dt + c.deskew
        { c with commitAt := some C', lateBy := C' - C }
      else c
    | none => c

/-- A loop group of the channel's chiplet ends (R133 to R138, R142); expectations on DVDT follow from the 16th update (R222). -/
def Device.loopUpdate (n : Nat) (d : Device) : Device :=
  let x := d.chip (chipOf n)
  if !x.groupEnds d.dt || x.held then d
  else
    let was := d.chan n
    let d := d.modChan n (Chan.loopUpdate d.dt false)
    if was.running && !(d.chan n).running then d.raise (n / 8) else d

/-- DT has reached the end boundary of a TIME entry (R142, R143). -/
def Device.stepEndTime (n : Nat) (d : Device) : Device :=
  let c := d.chan n
  match c.timeStop d.dt with
  | none => d
  | some e => d.endStep n e

/-- Format time has reached a level edge (R141): the level changes at this boundary. -/
def Device.formatEdge (n : Nat) (d : Device) : Device :=
  let c := d.chan n
  match c.fmtStart with
  | some s =>
    let j := (d.dt - s) / frameLen
    if (modeType c.mode).isSome && s ≤ d.dt && (d.dt - s) % frameLen == 0 && c.ac.edgeAt j then
      d.modChan n fun c => { c with fmtLevel := c.ac.levelAt j, fmtEdge := d.dt }
    else d
  | none => d

/-- The last repetition of the format completes (R140, R141): FMT_DONE under DONEEND, else the last level holds. -/
def Device.formatDone (n : Nat) (d : Device) : Device :=
  let c := d.chan n
  match c.fmtDoneAt with
  | some b =>
    if b ≤ d.dt && !c.fmtDone then
      let d := d.modChan n fun c => { c with fmtDone := true, fmtLevel := c.ac.lastLevel }
      if c.ac.fmtDoneEnd then d.endStep n ⟨b, 9, 0⟩ else d
    else d
  | none => d

/-- The boundary of an ABORT request (R142). -/
def Device.stepAbortEnd (n : Nat) (d : Device) : Device :=
  match (d.chan n).abortAt with
  | some b => if b ≤ d.dt then
      (d.endStep n ⟨b, 11, 0⟩).modChan n fun c => { c with abortAt := none } else d
  | none => d

/-- An armed edge slot reaches its boundary (R147); ACT 3 waits for its SYNC and is fired by it. A slot armed after its boundary fires late at the next one. -/
def Device.edgeSlotFire (n j : Nat) (d : Device) : Device :=
  let c := d.chan n
  let (b, late) := c.slotDue j
  if j < 4 && c.on (CH_ESCTL_ARMED j) && c.get (CH_ESCTL_ACT j) != 3 && b ≤ d.dt then
    let d := d.modChan n (Chan.fireSlot j b late)
    if late then d.overrun n (b - c.slotAt j) else d
  else d

/-- A SYNC with number `num` takes effect at boundary `b`: every armed SYNC_COMMIT slot with that number fires (R69, R147). -/
def Device.fireSync (num b : Nat) (d : Device) : Device :=
  { d with ch := d.ch.map fun c =>
      (List.range 4).foldl (fun c j =>
        if c.on (CH_ESCTL_ARMED j) && c.get (CH_ESCTL_ACT j) == 3 && c.get (CH_ESCTL_SYNCNO j) == num then
          c.fireSlot j (b + c.deskew) false else c) c }

/-- CH_PSFSr written 0 for the active range of a regulating channel (R135). -/
def Chan.fsWritten (c : Chan) : Chan :=
  if c.fs = 0 && c.enWant then { c.setB CH_RSTAT_MODEERR true with fsDead := true } else c

/-- CH_ACCCTL.CLRTOT, and ACC with CLR: totals and fractions cleared (R146, R231). -/
def Chan.clearTotals (c : Chan) : Chan := { c.setB CH_ACCCTL_CLRTOT false with qtot := 0, etot := 0 }

/-! ### Impedance -/

/-- The request of an impedance measurement of `m` periods at the present DT (R151, R152, R236). Answers whether it was accepted. -/
def Device.impedRequest (n m : Nat) (d : Device) : Device × Bool :=
  let c := d.chan n
  let x := d.chip (chipOf n)
  -- f exceeds a quarter of the conversion rate 1 / (HALF frames): FTW / 2^32 > 1 / (4 HALF)
  let bad := c.mode != 7 || 2 ^ 32 < c.ac.ftw * 4 * x.half
  if bad then (d.modChan n (Chan.setB CH_ZSTAT_FREQERR true), false)
  else
    (d.modChan n fun c =>
      { c with
        regs := ((c.regs.setB CH_ZSTAT_BUSY true).setB CH_ZSTAT_DONE false |>.setB CH_ZSTAT_LOWN false).set CH_ZSTAT_PER 0
        imp := some { periods := max 1 m, req := d.dt } }, true)

/-- The first phase wrap at or after the request opens the window (R151). -/
def Device.impedStart (n : Nat) (d : Device) : Device :=
  let c := d.chan n
  match c.imp, c.fmtStart with
  | some m, some s =>
    let w := (c.ac.wrapFrom s m.req).2
    if m.w0.isNone && w ≤ d.dt then d.modChan n fun c => { c with imp := some { m with w0 := some w } } else d
  | _, _ => d

/-! ### Lanes -/

/-- A drive frame of group `g` at a frame boundary (R157, R165, R169): nothing is sent while the lanes are OFF. -/
def Device.driveFrame (g : Nat) (d : Device) : Device :=
  if d.lanes < 2 || d.dt % frameLen != 0 || 128 ≤ g then d
  else
    let F := d.dt / frameLen
    let x := d.group g
    let pol := fun i => (d.chan (8 * g + i)).polInv
    let fv := d.freeVal
    let outs := (List.range 8).map fun i =>
      (d.chan (8 * g + i)).frame d.dt
        (d.lanes == 2 && x.on GRP_SLSTAT_LOCK && bit (x.get GRP_DLSTAT_RUN) i) (bit fv i)
    let a := maskOf 8 fun i => match outs[i]? with | some o => o.2.1 != pol i | none => false
    let b := maskOf 8 fun i => match outs[i]? with | some o => o.2.2 | none => false
    let d := (List.range 8).foldl (fun d i =>
      match outs[i]? with | some o => d.modChan (8 * g + i) fun _ => o.1 | none => d) d
    (d.modGrp g (Grp.sendFrame g F a b)).useFree

/-- A good status frame of group `g` (R162, R163, R167). -/
def Device.statusFrame (g fault range temp echo tag flags desc : Nat) (d : Device) : Device :=
  let was := d.group g
  let x := was.status d.dt fault range temp echo tag flags desc
  let d := d.modGrp g fun _ => x
  let d := if bit flags 1 && !was.on GRP_SLSTAT_TWARN then d.raise 472 else d
  -- acknowledge
  let ns := (List.range 8).map (8 * g + ·)
  let waiting := ns.filter fun n => (d.chan n).waitsTag tag
  let good := waiting.all fun n =>
    match (d.chan n).ps with | some p => bits range (2 * (n % 8)) 2 == p.target | none => false
  let d := if good then waiting.foldl (fun d n => d.modChan n (Chan.acked d.dt)) d else d
  -- protective causes
  let d := if !bit flags 0 then d.snuffWhere 5 fun n => n / 8 == g
    else (ns.filter fun n => bit fault (n % 8)).foldl (fun d n => d.snuffCh 5 n) d
  let d := if x.hbBad && !was.hbBad then d.snuffGroup 7 g else d
  if x.tempBad && !was.tempBad then d.snuffGroup 8 g else d

/-- A bad status frame (R163). -/
def Device.statusBad (g : Nat) (d : Device) : Device := d.modGrp g Grp.badStatus

/-- No good status frame for 10 µs while locked (R163). -/
def Device.statusLockLoss (g : Nat) (d : Device) : Device :=
  let x := d.group g
  if x.on GRP_SLSTAT_LOCK && (match x.lastGood with | some t => t + 10 * usLen ≤ d.dt | none => true) then
    (d.modGrp g fun x => { (x.setB GRP_SLSTAT_LOCK false).bump GRP_SLCNT_LOCKLOSS 1 with good := 0 }).snuffGroup 6 g
  else d

/-- No acknowledge within 1 ms of B0 (R167, step 5). -/
def Device.ackTimeout (n : Nat) (d : Device) : Device :=
  match (d.chan n).ps with
  | some p =>
    if p.resume.isNone && p.b0 + 1000 * usLen ≤ d.dt then
      ((d.modChan n (Chan.ackTimeout d.dt)).snuffCh 9 n).raise (456 + n / 64)
    else d
  | none => d

/-- 16 superframes without an acknowledge: the same SETUP is queued again (R167, step 2). -/
def Device.setupRepeat (n : Nat) (d : Device) : Device :=
  match (d.chan n).ps with
  | some p =>
    match p.tag with
    | some tag =>
      if p.resume.isNone && p.sent + 16 * 64 * frameLen ≤ d.dt then
        let same := (List.range 8).filter fun i => (d.chan (8 * (n / 8) + i)).waitsTag tag
        let msg := setupMsg (maskOf 8 fun i => same.contains i) p.target (b2n p.pol) p.sstart tag
        let d := d.modGrp (n / 8) (Grp.send msg (d.dt / frameLen))
        same.foldl (fun d i => d.modChan (8 * (n / 8) + i) fun c =>
          { c with ps := c.ps.map fun p => { p with sent := d.dt } }) d
      else d
    | none => d
  | none => d

/-- Row RANGE_RESUME: the resume boundary has been reached (R167, steps 4 and 5). -/
def Device.rangeResume (n : Nat) (d : Device) : Device :=
  match (d.chan n).ps with
  | some p => if p.resume.any (· ≤ d.dt) then d.modChan n Chan.resumeRange else d
  | none => d

/-- Writes of GRP_DLCMD queue IDENTIFY messages (R160, R179). -/
def Device.identify (g mask on_ : Nat) (d : Device) : Device :=
  if mask = 0 then d else d.modGrp g (Grp.send (identifyMsg mask on_) (d.dt / frameLen))

/-- DEV_CTL.LANE_EN has been set (R165). -/
def Device.laneEnable (d : Device) : Device :=
  if d.lanes == 0 then { d with lanes := 1, lanesAt := d.dt } else d

/-- The first superframe boundary after LANE_EN: the lanes enter IDLE (R165). -/
def Device.lanesIdle (d : Device) : Device :=
  if d.lanes == 1 && d.dt % (64 * frameLen) == 0 && d.lanesAt < d.dt then { d with lanes := 2 } else d

/-- DEV_CTL.LANE_EN has been cleared (R166, R178). -/
def Device.laneDisable (d : Device) : Device :=
  let en := d.ch.any fun c => c.on CH_SNFSTAT_EN || c.enWant
  let d := d.snuffWhere 20 fun _ => true
  let d := if en then d.raise 453 else d
  if d.lanes == 2 then { d with lanes := 3, lanesAt := d.dt } else { d with lanes := 0 }

/-- Every lane OFF: no frame, no channel in RUN, no SETUP acknowledged (R37, R165). -/
def Device.lanesDown (d : Device) : Device :=
  { d with
    lanes := 0
    grp := d.grp.map fun g => { g.set GRP_DLSTAT_RUN 0 with frame := [], queue := [], slot := [] }
    ch := d.ch.map fun c => { c.setB CH_SNFSTAT_EN false with setupAcked := false, enWant := false, polInv := false } }

/-- One complete superframe with every enable bit 0 has been sent (R166); with LANE_EN set again meanwhile the lanes go on to IDLE (R165). -/
def Device.lanesOff (d : Device) : Device :=
  if d.lanes == 3 && d.dt % (64 * frameLen) == 0 && alignUp (sampledFrame d.lanesAt) (64 * frameLen) + 64 * frameLen ≤ d.dt then
    if d.on DEV_CTL_LANE_EN then d.lanesDown.laneEnable else d.lanesDown
  else d

/-! ### The e-stop loop -/

/-- ILK_ESTOP has stayed below 8 V for 100 ns (R168, R172, R441): every channel is snuffed, safe-off is forced, event 448. -/
def Device.estopOpen (d : Device) : Device :=
  (({ d with ilkOpen := true }.force 1 true).snuffAll 13).raise 448

/-- The loop closes (R178). -/
def Device.estopClose (d : Device) : Device :=
  if d.ilkOpen then ({ d with ilkOpen := false }.force 1 false).raise 449 else d

end Sys2Proof.Machine
end

