-- ==== Sys2Proof/Machine/Motion.lean ====
section
/-! DEFINITION. The motion engine: position, schedule, contact windows, gates and coast (R310 to R318, R328 to R331, R333, R334). -/

namespace Sys2Proof.Machine

def Device.modMot (f : Motion → Motion) (d : Device) : Device := { d with mot := f d.mot }

/-- MOT_POS as a signed 48-bit value (R310). -/
def Device.motPos (d : Device) : Int := sgn 48 (d.get MOT_POS_POS)
def Device.setMotPos (p : Int) (d : Device) : Device := d.set MOT_POS_POS (uns 64 (sgn 48 (uns 48 p)))

/-! ### Line edges -/

/-- The stamp of an edge on a line with a vernier TDC: 0 A, 1 B, 2 Z, 3 XG (R122). -/
def Device.motStamp (l t : Nat) (d : Device) : Device × Stamp :=
  let (s, merged, last) := tdcStamp (d.mot.tdc.getD l none) t
  (d.modMot fun m => { m with tdc := m.tdc.set l last }, ⟨s, if merged then 128 else 1, b2n merged⟩)

/-! ### Coast (R330) -/

/-- Coast source `i` acts at stamp `s`: 0 input, 1 e-stop, 2 Beacon, 3 host, 4 QERR. The first one enters coast. -/
def Device.coast (i s : Nat) (d : Device) : Device :=
  if d.on MOT_STAT_COAST then d
  else
    let d := ((d.setB MOT_STAT_COAST true).set MOT_COASTDT_DT s).set MOT_STAT_COASTSRC (2 ^ i)
    (d.mapChans (fun _ => true) fun c =>
      if c.on CH_MWSTAT_OPEN then c.setB CH_MWSTAT_COAST true else c).raise 257

/-- The device is in coast for a stamp. -/
def Device.coastAt (s : Nat) (d : Device) : Bool := d.on MOT_STAT_COAST && d.get MOT_COASTDT_DT ≤ s

/-! ### The schedule (R313 to R315) -/

/-- Is `a` before `b` in the schedule: by position, then action code; equal ones in order of creation. -/
def Sched.before (a b : Sched) : Bool := a.pos < b.pos || (a.pos == b.pos && a.code < b.code)

def putSched (e : Sched) : List Sched → List Sched
  | [] => [e]
  | x :: t => if e.before x then e :: x :: t else x :: putSched e t

/-- Adds entries that have been checked; event 260 at the crossing of 90 % (R315). -/
def Device.schedule (es : List Sched) (d : Device) : Device :=
  let n := d.mot.sched.length
  let d := d.modMot fun m => { m with sched := es.foldl (fun s e => putSched e s) m.sched }
  if n < 3687 && 3687 ≤ d.mot.sched.length then d.raise 260 else d

/-- Is the schedule too full for `n` more entries (R315). -/
def Device.schedFull (n : Nat) (d : Device) : Bool := 4096 < d.mot.sched.length + n

/-- A count (R310): the position moves, a forward one makes the entries of its position due (R313). -/
def Device.count (fwd : Bool) (s : Nat) (d : Device) : Device :=
  let p := if fwd then d.motPos + 1 else d.motPos - 1
  let d := (d.setMotPos p).set MOT_POSDT_DT s
  let p := d.motPos
  d.modMot fun m =>
    let m := { m with counts := ((if fwd then 1 else -1), s) :: m.counts.filter fun c => d.dt < c.2 + 1000 * usLen }
    let m := { m with ups := if fwd then (p, s) :: m.ups else m.ups.filter fun u => decide (u.1 ≤ p) }
    if fwd then
      { m with sched := m.sched.filter fun e => decide (e.pos ≠ p)
               due := m.due ++ (m.sched.filter fun e => decide (e.pos = p)).map fun e => ⟨e, s⟩ }
    else m

/-- Row MOT_COUNT: the levels of A and B after a transition at raw DT `t` that is held for `held` fine steps (R310, R122). A pulse shorter than the filter is rejected; both lines changing is a quadrature error. -/
def Device.motCount (a b : Bool) (t held : Nat) (d : Device) : Device :=
  let old := d.mot.ab
  let new := b2n a + 2 * b2n b
  if old == new then d
  else
    let ca := bit old 0 != a
    let cb := bit old 1 != b
    let (d, s) := if ca then d.motStamp 0 t else d.motStamp 1 t
    let d := if ca then d.offerEdge (fun sel => selLine sel 0) a s else d
    let d := if cb then
        (if ca then (match d.motStamp 1 t with | (d, s) => d.offerEdge (fun sel => selLine sel 1) b s)
         else d.offerEdge (fun sel => selLine sel 1) b s)
      else d
    if held < d.get MOT_CTL_FILT * 1024 then d
    else
      let d := d.modMot fun m => { m with ab := new }
      if !d.on MOT_CTL_EN then d
      else if ca && cb then ((d.setB MOT_STAT_QERR true).raise 256).coast 4 s.dt
      else
        -- A leads B: A changes to differ from B, B changes to equal A
        let aLeads := if ca then a != b else a == b
        d.count (aLeads != d.on MOT_CTL_DIR) s.dt

/-- Row MOT_Z_EDGE (R311). -/
def Device.motZ (rising : Bool) (t : Nat) (d : Device) : Device :=
  let (d, s) := d.motStamp 2 t
  let d := d.offerEdge (fun sel => selLine sel 2) rising s
  if rising == d.on MOT_CTL_ZPOL then d
  else
    let d := (d.set MOT_ZPOS_POS (d.get MOT_POS_POS)).set MOT_ZDT_DT s.dt
    if d.on MOT_CTL_ZRESET && d.mot.sched.isEmpty then d.setMotPos 0 else d

/-- Row MOT_XG_EDGE (R119). -/
def Device.motXg (rising : Bool) (t : Nat) (d : Device) : Device :=
  let (d, s) := d.motStamp 3 t
  ((d.setB MOT_STAT_XG rising).offerEdge (fun sel => selLine sel 7) rising s).stiXg rising s.dt

/-- Row MOT_CP_EDGE: an edge of MOT_CPk sampled at `t` (R317). -/
def Device.motCp (k : Nat) (rising : Bool) (t : Nat) (d : Device) : Device :=
  let d := d.set MOT_STAT_CP (setBit (d.get MOT_STAT_CP) k rising)
  let d := d.offerEdge (fun sel => selLine sel (3 + k)) rising ⟨t / 1024 * 1024, 1024, 4⟩
  if rising then d
  else
    let hit := fun n => let c := d.chan n
      c.on CH_MWSTAT_OPEN && c.get CH_MWOPEN_DT ≤ t && c.wins.any fun w => w.opened && w.guard && w.cp == some k
    let ns := (List.range 1024).filter hit
    ns.foldl (fun d n =>
      let d := d.modChan n (Chan.setB CH_MWSTAT_CPLOSS true)
      if (d.chan n).on CH_SNFSTAT_EN then d.snuffCh 19 n else d) d

/-- Row MOT_COAST_EDGE (R330). -/
def Device.motCoastEdge (high : Bool) (t : Nat) (d : Device) : Device :=
  let active := high != d.on MOT_CTL_COASTPOL
  let s := t / 1024 * 1024
  let d := (d.setB MOT_STAT_COASTIN active).offerEdge (fun sel => selLine sel 8) high ⟨s, 1024, 4⟩
  if active && d.on MOT_CTL_COASTEN then d.coast 0 s else d

/-- Row MOT_VEL_UPDATE: the counts of the last millisecond, times 1,000 (R310). -/
def Device.motVel (d : Device) : Device :=
  if d.dt < d.mot.velAt + 100 * usLen then d
  else
    let cs := d.mot.counts.filter fun c => d.dt < c.2 + 1000 * usLen
    (d.modMot fun m => { m with counts := cs, velAt := d.dt }).set MOT_VEL_CPS
      (uns 32 (1000 * cs.foldl (fun a c => a + c.1) 0))

/-! ### Due entries -/

/-- The first due entry when its action code is `code`. -/
def Device.dueEntry (code : Nat) (d : Device) : Option DueEntry :=
  match d.mot.due with
  | x :: _ => if x.e.code == code then some x else none
  | [] => none

/-- The due entry is consumed; one acted on more than 1 µs after its stamp is late (R314). -/
def Device.consume (x : DueEntry) (d : Device) : Device :=
  let d := d.modMot fun m => { m with due := m.due.tail }
  if x.stamp + usLen < d.dt then ((d.setB MOT_STAT_SCHLATE true).bump MOT_LATECNT_SCHLATE 1).raise 259 else d

/-- Row SCHED_GUARD (R317). -/
def Device.schedGuard (d : Device) : Device :=
  match d.dueEntry 1 with
  | none => d
  | some x =>
    let d := d.consume x
    let n := x.e.arg
    if (d.chan n).on CH_SNFSTAT_EN then (d.modChan n (Chan.setB CH_MWSTAT_GUARDED true)).snuffCh 19 n else d

/-- Row SCHED_WCLOSE (R316). -/
def Device.schedWclose (d : Device) : Device :=
  match d.dueEntry 2 with
  | none => d
  | some x =>
    (d.consume x).modChan x.e.arg fun c =>
      let ws := c.wins.tail
      { c with regs := ((c.regs.set CH_MWCLOSE_DT x.stamp).setB CH_MWSTAT_OPEN false).set CH_MWSTAT_QUEUED ws.length
               wins := ws }

/-- Row SCHED_WOPEN (R313, R316). -/
def Device.schedWopen (d : Device) : Device :=
  match d.dueEntry 5 with
  | none => d
  | some x =>
    let d := d.consume x
    let n := x.e.arg
    let noContact := match (d.chan n).wins.head? with
      | some w => (match w.cp with | some k => !bit (d.get MOT_STAT_CP) k | none => false)
      | none => false
    let coast := d.coastAt x.stamp
    let d := d.wearBy (3072 + n) 1
    d.modChan n fun c =>
      let r := (((c.regs.set CH_MWOPEN_DT x.stamp).set CH_MWPOS_POS (uns 64 x.e.pos)).set CH_MWCLOSE_DT 0).setB CH_MWSTAT_OPEN true
      let r := (r.set CH_MWSTAT_WSEQ (c.get CH_MWSTAT_WSEQ + 1)).setB CH_MWSTAT_NOCONTACT noContact
      let r := ((r.setB CH_MWSTAT_COAST coast).setB CH_MWSTAT_CPLOSS false).setB CH_MWSTAT_GUARDED false
      let c := { c with regs := r, wins := c.wins.modifyHead fun w => { w with opened := true } }
      if x.e.act = 0 then c else c.armSlot x.e.slot x.e.act (x.stamp + 2 * usLen) 0 d.dt

/-- Sources that an EVENT entry may raise (R313). -/
def schedSource (s : Nat) : Bool := (480 ≤ s && s ≤ 511) || (268 ≤ s && s ≤ 287)

/-- Row SCHED_EVENT (R313). -/
def Device.schedEvent (d : Device) : Device :=
  match d.dueEntry 6 with
  | none => d
  | some x =>
    let d := d.consume x
    if 480 ≤ x.e.arg then d.ring (x.e.arg - 480) (uns 32 x.e.pos) else d.raise x.e.arg

def Device.sortSlot (i : Nat) (d : Device) : Option SortSlot := d.mot.slots.find? fun s => s.slot == i
def Device.modSlot (i : Nat) (f : SortSlot → SortSlot) (d : Device) : Device :=
  d.modMot fun m => { m with slots := m.slots.map fun s => if s.slot == i then f s else s }
/-- One entry of a sort slot is gone; with both gone the slot is free (R328). -/
def Device.leaveSlot (i : Nat) (d : Device) : Device :=
  (d.modSlot i fun s => { s with left := s.left - 1 }).modMot fun m =>
    { m with slots := m.slots.filter fun s => decide (s.slot ≠ i ∨ 0 < s.left ∨ s.owner.isSome) }

/-- Row SCHED_DEADLINE (R329): without a grade at its stamp the cell is late. -/
def Device.schedDeadline (d : Device) : Device :=
  match d.dueEntry 3 with
  | none => d
  | some x =>
    match d.sortSlot x.e.arg with
    | none => d.consume x
    | some s =>
      if s.owner.isNone then (d.consume x).leaveSlot s.slot
      else
        match (if s.cell = 0 then (d, 0) else d.retest s.cell true false false) with
        | (_, 3) => d
        | (d, _) =>
          let d := (d.consume x).modSlot s.slot fun s => { s with late := true }
          ((d.leaveSlot s.slot).bump MOT_LATECNT_LATE 1).raise 262

/-- A gate is cancelled (R314, R330): its cell's record changes with one leaf, CANCEL counts, event 261. None while the leaf stalls. -/
def Device.cancelGate (cell : Option Nat) (coast : Bool) (d : Device) : Option Device :=
  match (match cell with | some id => d.retest id false coast true | none => (d, 0)) with
  | (_, 3) => none
  | (d, _) => some ((d.bump MOT_CNT_CANCEL 1).raise 261)

/-- Output `k` conducts from 2 µs after stamp `s` for MOT_SGWk µs (R313). -/
def Device.fireGate (k s : Nat) (d : Device) : Device :=
  let a := s + 2 * usLen
  (d.modMot fun m => { m with gates := m.gates ++ [(k, a, a + d.get (MOT_SGW_US k) * usLen)] }).bump MOT_CNT_GATES 1

/-- The output conducts at `t` (R313). -/
def Device.gateOn (k t : Nat) (d : Device) : Bool := d.mot.gates.any fun g => g.1 == k && decide (g.2.1 ≤ t) && decide (t < g.2.2)

/-- Row SCHED_GATE (R313, R314, R328, R330). -/
def Device.schedGate (d : Device) : Device :=
  match d.dueEntry 4 with
  | none => d
  | some x =>
    let slot := if x.e.host then none else d.sortSlot x.e.arg
    let out := if x.e.host then some x.e.arg else slot.bind (·.out)
    let cell := slot.map (·.cell)
    let done := fun d : Device =>
      let d := d.consume x
      match slot with | some s => d.leaveSlot s.slot | none => d
    match out with
    | none => done d
    | some k =>
      let coast := d.coastAt x.stamp
      if coast || x.stamp + 2 * usLen < d.dt then
        match d.cancelGate cell coast with
        | some d => done d
        | none => d
      else done (d.fireGate k x.stamp)

/-- Row GATE_PULSE_END: pulses that have ended are gone (R313). -/
def Device.gatePulseEnd (k : Nat) (d : Device) : Device :=
  d.modMot fun m => { m with gates := m.gates.filter fun g => decide (g.1 ≠ k ∨ d.dt < g.2.2) }

/-! ### Host entries and commands -/

/-- A write of MOT_SADDACT (R313, R315, R339): the status. -/
def Device.hostAdd (arg act : Nat) (d : Device) : Device :=
  let p64 := sgn 64 (d.get MOT_SADDPOS_POS)
  let ok := if act == 4 then arg < 8 else act == 6 && schedSource arg
  let st :=
    if !d.on MOT_CTL_EN then stDisabled
    else if !ok || p64 != sgn 48 (uns 48 p64) then stBadReq
    else if p64 ≤ d.motPos then stPast
    else if d.schedFull 1 then stSchFull
    else stOk
  let d := if st = stOk then d.schedule [{ pos := p64, code := act, arg := arg, host := true }] else d
  d.set MOT_SADDRES_STATUS st

/-- MOT_CMD.COAST (R330). -/
def Device.motCoast (d : Device) : Device := d.coast 3 d.dt

/-- Cancels every GATE entry of the schedule, `n` at most (R331). None while a leaf stalls. -/
def Device.cancelGates : Nat → Device → Option Device
  | 0, d => some d
  | n + 1, d =>
    match (d.mot.sched.find? fun e => e.code == 4) with
    | none => some d
    | some e =>
      let d' := d.modMot fun m => { m with sched := m.sched.erase e }
      if e.host then (match d'.cancelGate none true with | some d => Device.cancelGates n d | none => none)
      else match d.sortSlot e.arg with
        | none => Device.cancelGates n d'
        | some s =>
          let d' := (d'.modSlot s.slot fun s => { s with out := none, cut := true }).leaveSlot s.slot
          if s.out.isSome then
            (match d'.cancelGate (some s.cell) true with | some d => Device.cancelGates n d | none => none)
          else Device.cancelGates n d'

/-- MOT_CMD.RESUME (R331): accepted while the enabled coast inputs are inactive. -/
def Device.motResume (d : Device) : Device :=
  if (d.on MOT_CTL_COASTEN && d.on MOT_STAT_COASTIN) || (d.on MOT_CTL_ESTOPCOAST && d.ilkOpen) then
    d.setB MOT_STAT_RESREJ true
  else
    match d.cancelGates d.mot.sched.length with
    | some d => ((d.setB MOT_STAT_COAST false).raise 258)
    | none => d

/-- MOT_CMD.SCHCLR (R331): in coast or with EN = 0 the schedule empties; sort slots are free, windows not yet open are gone. -/
def Device.motSchclr (d : Device) : Device :=
  if !d.on MOT_STAT_COAST && d.on MOT_CTL_EN then d
  else
    (d.modMot fun m =>
      { m with sched := []
               slots := (m.slots.filter fun s => s.owner.isSome).map fun s => { s with left := 0 } }).mapChans (fun _ => true) fun c =>
      let ws := c.wins.filter fun w => w.opened
      { c with wins := ws, regs := c.regs.set CH_MWSTAT_QUEUED ws.length }

/-! ### MWIN and MSORT -/

/-- MWIN of channel `n` with open position `a`, length word `b` and SUB (R333). Answers the status word. -/
def Device.mwin (n a b sub : Nat) (d : Device) : Device × Nat :=
  let c := d.chan n
  let p := sgn 64 a
  let len : Int := (bits b 0 32 : Nat)
  let act := bits sub 2 2
  let cp := bits sub 5 3
  let guard := bit sub 4
  let need := if guard then 3 else 2
  let st :=
    if !d.on MOT_CTL_EN then stDisabled
    else if p != sgn 48 (uns 48 p) || len < 1 || 2 ^ 31 ≤ len || act == 3 || 5 ≤ cp then stBadReq
    else if p ≤ d.motPos then stPast
    else if d.schedFull need then stSchFull
    else if 2 ≤ c.wins.length || (match c.wins.getLast? with | some w => p < w.close | none => false) then stOverlap
    else stOk
  if st != stOk then (d, st)
  else
    let g : Int := d.get MOT_GUARD_COUNTS
    let es : List Sched := [{ pos := p, code := 5, arg := n, slot := bits sub 0 2, act := act }] ++
      [{ pos := p + len, code := 2, arg := n }] ++
      (if guard then [{ pos := if len ≤ g then p else p + len - g, code := 1, arg := n }] else [])
    let ws := c.wins ++ [⟨p, p + len, guard, if cp = 0 then none else some (cp - 1), false⟩]
    let seq := (c.get CH_MWSTAT_WSEQ + (ws.filter fun w => !w.opened).length) % 256
    ((d.schedule es).modChan n fun c => { c with wins := ws, regs := c.regs.set CH_MWSTAT_QUEUED ws.length },
      256 * seq)

/-- The start of an MSORT (R334): its block is checked, a sort slot is taken, DEADLINE and GATE are created. Answers the status. -/
def Device.msortStart (owner block : Nat) (d : Device) : Device × Nat :=
  let gate := sgn 64 (bits block 320 64)
  let dead := sgn 64 (bits block 384 64)
  let ok := fun p : Int => p == sgn 48 (uns 48 p)
  let free := (List.range 1024).find? fun i => (d.sortSlot i).isNone
  if !d.on MOT_CTL_EN || !d.on CT_CTL_EN then (d, stDisabled)
  else if !ok gate || !ok dead || gate ≤ dead || bits block 449 63 != 0 then (d, stBadReq)
  else if dead ≤ d.motPos || gate ≤ d.motPos then (d, stPast)
  else if d.schedFull 2 then (d, stSchFull)
  else match free with
    | none => (d, stSchFull)
    | some i =>
      let s : SortSlot := { slot := i, cell := bits block 0 64, owner := some owner, block := block }
      ((d.schedule [{ pos := dead, code := 3, arg := i }, { pos := gate, code := 4, arg := i }]).modMot fun m =>
        { m with slots := m.slots ++ [s] }, stOk)

/-- The entries of a sort slot and the slot are given up (R334). -/
def Device.dropSlot (i : Nat) (d : Device) : Device :=
  d.modMot fun m => { m with
    sched := m.sched.filter fun e => decide (¬ ((e.code = 3 ∨ (e.code = 4 ∧ e.host = false)) ∧ e.arg = i))
    due := m.due.filter fun x => decide (¬ ((x.e.code = 3 ∨ (x.e.code = 4 ∧ x.e.host = false)) ∧ x.e.arg = i))
    slots := m.slots.filter fun s => decide (s.slot ≠ i) }

/-- The rest of an MSORT of channel `n` (R325 to R330, R334): find the cell, write and grade its record, arm or disarm its gate. Answers a memory error, 3 for a stall, and the status word. -/
def Device.msortFinish (n : Nat) (s : SortSlot) (d : Device) : Device × Nat × Nat :=
  let blk := s.block
  let car := bits blk 64 48
  let late := s.late || d.mot.due.any fun x => x.e.code == 3 && x.e.arg == s.slot && decide (x.stamp < d.dt)
  if d.leafStall then (d, 3, 0)
  else match (if s.cell = 0 then d.carrierCell car else (d, 0, some s.cell)) with
    | (d, 3, _) => (d, 3, 0)
    | (d, _, none) => (d.dropSlot s.slot, 0, stNoMap)
    | (d, _, some id) =>
      if badId id then (d.dropSlot s.slot, 0, stBadId)
      else match d.ctFind id with
        | (d, 0, found) =>
          let (d, e, h, isNew) := match found with
            | some h => (d, 0, some h, false)
            | none => (match d.ctSlot id with | (d, e, h) => (d, e, h, true))
          if e != 0 then (d, e, 0)
          else match h with
            | none =>
              ((d.modSlot s.slot fun x => { x with owner := none, out := none }), 0, stFull)
            | some h =>
              let (d, e, old) := if isNew then (d, 0, setBits id 91 1 1) else d.ctRead h
              if e != 0 then (d, e, 0)
              else
                let st0 := cellState old
                let m := setFields old [(384, 64, bits blk 128 64), (448, 64, bits blk 192 64),
                  (512, 32, bits blk 256 32), (544, 32, bits blk 288 32), (704, 48, car), (608, 21, d.lcn n)]
                let k := kValue m (d.get CT_KMINDT_DT) d.freeVal
                let d := d.useFree
                let m := setFields m [(88, 1, b2n k.isSome), (576, 32, uns 32 (k.getD 0))]
                match d.grade m st0 with
                | (d, 3, _, _) => (d, 3, 0)
                | (d, _, cbin, gate) =>
                  let coast := d.on MOT_STAT_COAST || (d.chan n).on CH_MWSTAT_COAST || s.cut
                  let bin := if bit blk 448 || coast || late then 63 else cbin
                  let m := setFields m [(80, 8, cbin), (72, 8, bin), (89, 1, b2n late), (90, 1, b2n coast),
                    (64, 8, if bin == 63 then 4 else 3)]
                  match d.ctChange h m false with
                  | (d, 0) =>
                    let d := if isNew then d.ctLive 1 else d
                    let out := if bin != 63 && gate < 8 then some gate else none
                    let d := (d.modSlot s.slot fun x => { x with owner := none, cell := id, out := out }).modMot fun x =>
                      { x with slots := x.slots.filter fun y => decide (0 < y.left ∨ y.owner.isSome) }
                    (d, 0, bin * 2 ^ 8 + cbin * 2 ^ 16 + b2n k.isSome * 2 ^ 24 + b2n late * 2 ^ 25 +
                      b2n coast * 2 ^ 26 + b2n (cellNoform m) * 2 ^ 27)
                  | (d, e) => (d, e, 0)
        | (d, e, _) => (d, e, 0)

end Sys2Proof.Machine
end

