-- ==== Sys2Proof/Machine/Fail.lean ====
section
/-! DEFINITION. Expectations at device level and the fail unit (R221 to R223, R264 to R271), and the offers of capture triggers that they make (R275, R276). -/

namespace Sys2Proof.Machine

/-! ### Trigger offers -/

/-- A forced trigger stamped `t` (R276). -/
def Device.forceCap (n t : Nat) (d : Device) : Device :=
  d.modCap n fun u => if u.state == 0 then u else { u with offers := u.offers ++ [(t, false)] }

/-! ### Fail records -/

/-- The 32 bytes of a fail record, SEQ 0 (R265). -/
def failRecord (dt lcn qty xid src idx : Nat) (value : Int) (flags : Nat) : List Nat :=
  toBytes 8 dt ++ toBytes 4 (lcn % 2 ^ 21 + qty * 2 ^ 21 + xid * 2 ^ 24 + src * 2 ^ 31) ++
    toBytes 4 idx ++ toBytes 8 (uns 64 value) ++ toBytes 4 flags ++ [0, 0, 0, 0]

/-- `n` more increments carried for a counter (R270). -/
def carry (ch src n : Nat) : List (Nat × Nat × Nat) → List (Nat × Nat × Nat)
  | [] => [(ch, src, n)]
  | x :: t => if x.1 = ch ∧ x.2.1 = src then (ch, src, x.2.2 + n) :: t else x :: carry ch src n t

/-- A failure counted for its channel while CNT_EN = 1 (R270, R292). -/
def Device.countFail (ch src : Nat) (d : Device) : Device :=
  if d.on FAIL_CTL_CNT_EN then { d with fail := { d.fail with carried := carry ch src 1 d.fail.carried } } else d

/-- A dropped record (R269). -/
def Device.dropFail (d : Device) : Device :=
  let d := (d.bump FAIL_LOST_CNT 1).setB FAIL_STAT_RING_FULL true
  if d.fail.dropped then d else { d with fail := { d.fail with dropped := true } }.raise 177

/-- SEQ moves on (R266). -/
def Device.nextSeq (d : Device) : Device := d.set FAIL_SEQ_SEQ (d.get FAIL_SEQ_SEQ + 1)

/-- A failure reaches the fail unit's input queue of 4,096 records; a full queue drops it (R269). -/
def Device.queueFail (it : FailItem) (d : Device) : Device :=
  if d.fail.queue.length < 4096 then { d with fail := { d.fail with queue := d.fail.queue ++ [it] } }
  else d.nextSeq.dropFail

/-- One failing evaluation of entry `e` (R222, R265): record, FAILED, the trigger offer, and at the first failure the action. -/
def Device.expectFail (n q t : Nat) (v : Int) (flags e : Nat) (d : Device) : Device :=
  let c := d.chan n
  let first := !bit c.acted e
  let act := bits (c.ac.xw e 0) 4 2
  let fl := b2n (v < sgn 32 (c.ac.xw e 1)) + 2 * b2n (sgn 32 (c.ac.xw e 2) < v) + 4 * b2n first + 8 * act +
    32 * b2n (bit flags 4) + 64 * b2n (bit flags 9) + 128 * b2n (bit flags 2) + 256 * c.ac.regs.get SET_MODE_XSET
  let d := (d.countFail n 0).queueFail ⟨n, 0, failRecord t (d.lcn n) q e 0 (c.get CH_STEPIDX_IDX) v fl⟩
  let d := (d.modChan n (Chan.xMark e)).offerCap n 2 t fun a => bit a e
  if !first then d
  else match act with
    | 0 => d
    | 1 => d.raise (n / 8)
    | 2 =>
      let d := (d.modChan n (Chan.xAction e true)).abortStep n
      let k := n / 64
      let d := d.modThr k (n % 64) fun th =>
        if th.state == 0 then th else { th with redirect := some (c.ac.xw e 3) }
      let th := d.thread k (n % 64)
      if th.onStore || (th.state == 2 && (match th.issued with | some w => !longRoutine w | none => true)) then d
      else d.redirectThread k (n % 64)
    | _ => (d.modChan n (Chan.xAction e false)).snuffCh 19 n

/-- A value of quantity `q` is evaluated at DT `t` against the active set (R222). -/
def Device.expectation (n q t : Nat) (v : Int) (flags : Nat) (d : Device) : Device :=
  ((d.chan n).xFails q t v).foldl (fun d e => d.expectFail n q t v flags e) d

/-! ### Strobes -/

/-- A conversion is delivered to every consumer (R92, R222, R272). -/
def Device.deliver (n : Nat) (k : Conv) (d : Device) : Device :=
  let d := d.modChan n (Chan.take k)
  let d := if (d.capt n).state == 0 then d else d.modCap n fun u => { u with conv := u.conv ++ [k] }
  if k.valid then d.expectation n (b2n k.isI) k.dt k.code k.flags else d

/-- The accumulators take the next I point whose V is known; its power is a strobe (R145, R222). -/
def Device.accIntegrate (n : Nat) (d : Device) : Device :=
  let (c, r) := (d.chan n).integrate (d.chip (chipOf n)).period d.dt
  let d := d.modChan n fun _ => c
  match r with
  | some (p, w) => d.expectation n 2 p.dt w p.flags
  | none => d

/-- A loop update with its DVDT evaluation from the 16th on (R136, R222). The slope's rounding is open (log entry 3). -/
def Device.loopUpdateX (n : Nat) (d : Device) : Device :=
  let was := (d.chan n).vMeans.head?
  let d := d.loopUpdate n
  let c := d.chan n
  if c.vMeans.head? == was || c.nUpd < 16 || c.vMeans.length < 16 then d
  else
    let (a, b) := slopeOf (c.vMeans.take 16)
    d.expectation n 3 d.dt (openDiv (a * secLen) (b * (2 ^ 32 : Nat))) 0

/-- An impedance window completes at its end; ZMAG is a strobe (R151, R222). -/
def Device.impedWindowEnd (n : Nat) (d : Device) : Device :=
  let c := d.chan n
  match c.imp, c.fmtStart with
  | some m, some s =>
    match m.w0 with
    | some w0 =>
      let e := c.ac.windowEnd s w0 m.periods
      if e ≤ d.dt then
        let d := (d.modChan n (Chan.impedEnd d.freeVal)).useFree
        d.expectation n 4 e ((d.chan n).get CH_ZMAG_NOHM) 0
      else d
    | none => d
  | _, _ => d

/-! ### The fail unit -/

/-- Records in the bank ring (R267). -/
def Device.failOcc (d : Device) : Nat := (d.get FAIL_RWR_IDX + 262144 - d.get FAIL_RRD_IDX) % 262144

/-- The spill ring's size in records: LOG2 of 7 to 32, else none (R292). -/
def Device.spillSize (d : Device) : Nat :=
  let l := d.get FAIL_SSIZE_LOG2
  if 7 ≤ l && l ≤ 32 then 2 ^ l else 0

/-- Records in the spill ring (R268). -/
def Device.spillOcc (d : Device) : Nat :=
  if d.spillSize = 0 then 0 else (d.get FAIL_SWR_IDX + d.spillSize - d.get FAIL_SRD_IDX % d.spillSize) % d.spillSize

/-- The carried increments of one counter are added by an atomic add at the cluster bank; a refusal or an uncorrectable word leaves them carried (R270). Crossing FAIL_CNTTHR raises GRP.g. -/
def Device.addCarried (ch src : Nat) (d : Device) : Device :=
  match d.fail.carried.find? fun x => x.1 == ch && x.2.1 == src with
  | none => d
  | some x =>
    let a := targetBase (ch / 64) + d.get FAIL_CNTBASE_BASE + 16 * (ch % 64) + 8 * src
    match d.atomicMem 32 a 8 (fun v => v + x.2.2) with
    | (d, ⟨old, 0⟩) =>
      let d := { d with fail := { d.fail with carried := d.fail.carried.erase x } }
      let thr := d.get FAIL_CNTTHR_THR
      if thr != 0 && old < thr && thr ≤ old + x.2.2 then d.raise (ch / 8) else d
    | (d, _) => d

/-- A record enters the bank ring or is dropped (R266 to R269). -/
def Device.storeFail (bs : List Nat) (d : Device) : Device :=
  let w := d.get FAIL_RWR_IDX
  if !d.on FAIL_CTL_EN then d.bump FAIL_LOST_CNT 1
  else if (w + 1) % 262144 = d.get FAIL_RRD_IDX then d.dropFail
  else
    match d.writeMem 32 5 (0x3000000 + 32 * w) 32 (ofBytes bs) false with
    | (d, ⟨_, 0⟩) =>
      let occ := d.failOcc
      let d := { d.set FAIL_RWR_IDX (w + 1) with
        fail := { d.fail with dropped := false, waiting := d.fail.waiting ++ [d.dt] } }
      let m := d.get FAIL_RWM_REC
      if occ < m && m ≤ d.failOcc then (d.setB FAIL_STAT_RING_WM true).raise 176 else d
    | (d, _) => d.bump FAIL_LOST_CNT 1

/-- Row FAIL_RECORD_WRITE: the fail unit takes the oldest failure (R264 to R270). -/
def Device.failRecordWrite (d : Device) : Device :=
  match d.fail.queue with
  | [] => d
  | it :: rest =>
    if d.stalled (0x3000000 + 32 * d.get FAIL_RWR_IDX) 32 then d
    else
      let bs := it.bytes.take 28 ++ toBytes 4 (d.get FAIL_SEQ_SEQ)
      let d := ({ d with fail := { d.fail with queue := rest } } : Device).nextSeq
      (d.storeFail bs).addCarried it.ch it.src

/-- Moves up to `n` records from the bank ring to the spill ring (R268, R269). -/
def Device.spillRecords : Nat → Device → Device
  | 0, d => d
  | n + 1, d =>
    if d.failOcc = 0 || d.fail.stopped || d.spillOcc + 1 = d.spillSize then d
    else
      let r := d.get FAIL_RRD_IDX
      let taken := fun d : Device =>
        ({ d.set FAIL_RRD_IDX (r + 1) with fail := { d.fail with waiting := d.fail.waiting.tail } } : Device)
      match d.readMem 32 4 (0x3000000 + 32 * r) 32 with
      | (_, ⟨_, 3⟩) => d
      | (d, ⟨_, 2⟩) => Device.spillRecords n (taken (d.bump FAIL_LOST_CNT 1))
      | (d, ⟨v, _⟩) =>
        let w := d.get FAIL_SWR_IDX
        match d.writeMem 32 5 (d.get FAIL_SBASE_ADDR + 32 * w) 32 v false with
        | (_, ⟨_, 3⟩) => d
        | (d, ⟨_, 1⟩) =>
          ({ d.setB FAIL_STAT_SPILLERR true with fail := { d.fail with stopped := true } } : Device).raise 180
        | (d, ⟨_, e⟩) =>
          let d := if e = 0 then d else d.bump FAIL_LOST_CNT 1
          let occ := d.spillOcc
          let d := taken (d.set FAIL_SWR_IDX ((w + 1) % d.spillSize))
          let m := 4096 * d.get FAIL_SWM_BLK
          let d := if m != 0 && occ < m && m ≤ d.spillOcc then (d.setB FAIL_STAT_SPILL_WM true).raise 178 else d
          let d := if d.spillOcc + 1 = d.spillSize then (d.setB FAIL_STAT_SPILL_FULL true).raise 179 else d
          Device.spillRecords n d

/-- Row FAIL_SPILL_MOVE: with 128 records waiting, or the oldest 1 ms old, the waiting records move (R268). -/
def Device.failSpillMove (d : Device) : Device :=
  let occ := d.failOcc
  let ws := d.fail.waiting.drop (d.fail.waiting.length - occ)
  let d := { d with fail := { d.fail with waiting := ws } }
  let due := 128 ≤ occ || (match ws with | t :: _ => t + 1000 * usLen ≤ d.dt | [] => false)
  if d.on FAIL_CTL_SPILL && d.spillSize != 0 && due then d.spillRecords occ else d

/-- The SPILL bit of a write of FAIL_CTL (R268, R269): a change needs both rings empty and, to 1, a spill ring; any write of it lets moving go on. -/
def Device.failSpillMode (v : Bool) (d : Device) : Device :=
  let d := { d with fail := { d.fail with stopped := false } }
  if d.failOcc != 0 || d.spillOcc != 0 || (v && d.spillSize = 0) then d else d.setB FAIL_CTL_SPILL v

end Sys2Proof.Machine
end

