-- ==== Sys2Proof/Machine/Capture.lean ====
section
/-! DEFINITION. The capture engine of a cluster (R272 to R291). -/

namespace Sys2Proof.Machine

/-! ### Descriptor fields (R274) -/

def CapCh.w64 (u : CapCh) (i : Nat) : Nat := u.word i + 2 ^ 32 * u.word (i + 1)
def CapCh.profile (u : CapCh) : Bool := bit (u.word 0) 0
def CapCh.spill (u : CapCh) : Bool := bit (u.word 0) 1
def CapCh.sel (u : CapCh) : Nat := bits (u.word 0) 2 2
def CapCh.stop (u : CapCh) : Bool := bit (u.word 0) 4
def CapCh.mfail (u : CapCh) : Bool := bit (u.word 0) 5
def CapCh.evt (u : CapCh) : Bool := bit (u.word 0) 6
def CapCh.bcnout (u : CapCh) : Bool := bit (u.word 0) 7
def CapCh.bcnnum (u : CapCh) : Nat := bits (u.word 0) 8 8
def CapCh.homode (u : CapCh) : Bool := bit (u.word 0) 20
def CapCh.pre (u : CapCh) : Nat := bits (u.word 2) 0 15
def CapCh.avgN (u : CapCh) : Nat := max 1 (u.word 3)
def CapCh.post (u : CapCh) : Nat := u.w64 4
def CapCh.holdoff (u : CapCh) : Nat := u.w64 6
def CapCh.ncap (u : CapCh) : Nat := u.word 8
def CapCh.maskOn (u : CapCh) : Bool := bit (u.word 9) 8
def CapCh.maskNo (u : CapCh) : Nat := bits (u.word 9) 0 4
/-- Bytes of a sample (R277). -/
def CapCh.ssize (u : CapCh) : Nat := if u.sel == 3 then 16 else 8
/-- Sample period in fine steps (R272). -/
def CapCh.period (u : CapCh) (half : Nat) : Nat := u.avgN * half * frameLen

/-- A descriptor word list breaks the rules of BAD_DESC (R277). -/
def CapCh.badDesc (u : CapCh) : Bool :=
  bits (u.word 0) 21 11 != 0 || bits (u.word 2) 15 17 != 0 || bits (u.word 9) 9 23 != 0 ||
    bits (u.word 9) 4 4 != 0 || u.word 11 != 0 || u.w64 14 != 0 || u.sel == 0 || 12 ≤ u.tsrc ||
    u.word 3 == 0 || 65536 < u.word 3 || 16384 < u.pre || 2 ^ 32 < u.post || (!u.profile && u.holdoff != 0)

/-! ### Causes -/

/-- Sets bit `i` of CAP_CAUSE: 0 DONE, 1 MASK, 2 MISSED, 3 TRUNC, 4 RINGFULL, 5 SPILLERR, 6 NOSPACE; CAP.k under EVTEN (R289). -/
def Device.capCause (k i : Nat) (d : Device) : Device :=
  let f := match i with
    | 0 => CAP_CAUSE_DONE | 1 => CAP_CAUSE_MASK | 2 => CAP_CAUSE_MISSED | 3 => CAP_CAUSE_TRUNC
    | 4 => CAP_CAUSE_RINGFULL | 5 => CAP_CAUSE_SPILLERR | _ => CAP_CAUSE_NOSPACE
  let d := d.modCl k (Cluster.setB f true)
  if bit ((d.clus k).get CAP_CTL_EVTEN) i then d.raise (144 + k) else d

/-- `x` triggers of channel `n` missed (R276, R283). -/
def Device.capMissed (n x : Nat) (d : Device) : Device :=
  if x = 0 then d
  else (d.modCap n fun u =>
    { u with regs := u.regs.bump CAP_MISSED_CNT x, missed := min (2 ^ 32 - 1) (u.missed + x) }).capCause (n / 64) 2

/-- Offers stamped before `upTo` are settled: those at or after the accepted stamp `t0` count as missed (R276, R283). -/
def Device.settleOffers (n t0 upTo : Nat) (d : Device) : Device :=
  let u := d.capt n
  let gone := u.offers.filter fun o => decide (o.1 < upTo)
  (d.modCap n fun u => { u with offers := u.offers.filter fun o => decide (upTo ≤ o.1) }).capMissed n
    (gone.filter fun o => decide (t0 ≤ o.1)).length

/-! ### Ring memory -/

/-- Base, size, write and read offset of the ring a record uses (R279). -/
def Device.capRing (k : Nat) (spill : Bool) (d : Device) : Nat × Nat × Nat × Nat :=
  let x := d.clus k
  if spill then (x.get CAP_SBASE_ADDR, x.get CAP_SSIZE_SIZE, x.get CAP_SWR_OFS, x.get CAP_SRD_OFS)
  else (targetBase k + x.get CAP_RBASE_BASE, x.get CAP_RSIZE_SIZE, x.get CAP_RWR_OFS, x.get CAP_RRD_OFS)

/-- Bytes a ring can still reserve: it counts as full below 256 free bytes (R279). -/
def ringRoom (size w r : Nat) : Nat := size - 256 - (w + size - r % max 1 size) % max 1 size

/-- Staged writes leave in order of each channel while memory takes them; a refused one sets WERR on its capture's record and SPILLERR (R279). -/
def Device.flushStage (k : Nat) (d : Device) : Device :=
  let st := (d.clus k).stage
  if st.isEmpty then d
  else
    let r := st.foldl (fun (x : Device × List (Nat × Nat × Nat)) e =>
      if x.2.any fun q => q.1 == e.1 then (x.1, x.2 ++ [e])
      else match x.1.writeMem (16 + k) 1 e.2.1 8 e.2.2 false with
        | (_, ⟨_, 3⟩) => (x.1, x.2 ++ [e])
        | (d, ⟨_, 1⟩) => ((d.modCap e.1 fun u => { u with flags := setBit u.flags 10 true }).capCause k 5, x.2)
        | (d, _) => (d, x.2)) (d, [])
    r.1.modCl k fun x => { x with stage := r.2 }

/-- The stages of every cluster (R279). -/
def Device.flushStages (d : Device) : Device := (List.range 16).foldl (fun d k => d.flushStage k) d

/-- One 8-byte word of a record written at byte `x` of its reservation; a write that stalls is staged, a spill write in 64 KiB (R279, R356). Answers 0 written or staged, 1 refused, 4 staging full. -/
def Device.capWord (n x v : Nat) (d : Device) : Device × Nat :=
  let u := d.capt n
  let k := n / 64
  let (base, size, _, _) := d.capRing k u.spill
  let a := base + (u.ofs + x) % max 1 size
  let d := d.flushStage k
  let st := (d.clus k).stage
  let later := fun d : Device => (d.modCl k fun c => { c with stage := c.stage ++ [(n, a, v)] }, 0)
  if u.spill && 8192 ≤ st.length then (d, 4)
  else if st.any fun e => e.1 == n then later d
  else
    match d.writeMem (16 + k) 1 a 8 v false with
    | (_, ⟨_, 3⟩) => later d
    | (d, ⟨_, 1⟩) => (d.capCause k 5, 1)
    | (d, _) => (d, 0)

/-- Words written one after the other from byte `x` on; the first error stops. -/
def Device.capWords (n : Nat) : Nat → List Nat → Device → Device × Nat
  | _, [], d => (d, 0)
  | x, v :: vs, d =>
    match d.capWord n x v with
    | (d, 0) => Device.capWords n (x + 8) vs d
    | (d, e) => (d, e)

/-- The words of a stored sample in a record (R272). -/
def CapCh.sampleWords (u : CapCh) (s : Nat × Nat × Nat) : List Nat :=
  (if bit u.sel 0 then [s.2.1] else []) ++ (if bit u.sel 1 then [s.2.2] else [])

/-! ### Samples -/

/-- The DT by which a conversion is placed in a half-ramp: its crossing, or a moment before the end of its half-ramp for CLIP and TAPERR conversions, which carry that end (R92, R272). -/
def Conv.place (k : Conv) : Nat := if bit k.flags 3 || bit k.flags 5 then k.dt - 1 else k.dt

/-- The 8 bytes of one input of a sample over [a, b) (R272). -/
def sampleWord (isI : Bool) (avg a b : Nat) (low : Bool) (ks : List Conv) : Nat :=
  let xs := ks.filter fun k => k.isI == isI && decide (a ≤ k.place) && decide (k.place < b)
  let vs := xs.filter Conv.valid
  let used := if avg == 1 then xs.take 1 else vs
  let m := used.length
  let e := if m = 0 then 0
    else roundDiv (256 * (used.foldl (fun s k => s + k.u) 0)) ((m : Int) * (2 ^ 32 : Nat))
  let fl := xs.foldl (fun s k => bor s (bits k.flags 2 9)) 0
  let valid := if avg == 1 then used.any Conv.valid else !vs.isEmpty
  let mix := isI && xs.any fun k => bit k.flags 11 != bit ((xs.head?.map (·.flags)).getD 0) 11
  uns 48 e + 2 ^ 48 * b2n valid + 2 ^ 49 * fl + 2 ^ 58 * b2n (isI && low) + 2 ^ 59 * b2n mix +
    2 ^ 60 * min 15 (xs.length - vs.length)

/-- The extended code and VALID of a sample word. -/
def sampleCode (w : Nat) : Int := sgn 48 w
def sampleValid (w : Nat) : Bool := bit w 48

/-! ### Masks -/

/-- Word `j` of point `i` of the mask table of a capture; 0 where the engine's regions refuse the read (R286, R346). -/
def Device.maskWord (n i j : Nat) (d : Device) : Nat :=
  let k := n / 64
  let a := targetBase k + (d.clus k).get CAP_MBASE_BASE + (d.capt n).maskNo * 0x1000 + 16 * i + 4 * j
  if d.allowed (16 + k) k 0 (a / 4096) false then d.rd a 4 else 0

def Device.maskX (n i : Nat) (d : Device) : Int := sgn 32 (d.maskWord n i 0)

/-- The mask header is valid for the recorded inputs (R286). -/
def Device.maskOk (n : Nat) (d : Device) : Bool :=
  let h := d.maskWord n 0 3
  let np := bits h 0 9
  2 ≤ np && np ≤ 256 && bits h 11 21 == 0 && (if bit h 9 then bit (d.capt n).sel 1 else bit (d.capt n).sel 0)

/-- The first point `i` from `i` on, of `np`, whose segment holds sample index `j`; the Bool reports an unordered pair (R286, R287). -/
def Device.maskSeg (n np : Nat) (j : Int) (d : Device) : Nat → Nat → Option Nat × Bool
  | 0, i => (some i, false)
  | f + 1, i =>
    if np ≤ i + 1 then (some i, false)
    else if d.maskX n (i + 1) ≤ d.maskX n i then (none, true)
    else if j < d.maskX n (i + 1) then (some i, false)
    else Device.maskSeg n np j d f (i + 1)

/-- The test of sample index `j`: 0 not tested or inside, 1 below, 2 above, 3 unordered points (R287). -/
def Device.maskTest (n : Nat) (j : Int) (v i : Nat) (d : Device) : Nat :=
  let h := d.maskWord n 0 3
  let np := bits h 0 9
  let w := if bit h 9 then i else v
  if !(d.capt n).maskOn || !sampleValid w || j < d.maskX n 0 then 0
  else match d.maskSeg n np j np 0 with
    | (none, _) => 3
    | (some p, _) =>
      let x0 := d.maskX n p
      if np ≤ p + 1 && x0 < j then 0
      else
        let at_ := fun q : Nat => sgn 32 (d.maskWord n p q)
        let nx := fun q : Nat => sgn 32 (d.maskWord n (p + 1) q)
        let dx := d.maskX n (p + 1) - x0
        let f := fun q => if bit h 10 || np ≤ p + 1 then at_ q
          else truncDiv (at_ q * dx + (nx q - at_ q) * (j - x0)) dx
        let c := roundDiv (sampleCode w) 256
        if c < f 1 then 1 else if f 2 < c then 2 else 0

/-- One tested sample: on a violation MVIOL, MFIRST, the mask counter, CAP_CAUSE.MASK and the fail record (R287). Answers 0, 1 violation, 2 unordered points. -/
def Device.maskSample (n : Nat) (s : Nat × Nat × Nat) (d : Device) : Device × Nat :=
  let u := d.capt n
  let j : Int := (s.1 : Int) - u.t0
  let r := d.maskTest n j s.2.1 s.2.2
  if r = 0 then (d, 0)
  else if r = 3 then (d.modCap n fun u => { u with mfirst := none }, 2)
  else
    let isI := bit (d.maskWord n 0 3) 9
    let w := if isI then s.2.2 else s.2.1
    let first := u.mviol == 0
    let d := d.modCap n fun u =>
      { u with mviol := min (2 ^ 32 - 1) (u.mviol + 1), mfirst := if first then some j else u.mfirst }
    let d := (d.countFail n 1).addCarried n 1
    let d := if first then d.capCause (n / 64) 1 else d
    let start := u.grid.getD 0 + s.1 * u.period (d.chip (chipOf n)).half
    let fl := b2n (r == 1) + 2 * b2n (r == 2) + 32 * b2n (bit w 51) + 64 * b2n (bit w 56) + 128 * b2n (bit w 49)
    let d := if first && u.mfail then
        d.queueFail ⟨n, 1, failRecord start (d.lcn n) (b2n isI) u.maskNo 1
          ((d.chan n).get CH_STEPIDX_IDX) (sampleCode w) fl⟩
      else d
    (d, 1)

/-! ### Arming -/

/-- The blocks of the pre-trigger area that the other channels of the cluster hold, with channel `c` left out (R278). -/
def Cluster.blocks (x : Cluster) (c : Nat) : List (Nat × Nat) :=
  ((x.cap.val.mapIdx fun i u => if i == c then none else u.block).filterMap id).filter fun b => 0 < b.2

/-- The lowest 256 B granule from which `len` bytes are free of blocks; none when the area has no such place (R278). -/
def firstFit (bs : List (Nat × Nat)) (size len : Nat) : Nat → Nat → Option Nat
  | 0, _ => none
  | f + 1, o =>
    if size < o + len then none
    else match bs.find? fun b => decide (b.1 < o + len ∧ o < b.1 + b.2) with
      | some b => firstFit bs size len f (b.1 + b.2)
      | none => some o

/-- Bytes of the largest free block (CAP_AFREE). -/
def Cluster.areaFree (x : Cluster) : Nat :=
  let bs := x.blocks 64
  let size := x.get CAP_ASIZE_SIZE / 256 * 256
  let starts := 0 :: bs.map fun b => b.1 + b.2
  (starts.map fun s =>
    if bs.any fun b => decide (b.1 ≤ s ∧ s < b.1 + b.2) then 0
    else ((bs.filter fun b => decide (s ≤ b.1)).map (·.1)).foldl min size - s).foldl max 0

/-- An AUTO capture triggers itself at the first sample boundary at or after its arming, once its grid has begun (R275). -/
def CapCh.auto (half : Nat) (u : CapCh) : CapCh :=
  match u.grid with
  | some g =>
    if u.tsrc == 10 && u.state == 1 then
      let p := max 1 (u.period half)
      let t := if u.armDt ≤ g then g else g + alignUp (u.armDt - g) p
      { u with offers := u.offers ++ [(t, true)] }
    else u
  | none => u

/-- Arms the capture of channel `n` with descriptor `i` (R277): the checks in code order, and on success the armed capture. Answers the code. -/
def Device.capArm (n i : Nat) (d : Device) : Device × Nat :=
  let k := n / 64
  let x := d.clus k
  match d.readWords (16 + k) 0 4 16 (targetBase k + x.get CAP_DBASE_BASE + 64 * (i % 256)) with
  | (d', ws, e) =>
    let old := d.capt n
    let u : CapCh := { old with desc := ws }
    let size := x.get CAP_ASIZE_SIZE / 256 * 256
    let len := alignUp (u.pre * u.ssize) 256
    let fit := if len = 0 then some 0 else firstFit (x.blocks (n % 64)) size len 65 0
    let d1 := d'.modCap n fun _ => u
    let code :=
      if e != 0 || u.badDesc then 1
      else if fit.isNone then 2
      else if !u.spill && x.get CAP_RSIZE_SIZE < 512 + (u.pre + u.post) * u.ssize then 3
      else if u.maskOn && !d1.maskOk n then 4
      else if (if u.spill then x.get CAP_SSIZE_SIZE else x.get CAP_RSIZE_SIZE) = 0 then 5
      else if 2 ≤ old.state then 6
      else 0
    let a := d.chip (chipOf n)
    let atStart := a.ramping && !a.on AFE_TPRSTAT_DIR && a.get AFE_TPRSTART_DT == d.dt
    let regs := old.regs.set CAP_ERR_CODE code
    let new : CapCh :=
      if code != 0 then { old with regs := regs }
      else
        CapCh.auto a.half
          { regs := ((regs.set CAP_STAT_STATE 1).set CAP_STAT_DESC (i % 256)).set CAP_NCAP_CNT 0
            desc := ws, armDt := d.dt, bufFrom := d.dt
            grid := if atStart then some d.dt else none
            capseq := old.capseq
            block := fit.map fun o => (o, len) }
    let d := d'.modCap n fun _ => new
    (if code = 2 then d.capCause k 6 else d, code)

/-- The capture is IDLE and holds nothing (R273). -/
def CapCh.idle (u : CapCh) : CapCh :=
  { regs := u.regs.set CAP_STAT_STATE 0, capseq := u.capseq }

/-! ### Closing a record -/

/-- The markers of a record: those of the last eight that lie in [a, b), in DT order, and the count of the earlier ones there (R281). -/
def capMarks (ms : List (Nat × Nat)) (a b : Nat) : List (Nat × Nat) × Nat :=
  let inside := fun m : Nat × Nat => decide (a ≤ m.1) && decide (m.1 < b)
  let last := ms.drop (ms.length - 8)
  (last.filter inside, ((ms.take (ms.length - 8)).filter inside).length)

/-- The header of R280 as 32 words of 8 bytes. -/
def CapCh.header (u : CapCh) (lcn half endDt bcnDt : Nat) (first : Bool) (prevEnd : Nat) : List Nat :=
  let (t, own, idx) := u.trig.getD (0, false, 0)
  let g := u.grid.getD 0
  let p := u.period half
  let s0 := g + (u.t0 - u.npre) * p
  let stop := s0 + (u.npre + u.npost) * p
  let (ms, lost) := capMarks u.marks s0 stop
  let fl := u.flags + 32 * b2n (!own) + 64 * b2n (own && u.tsrc == 7) + 128 * b2n u.spill +
    256 * b2n (0 < lost) + 512 * b2n first
  let dead := if u.profile || first then 0 else t - prevEnd
  let mf := match u.mfirst with | some j => uns 32 j | none => 0x80000000
  let w0 := 1 + 256 * u.get CAP_STAT_DESC + 2 ^ 16 * u.sel + 2 ^ 18 * b2n u.profile + 2 ^ 19 * u.tsrc + 2 ^ 32 * lcn
  [w0, u.len, t, s0, u.npost, u.npre + 2 ^ 32 * fl, p, dead, u.w64 12, u.recMissed + 2 ^ 32 * idx,
    u.mviol + 2 ^ 32 * mf, ms.length + 256 * (lost % 2 ^ 24) + 2 ^ 32 * ((u.capseq + 1) % 2 ^ 32),
    bcnDt, endDt, 0, 0] ++
  (List.range 16).map fun i =>
    match ms[i / 2]? with
    | some m => if i % 2 = 0 then m.1 else m.2 % 2 ^ 32 + 2 ^ 32 * uns 32 (((m.1 - g) / max 1 p : Nat) - (u.t0 : Int))
    | none => 0

/-- EXEC_AT of the Beacon trigger a record sent or received (R280, R288): known when the TRIG is scheduled or has become visible. -/
def Device.capBcn (u : CapCh) (d : Device) : Nat :=
  let (t, own, _) := u.trig.getD (0, false, 0)
  if own && u.tsrc == 7 then t
  else if bit u.flags 11 then
    match d.bcn.execs.find? fun e => e.kind == 0 && e.num == u.bcnnum with
    | some e => e.at_
    | none => match d.bcn.trigs.find? fun x => x.1 == u.bcnnum && decide (t < x.2) with
      | some x => x.2
      | none => 0
  else 0

/-- The capture after a record that closed at `e` (R283, R284): IDLE once NCAP records have closed, else re-armed or in HOLDOFF. -/
def CapCh.after (e half : Nat) (u : CapCh) : CapCh :=
  let t := (u.trig.map (·.1)).getD 0
  let n := u.get CAP_NCAP_CNT + 1
  let r := ((u.regs.set CAP_NCAP_CNT n).set CAP_LASTDT_DT e)
  let u := { u with
    regs := r, capseq := (u.capseq + 1) % 2 ^ 32, last := some (t, e), mviol := 0, mfirst := none
    trig := none, npre := 0, npost := 0, flags := 0, samples := [], skip := 0 }
  if u.ncap != 0 && u.ncap ≤ n then u.idle
  else
    let re := if u.profile && !u.homode then max (t + u.holdoff * 128) e else e
    if e < re then { u with regs := u.regs.set CAP_STAT_STATE 4, armDt := re, bufFrom := re }
    else CapCh.auto half { u with
      regs := u.regs.set CAP_STAT_STATE 1, armDt := e, bufFrom := e
      skip := if u.profile && u.homode then u.holdoff else 0 }

/-- Closes the record of channel `n` with flag bits `fl`, `endDt` its ENDDT (R282): the header is written last; TRUNC, DONE and missed triggers are counted. -/
def Device.capClose (n fl endDt : Nat) (d : Device) : Device :=
  let k := n / 64
  let d := d.modCap n fun u => { u with flags := bor u.flags fl }
  let t0 := (((d.capt n).trig).map (·.1)).getD 0
  let u := d.capt n
  let half := (d.chip (chipOf n)).half
  let h := u.header (d.lcn n) half endDt (d.capBcn u) u.last.isNone ((u.last.map (·.2)).getD 0)
  let d := (d.capWords n 8 h.tail).1
  let d := (d.capWord n 0 (h.headD 0)).1
  let d := if bit u.flags 1 then (d.modCl k (Cluster.bump CAP_CNT_TRUNC 1)).capCause k 3 else d
  let d := if u.evt then d.capCause k 0 else d
  let d := d.settleOffers n t0 endDt
  d.modCap n (CapCh.after endDt half)

/-- A disarm (R277): an open record closes with ABORTED, and the capture is IDLE. -/
def Device.capDisarm (n : Nat) (d : Device) : Device :=
  let u := d.capt n
  let p := u.period (d.chip (chipOf n)).half
  let d := if u.state == 2 then
      d.capClose n 8 (if u.npost = 0 then d.dt else u.grid.getD 0 + (u.t0 + u.npost) * p + usLen) else d
  d.modCap n CapCh.idle

/-! ### Triggers -/

/-- The sample index that holds stamp `t`; none when the grid has none (R276). -/
def CapCh.indexOf (u : CapCh) (p t : Nat) : Option Nat :=
  match u.grid with
  | some g => if g ≤ t then some ((t - g) / max 1 p) else none
  | none => none

/-- The earliest offer: on equal stamps the TSRC source first (R276). -/
def earliest : List (Nat × Bool) → Option (Nat × Bool)
  | [] => none
  | o :: t => match earliest t with
    | none => some o
    | some b => if b.1 < o.1 || (b.1 == o.1 && b.2 && !o.2) then some b else some o

/-- Tests the pre-trigger samples of a newly accepted trigger (R287). -/
def Device.maskPre (n : Nat) : List (Nat × Nat × Nat) → Device → Device × Nat
  | [], d => (d, 0)
  | s :: t, d =>
    match d.maskSample n s with
    | (d, 0) => Device.maskPre n t d
    | (d, r) => match Device.maskPre n t d with | (d, r') => (d, max r r')

/-- Stores one post sample (or the trigger sample) and closes the record where it ends (R282). `e` is the DT at which it is complete. -/
def Device.capPost (n : Nat) (s : Nat × Nat × Nat) (e : Nat) (d : Device) : Device :=
  let u := d.capt n
  if u.post = 0 then d.capClose n 0 e
  else if bit u.flags 10 then d.capClose n 0 e
  else
    match d.capWords n (256 + (u.npre + u.npost) * u.ssize) (u.sampleWords s) with
    | (d, 4) => d.capClose n 2 e
    | (d, 1) => d.capClose n 1024 e
    | (d, _) =>
      let d := d.modCap n fun u => { u with npost := u.npost + 1 }
      match d.maskSample n s with
      | (d, r) =>
        let u := d.capt n
        if r = 2 || (r = 1 && u.stop) || bit u.flags 2 then d.capClose n 4 e
        else if u.npost = u.post then d.capClose n 0 e
        else if u.room ≤ u.npost then d.capClose n 2 e
        else d

/-- Post samples that were complete when the trigger was recognised. -/
def Device.capPosts (n : Nat) (t : Nat) : List (Nat × Nat × Nat) → Device → Device
  | [], d => d
  | s :: rest, d =>
    let u := d.capt n
    if u.state == 2 && (u.trig.map (·.1)) == some t then
      Device.capPosts n t rest (d.capPost n s (u.grid.getD 0 + (s.1 + 1) * u.period (d.chip (chipOf n)).half + usLen))
    else d

/-- The accepted trigger `o` at sample `i` (R276, R279, R288): the reservation, the pre-trigger samples, the Beacon request. -/
def Device.capAccept (n : Nat) (o : Nat × Bool) (i : Nat) (d : Device) : Device :=
  let k := n / 64
  let u := d.capt n
  let pre := u.samples.filter fun s => decide (s.1 < i)
  let pre := pre.drop (pre.length - u.pre)
  let post := u.samples.filter fun s => decide (i ≤ s.1)
  let (_, size, w, r) := d.capRing k u.spill
  let room := ringRoom size w r
  let need := 256 + (pre.length + u.post) * u.ssize
  if room < need && (!u.spill || room < 256 + u.ssize) then
    ((d.modCl k (Cluster.bump CAP_CNT_RINGFULL 1)).capCause k 4).capMissed n 1
  else
    let len := if need ≤ room then need else 256 + (room - 256) / u.ssize * u.ssize
    let fits := (len - 256) / u.ssize
    let pre := pre.drop (pre.length - fits)
    let d := d.modCl k fun x =>
      if u.spill then x.set CAP_SWR_OFS ((w + len) % size) else x.set CAP_RWR_OFS ((w + len) % size)
    let d := d.modCap n fun u =>
      { u with
        regs := u.regs.set CAP_STAT_STATE 2
        trig := some (o.1, o.2, (d.chan n).get CH_STEPIDX_IDX)
        t0 := i, npre := pre.length, npost := 0, ofs := w, len := len, room := fits - pre.length
        flags := b2n (pre.length < u.pre), samples := [], mviol := 0, mfirst := none
        recMissed := u.missed, missed := 0 }
    let d := if u.bcnout && !(o.2 && u.tsrc == 7) then
        (d.bcnSend 0 u.bcnnum).modCap n fun u => { u with flags := u.flags + 2048 } else d
    let d := (d.capWord n 0 0).1
    match d.capWords n 256 (pre.flatMap u.sampleWords) with
    | (d, 1) => d.capClose n 1024 d.dt
    | (d, 4) => d.capClose n 2 d.dt
    | (d, _) =>
      match d.maskPre n pre with
      | (d, r) =>
        let d := if r = 2 || (r = 1 && u.stop) then d.modCap n fun u => { u with flags := setBit u.flags 2 true } else d
        if u.post != 0 && fits ≤ pre.length then d.capClose n 2 d.dt else d.capPosts n o.1 post

/-- Row CAPTURE_TRIGGER: the engine decides 1 µs after a stamp (R276, R283 to R285). -/
def Device.captureTrigger (n : Nat) (d : Device) : Device :=
  let u := d.capt n
  match u.state with
  | 1 =>
    let p := u.period (d.chip (chipOf n)).half
    match earliest (u.offers.filter fun o => decide (u.armDt ≤ o.1)) with
    | none => d.modCap n fun u => { u with offers := [] }
    | some o =>
      if d.dt < o.1 + usLen then d
      else
        let d := d.modCap n fun u => { u with offers := (u.offers.erase o).filter fun x => decide (o.1 ≤ x.1) }
        match u.indexOf p o.1 with
        | none => d
        | some i =>
          if 0 < u.skip then d.modCap n fun u => { u with skip := u.skip - 1 }
          else if (d.capRing (n / 64) u.spill).2.1 = 0 then d
          else d.capAccept n o i
  | 2 => d.settleOffers n ((u.trig.map (·.1)).getD 0) (d.dt + 1 - usLen)
  | 4 => d.settleOffers n ((u.last.map (·.1)).getD 0) (min u.armDt (d.dt + 1 - usLen))
  | _ => d

/-! ### Samples complete -/

/-- A level crossing in the capture's own samples (R275): none for a sample that is not VALID. -/
def CapCh.crosses (u : CapCh) (w : Nat) : Bool :=
  match u.prev with
  | some p =>
    let l := sgn 32 (u.word 10) * 256
    let c := sampleCode w
    let dir := bits u.targ 1 2
    let rise := p < l && l ≤ c
    let fall := l < p && c ≤ l
    sampleValid w && ((rise && (dir == 0 || dir == 2)) || (fall && (dir == 1 || dir == 2)))
  | none => false

/-- Row CAPTURE_SAMPLE: 1 µs after its interval ends a sample is complete (R272): it enters the buffer of an armed capture or the record. A due trigger decision comes first. -/
def Device.captureSample (n : Nat) (d : Device) : Device :=
  let u := d.capt n
  match u.grid with
  | none => d
  | some g =>
    let p := max 1 (u.period (d.chip (chipOf n)).half)
    let a := g + u.next * p
    let e := a + p + usLen
    let undecided := u.state == 1 && u.offers.any fun o => decide (u.armDt ≤ o.1) && decide (g ≤ o.1) && decide (o.1 + usLen ≤ d.dt)
    if u.state == 0 || d.dt < e || undecided then d
    else
      let c := d.chan n
      let v := if bit u.sel 0 then sampleWord false u.avgN a (a + p) false u.conv else 0
      let i := if bit u.sel 1 then sampleWord true u.avgN a (a + p) (c.rangeAt (a + p)) u.conv else 0
      let s := (u.next, v, i)
      let lw := if bit u.targ 0 then i else v
      let hit := u.tsrc == 6 && u.state != 0 && u.crosses lw
      let step := fun u : CapCh =>
        { u with
          next := u.next + 1
          conv := u.conv.filter fun k => decide (a + p ≤ k.place)
          prev := if u.tsrc == 6 && sampleValid lw then some (sampleCode lw) else u.prev
          offers := if hit then u.offers ++ [(a, true)] else u.offers }
      match u.state with
      | 1 =>
        let keep := decide (u.bufFrom ≤ a)
        let d' := if keep && 0 < u.pre then
            match u.block with
            | some (o, _) =>
              (u.sampleWords s).zipIdx.foldl (fun d w =>
                (d.writeMem (16 + n / 64) 1 (targetBase (n / 64) + (d.clus (n / 64)).get CAP_ABASE_BASE + o +
                  (u.next % u.pre) * u.ssize + 8 * w.2) 8 w.1 false).1) d
            | none => d
          else d
        d'.modCap n fun u =>
          let u := step u
          let xs := u.samples ++ [s]
          if keep then { u with samples := xs.drop (xs.length - (u.pre + 1)) } else u
      | 2 => if u.t0 ≤ u.next then (d.modCap n step).capPost n s e else d.modCap n step
      | _ => d.modCap n step

/-- Samples in the pre-trigger buffer (CAP_PREFILL). -/
def CapCh.prefill (u : CapCh) : Nat := if u.state == 1 then min u.pre u.samples.length else 0

/-- Row CAPTURE_HOLDOFF_END: the time hold-off ends and the profile capture re-arms (R284). -/
def Device.captureHoldoffEnd (n : Nat) (d : Device) : Device :=
  let u := d.capt n
  if u.state == 4 && u.armDt ≤ d.dt then
    (d.settleOffers n ((u.last.map (·.1)).getD 0) u.armDt).modCap n fun u =>
      CapCh.auto (d.chip (chipOf n)).half { u with regs := u.regs.set CAP_STAT_STATE 1, samples := [] }
  else d

/-! ### The Taper's grid -/

/-- A retime hold or Taper stop (R282): records close with RETIME, buffers clear, the grid is given up. -/
def Device.capRetime (a : Nat) (d : Device) : Device :=
  (List.range 128).foldl (fun d i =>
    let n := 128 * a + i
    let u := d.capt n
    if u.state == 0 then d
    else
      let p := u.period (d.chip a).half
      let d := if u.state == 2 then
          d.capClose n 16 (if u.npost = 0 then d.dt else u.grid.getD 0 + (u.t0 + u.npost) * p + usLen) else d
      d.modCap n fun u =>
        { u with grid := none, next := 0, conv := [], samples := [], prev := none
                 offers := if u.state == 4 then u.offers else [] }) d

/-- A capture without a grid begins it at `t` (R272). -/
def CapCh.begin (t half : Nat) (u : CapCh) : CapCh :=
  if u.state != 0 && u.grid.isNone && (u.armDt ≤ t || u.state == 4) then
    CapCh.auto half { u with grid := some t, next := 0, conv := [] }
  else u

/-- A rising half-ramp starts: captures of the chiplet without a grid begin theirs (R272). -/
def Device.capGrid (a : Nat) (d : Device) : Device :=
  { d with cl := d.cl.mapIdx fun k x =>
      if k / 2 == a then { x with cap := x.cap.map (CapCh.begin d.dt (d.chip a).half) } else x }

/-- MARK reaches the channel's capture when it is not IDLE (R234, R281). -/
def Device.capMark (n v : Nat) (d : Device) : Device :=
  d.modCap n fun u => if u.state == 0 then u else { u with marks := u.marks ++ [(d.dt, v % 2 ^ 32)] }

/-! ### What the engine watches -/

/-- Is a capture of the device not IDLE. -/
def Device.capturing (d : Device) : Bool := d.cl.any fun x => x.cap.any fun u => u.state != 0

/-- The offers that channel `n`'s own state makes to its capture between two states of the device (R275): step end, commit, snuff, edge slot. -/
def chanOffers (o c : Chan) (u : CapCh) : List (Nat × Bool) :=
  let e := c.get CH_ENDDT_DT
  match u.tsrc with
  | 3 => if (o.get CH_ENDDT_DT != e || o.get CH_RSTAT_CAUSE != c.get CH_RSTAT_CAUSE) && bit u.targ (c.get CH_RSTAT_CAUSE) then [(e, true)] else []
  | 4 => if o.get CH_STEPIDX_IDX != c.get CH_STEPIDX_IDX && o.get CH_TSTART_DT != c.get CH_TSTART_DT then [(c.get CH_TSTART_DT, true)] else []
  | 5 => if !o.on CH_SNFSTAT_SNUFFED && c.on CH_SNFSTAT_SNUFFED then [(c.get CH_SNFDT_DT, true)] else []
  | 9 =>
    let j := bits u.targ 0 2
    if o.firedAt.getD j 0 != c.firedAt.getD j 0 then [(c.firedAt.getD j 0, true)] else []
  | _ => []

/-- The offers that the device makes to a capture of cluster `k` (R275): Beacon trigger, event source, interval unit. -/
def deviceOffers (o d : Device) (k : Nat) (u : CapCh) : List (Nat × Bool) :=
  match u.tsrc with
  | 7 =>
    let num := bits u.targ 0 8
    let f := fun x : Device => x.bcn.trigs.find? fun t => t.1 == num
    if f o == f d then [] else match f d with | some t => [(t.2, true)] | none => []
  | 8 =>
    let s := bits u.targ 0 9
    if !o.on (EVT_SRC_PENDING s) && d.on (EVT_SRC_PENDING s) then [(d.dt, true)] else []
  | 11 =>
    let i := bits u.targ 0 3
    if !(o.sti k i).on STI_STAT_DONE && (d.sti k i).on STI_STAT_DONE then [((d.sti k i).get STI_TSTOP_DT, true)] else []
  | _ => []

/-- The capture engines see what a command did: every capture that is not IDLE is offered the triggers of its source (R275). `o` is the device before, `d` after. -/
def Device.watch (o d : Device) : Device :=
  if !o.capturing then d
  else { d with cl := d.cl.mapIdx fun k x =>
    { x with cap := x.cap.mapIdx fun c u =>
        if u.state == 0 then u
        else
          let n := 64 * k + c
          { u with offers := u.offers ++ chanOffers (o.chan n) (d.chan n) u ++ deviceOffers o d k u } } }

end Sys2Proof.Machine
end

