-- ==== Sys2Proof/Machine/Stream.lean ====
section
/-! DEFINITION. The stream unit of a channel (R293 to R309). -/

namespace Sys2Proof.Machine

/-! ### The ring -/

/-- Address of ring entry `i` of channel `n` (R293); the indices are 32-bit counters (R295). -/
def Device.ringAddr (n i : Nat) (d : Device) : Nat :=
  targetBase (n / 64) + (d.chan n).get CH_STBASE_BASE + 8 * (i % 2 ^ 32 % max 1 (d.chan n).ringLen)

/-- LOWWM follows the counters; GRP.g on each crossing from above under WMEVT (R304). -/
def Device.streamMark (n : Nat) (d : Device) : Device :=
  let c := d.chan n
  let low := ahead (c.get CH_STRD_IDX) (c.get CH_STWR_IDX) ≤ c.get CH_STWM_ENTRIES
  let was := c.on CH_STSTAT_LOWWM
  let d := d.modChan n (Chan.setB CH_STSTAT_LOWWM low)
  if low && !was && c.on CH_STCFG_WMEVT then d.raise (n / 8) else d

/-- The writer index as presence at `t` sees it: the newest value acknowledged at or before `t` − 1 µs, or the oldest retained entry (R295). -/
def Chan.wrAt (c : Chan) (t : Nat) : Nat :=
  match c.stream.wrs.find? fun w => w.2 + usLen ≤ t with
  | some w => w.1
  | none => c.get CH_STRET_IDX

/-- Is entry `i` present at `t` (R295). -/
def Chan.present (c : Chan) (i t : Nat) : Bool :=
  ahead (c.get CH_STRET_IDX) i < ahead (c.get CH_STRET_IDX) (c.wrAt t)

/-- A write of CH_STWR (R295): backwards or past RET + S / 8 it is ignored with WRERR. -/
def Device.streamWrite (n v : Nat) (d : Device) : Device :=
  let d := d.modChan n (Chan.streamSettle d.dt)
  let c := d.chan n
  let wr := c.get CH_STWR_IDX
  if 2 ^ 31 ≤ ahead wr v || c.ringLen < ahead (c.get CH_STRET_IDX) v then
    d.modChan n (Chan.setB CH_STSTAT_WRERR true)
  else
    (d.modChan n fun c =>
      let old := match c.stream.wrs.find? fun w => w.2 + usLen ≤ d.dt with | some w => [w] | none => []
      { c.set CH_STWR_IDX v with
        stream := { c.stream with
          wrs := (v % 2 ^ 32, d.dt) :: ((c.stream.wrs.filter fun w => d.dt < w.2 + usLen) ++ old) } }).streamMark n

/-- The free entries of the ring (R295). -/
def Chan.ringFree (c : Chan) : Nat := c.ringLen - ahead (c.get CH_STRET_IDX) (c.get CH_STWR_IDX)

/-- What the stream unit finds at entry `i`: absent (or stalled), a failed read, or a value. -/
inductive Ent where
  | absent
  | failed
  | val (v : Nat)
deriving DecidableEq, Repr

/-- Entry `i` as it is read at `t`, from what was read ahead or through the sequencer's port (R296). -/
def Device.entry (n i t : Nat) (d : Device) : Device × Ent :=
  let c := d.chan n
  if !c.present i t then (d, .absent)
  else match c.stream.read.find? fun e => e.1 == i % 2 ^ 32 with
    | some (_, some v) => (d, .val v)
    | some (_, none) => (d, .failed)
    | none =>
      let put := fun (v : Option Nat) (d : Device) => d.modChan n fun c =>
        { c with stream := { c.stream with read := c.stream.read ++ [(i % 2 ^ 32, v)] } }
      match d.readMem (n / 64) 0 (d.ringAddr n i) 8 with
      | (_, ⟨_, 3⟩) => (d, .absent)
      | (d, ⟨v, 0⟩) => (put (some v) d, .val v)
      | (d, _) => (put none d, .failed)

/-- Row STREAM_RING_READ: the next present entry that is not read yet is read ahead of playback (R296). -/
def Device.streamRingRead (n : Nat) (d : Device) : Device :=
  let c := d.chan n
  if !c.stream.play then d
  else
    let rd := c.get CH_STRD_IDX
    let k := ((List.range (c.stream.read.length + 1)).find? fun j =>
      !(c.stream.read.any fun e => e.1 == (rd + j) % 2 ^ 32)).getD 0
    (d.entry n ((rd + k) % 2 ^ 32) d.dt).1

/-! ### Headers and the natural play order -/

def hdrLen (v : Nat) : Nat := bits v 40 23
def hdrSeg (v : Nat) : Nat := bits v 32 8
def hdrRepeat (v : Nat) : Nat := max 1 (bits v 16 16)
def hdrWnum (v : Nat) : Nat := bits v 8 8
def hdrWsrc (v : Nat) : Nat := bits v 6 2
def hdrWait (v : Nat) : Bool := bit v 5
def hdrLast (v : Nat) : Bool := bit v 4

/-- A header that playback refuses (R294): reserved bits or WSRC, no samples, or a repeated segment larger than the ring. -/
def hdrBad (v size : Nat) : Bool :=
  bits v 0 4 != 0 || hdrWsrc v == 3 || hdrLen v == 0 || (1 < hdrRepeat v && size < hdrLen v + 1)

/-- What comes next: a sample, nothing yet, a failed read, a bad entry, a WAIT header, the end of a LAST segment. -/
inductive Nxt where
  | sample (p : SegPos) (v : Int)
  | absent
  | failed
  | bad
  | wait (i : Nat)
  | last
deriving DecidableEq, Repr

/-- The sample at position `p`. -/
def Device.sampleAt (n : Nat) (p : SegPos) (t : Nat) (d : Device) : Device × Nxt :=
  match d.entry n ((p.first + p.idx) % 2 ^ 32) t with
  | (d, .absent) => (d, .absent)
  | (d, .failed) => (d, .failed)
  | (d, .val v) => (d, if bits v 32 32 != 0 then .bad else .sample p (sgn 32 v))

/-- Entering the segment at entry `i`; `held` says that its wait is over (R294, R301). -/
def Device.enter (n i t : Nat) (held : Bool) (d : Device) : Device × Nxt :=
  match d.entry n i t with
  | (d, .absent) => (d, .absent)
  | (d, .failed) => (d, .failed)
  | (d, .val v) =>
    if bit v 63 then
      if hdrBad v (d.chan n).ringLen then (d, .bad)
      else if hdrWait v && !held && (d.chan n).stream.heldHdr != some i then (d, .wait i)
      else d.sampleAt n ⟨some i, (i + 1) % 2 ^ 32, hdrLen v, 0, hdrRepeat v, hdrSeg v, hdrLast v⟩ t
    else d.sampleAt n ⟨none, i, 0, 0, 1, 255, false⟩ t

/-- The natural successor of position `p` (R297); before any sample, the entry at RD. -/
def Device.natural (n : Nat) (p : Option SegPos) (t : Nat) (d : Device) : Device × Nxt :=
  match p with
  | none => d.enter n ((d.chan n).get CH_STRD_IDX) t false
  | some p =>
    if p.hdr.isSome then
      if p.idx + 1 < p.len then d.sampleAt n { p with idx := p.idx + 1 } t
      else if 1 < p.left then d.sampleAt n { p with idx := 0, left := p.left - 1 } t
      else if p.last then (d, .last)
      else d.enter n ((p.first + p.len) % 2 ^ 32) t false
    else
      let i := (p.first + p.idx + 1) % 2 ^ 32
      match d.entry n i t with
      | (d, .val v) => if bit v 63 then d.enter n i t false else d.sampleAt n { p with idx := p.idx + 1 } t
      | (d, .absent) => (d, .absent)
      | (d, .failed) => (d, .failed)

/-- Does the slot of `p` end a pass of its segment; for an implicit segment, is the next entry a header (R300). -/
def Device.passEnds (n : Nat) (p : Option SegPos) (t : Nat) (d : Device) : Bool :=
  match p with
  | none => true
  | some p =>
    if p.hdr.isSome then p.idx + 1 == p.len
    else
      let i := (p.first + p.idx + 1) % 2 ^ 32
      (d.chan n).present i t && bit (d.rd (d.ringAddr n i) 8) 63

/-- The first header with SEGNO `s` among the `k` entries from `i` on (R300). -/
def Device.findSeg (n s : Nat) (d : Device) : Nat → Nat → Option Nat
  | 0, _ => none
  | k + 1, i =>
    let v := d.rd (d.ringAddr n i) 8
    if bit v 63 && hdrSeg v == s then some (i % 2 ^ 32) else Device.findSeg n s d k (i + 1)

/-- The target of a jump among the retained and queued entries present at `t`. -/
def Device.jumpTarget (n s t : Nat) (d : Device) : Option Nat :=
  let c := d.chan n
  d.findSeg n s (ahead (c.get CH_STRET_IDX) (c.wrAt t)) (c.get CH_STRET_IDX)

/-! ### Playing -/

/-- RD and RET of a position in play (R295, R297). -/
def SegPos.rd (p : SegPos) : Nat :=
  if p.hdr.isNone || p.idx + 1 < p.len then (p.first + p.idx + 1) % 2 ^ 32
  else if 1 < p.left then p.first else (p.first + p.len) % 2 ^ 32
def SegPos.ret (p : SegPos) : Nat :=
  match p.hdr with
  | some h => if 1 < p.left then h else (p.first + p.idx) % 2 ^ 32
  | none => (p.first + p.idx) % 2 ^ 32

/-- Sample `v` at `p` plays from `t` on in the slot that begins at `b`; its neighbours are fixed at `t` (R299). -/
def Device.playSample (n : Nat) (p : SegPos) (v : Int) (b t : Nat) (d : Device) : Device :=
  let prev := if !(d.chan n).stream.begun then v else (d.chan n).stream.cur
  let d := d.modChan n fun c =>
    let r := ((c.regs.set CH_STRD_IDX p.rd).set CH_STRET_IDX p.ret).setB CH_STSTAT_WAITING false
    let r := (((r.setB CH_STSTAT_UNDERRUN false).set CH_STPOS_SEGNO p.segno).set CH_STPOS_SAMPLE (min p.idx (2 ^ 24 - 1))).set CH_STPASS_LEFT p.left
    let s := c.stream
    { c with
      regs := r
      stream := { s with pos := some p, at_ := b, cur := v, prev := prev, level := v, under := none, wait := none, go := none
                         begun := true, heldHdr := none
                         read := s.read.filter fun e => decide (e.1 ≠ (p.first + p.idx) % 2 ^ 32 ∧ p.hdr ≠ some e.1) } }
  let (d, n1, p1) := match d.natural n (some p) t with
    | (d, .sample q y) => (d, y, some q)
    | (d, _) => (d, v, none)
  let (d, n2) := match p1 with
    | some q => (match d.natural n (some q) t with | (d, .sample _ y) => (d, y) | (d, _) => (d, n1))
    | none => (d, n1)
  (d.modChan n fun c => { c with stream := { c.stream with n1 := n1, n2 := n2 } }).streamMark n

/-- The step ends with STREAM_END at the boundary at or after `b` (R294, R296, R297). RD and RET stand after what was played. -/
def Device.streamEnd (n b : Nat) (d : Device) : Device :=
  let d := d.modChan n fun c =>
    let rd := match c.stream.pos with | some p => p.rd | none => c.get CH_STRD_IDX
    { c with regs := (c.regs.set CH_STRD_IDX rd).set CH_STRET_IDX rd }
  d.endStep n ⟨boundaryAt b, 13, 0⟩

/-- A wait begins at `b` at the header at `i` (R301): the level holds the preceding sample's value. -/
def Device.streamWait (n i b : Nat) (d : Device) : Device :=
  (d.modChan n fun c =>
    let r := ((c.regs.set CH_STRD_IDX i).set CH_STRET_IDX i).setB CH_STSTAT_WAITING true
    let s := c.stream
    { c with
      regs := r.setB CH_STSTAT_UNDERRUN false
      stream := { s with wait := some (i, b), go := none, under := none, level := if s.begun then s.cur else s.level } }).streamMark n

/-- An underrun begins at `b` (R302). Before any sample has played in the step the level held is a free value. -/
def Device.underrun (n b : Nat) (d : Device) : Device :=
  let c := d.chan n
  let fresh := !c.stream.begun
  let lv := if c.on CH_STCFG_POLICY then sgn 32 (c.get CH_STSAFE_LEVEL)
    else if fresh then sgn 32 d.freeVal else c.streamLevel ((b - 1) / frameLen * frameLen)
  let d := if fresh then d.useFree else d
  let d := d.modChan n fun c =>
    let r := ((c.regs.setB CH_STSTAT_UNDERRUN true).setB CH_STSTAT_URF true).set CH_STURDT_DT b
    { c with regs := r.bump CH_STCNT_UNDERRUNS 1, stream := { c.stream with under := some b, level := lv } }
  if c.on CH_STCFG_UREVT then d.raise (n / 8) else d

/-- Takes the latched jump away. -/
def Device.dropJump (n : Nat) (miss : Bool) (d : Device) : Device :=
  d.modChan n fun c =>
    let r := c.regs.setB CH_STSTAT_JPEND false
    { c with regs := if miss then r.setB CH_STSTAT_JMISS true else r, stream := { c.stream with jump := none } }

/-- What plays at boundary `b`: the target of a seen jump, else the natural successor (R300). Answers whether a jump was taken. -/
def Device.choose (n b : Nat) (seen : Bool) (d : Device) : Device × Nxt × Bool :=
  match (d.chan n).stream.jump with
  | some (s, _, _) =>
    if seen then
      match d.jumpTarget n s b with
      | some h =>
        let d := (d.dropJump n false).modChan n fun c => { c with regs := (c.regs.set CH_STRD_IDX h).set CH_STRET_IDX h }
        match d.enter n h b false with | (d, x) => (d, x, true)
      | none =>
        match (d.dropJump n true).natural n (d.chan n).stream.pos b with | (d, x) => (d, x, false)
    else match d.natural n (d.chan n).stream.pos b with | (d, x) => (d, x, false)
  | none => match d.natural n (d.chan n).stream.pos b with | (d, x) => (d, x, false)

/-- Has the latched jump been seen at boundary `b` (R300). -/
def Device.jumpSeen (n b : Nat) (d : Device) : Bool :=
  match (d.chan n).stream.jump with
  | some (_, passEnd, a) => a + usLen ≤ b && (!passEnd || d.passEnds n (d.chan n).stream.pos b)
  | none => false

/-- RDERR or FMTERR and the end of the step. -/
def Device.streamFail (n b : Nat) (read : Bool) (d : Device) : Device :=
  (d.modChan n (Chan.setB (if read then CH_STSTAT_RDERR else CH_STSTAT_FMTERR) true)).streamEnd n b

/-- Row STREAM_SLOT: the next slot boundary has come (R297, R300 to R302). A jump whose target's first sample is absent leaves playback at the target. -/
def Device.streamSlot (n : Nat) (d : Device) : Device :=
  let d := d.modChan n (Chan.streamSettle d.dt)
  let c := d.chan n
  let s := c.stream
  let b := s.origin + s.slot * c.streamT
  if !s.play || s.under.isSome || s.wait.isSome || d.dt < b || (!c.running && c.get CH_ENDDT_DT ≤ b) then d
  else
    match d.choose n b (d.jumpSeen n b) with
    | (d, .sample p v, _) =>
      (d.playSample n p v b b).modChan n fun c => { c with stream := { c.stream with slot := s.slot + 1 } }
    | (d, .absent, jumped) =>
      (d.underrun n b).modChan n fun c =>
        if jumped then { c with stream := { c.stream with pos := none } } else c
    | (d, .failed, _) => d.streamFail n b true
    | (d, .bad, _) => d.streamFail n b false
    | (d, .wait i, _) => d.streamWait n i b
    | (d, .last, _) => d.streamEnd n b

/-- Playback resumes with sample `v` at frame boundary `r` (R302): the slip is recorded and the origin moves by it. -/
def Device.resumeAt (n : Nat) (p : SegPos) (v : Int) (b r : Nat) (d : Device) : Device :=
  let d := d.modChan n fun c =>
    { c with
      regs := (c.regs.set CH_STLSLIP_TICKS ((r - b) / 128)).set CH_STSLIP_TICKS (c.get CH_STSLIP_TICKS + (r - b) / 128)
      stream := { c.stream with origin := c.stream.origin + (r - b) } }
  (d.playSample n p v r r).modChan n fun c => { c with stream := { c.stream with slot := c.stream.slot + 1 } }

/-- Catch-up at frame boundary `r` (R303): passes over the samples from slot `k` on until slot `j`. None while a sample is absent. -/
def Device.catchUp (n r j : Nat) : Nat → Nat → Device → Option Device
  | 0, _, _ => none
  | f + 1, k, d =>
    let c := d.chan n
    let b := c.stream.origin + k * c.streamT
    match d.choose n r (d.jumpSeen n b) with
    | (d, .sample p v, _) =>
      if j ≤ k then
        some ((d.playSample n p v b r).modChan n fun c => { c with stream := { c.stream with slot := k + 1 } })
      else
        let d := d.modChan n fun c =>
          { c with
            regs := ((c.regs.bump CH_STSKIP_CNT 1).set CH_STRD_IDX p.rd).set CH_STRET_IDX p.ret
            stream := { c.stream with pos := some p, cur := v, begun := true, heldHdr := none } }
        Device.catchUp n r j f (k + 1) d
    | (_, .absent, _) => none
    | (d, .failed, _) => some (d.streamFail n r true)
    | (d, .bad, _) => some (d.streamFail n r false)
    | (d, .wait i, _) => some (d.streamWait n i r)
    | (d, .last, _) => some (d.streamEnd n r)

/-- Row STREAM_RESUME: at a frame boundary an underrun ends if what it waits for is present (R302 to R304). -/
def Device.streamResume (n : Nat) (d : Device) : Device :=
  let d := d.modChan n (Chan.streamSettle d.dt)
  let c := d.chan n
  let s := c.stream
  match s.under with
  | none => d
  | some b =>
    if !s.play || d.dt % frameLen != 0 then d
    else
      let r := d.dt
      let late := match s.jump with | some (_, _, a) => b ≤ a && a + usLen ≤ r | none => false
      if c.on CH_STCFG_CATCHUP && !late then
        let j := (r - s.origin) / c.streamT
        (d.catchUp n r j (j - s.slot + 1) s.slot).getD d
      else
        match d.choose n r late with
        | (d, .sample p v, _) => d.resumeAt n p v b r
        | (d', .absent, _) => if late && (d'.chan n).stream.jump.isNone && (d'.chan n).on CH_STSTAT_JMISS then d' else d
        | (d, .failed, _) => d.streamFail n r true
        | (d, .bad, _) => d.streamFail n r false
        | (d, .wait i, _) => d.streamWait n i r
        | (d, .last, _) => d.streamEnd n r

/-- The origin moves to `w`, where the segment at entry `i` starts with slot 0 (R301). -/
def Chan.beginAt (i w : Nat) (held : Bool) (c : Chan) : Chan :=
  { c with
    regs := ((c.regs.setB CH_STSTAT_WAITING false).set CH_STRD_IDX i).set CH_STRET_IDX i
    stream := { c.stream with origin := w, slot := 0, pos := none, heldHdr := if held then some i else none, wait := none, go := none } }

/-- A segment starts with slot 0 at origin `w` after a wait (R301). -/
def Device.startAt (n i w : Nat) (held : Bool) (d : Device) : Device :=
  let d := d.modChan n (Chan.beginAt i w held)
  match d.enter n i w held with
  | (d, .sample p v) => (d.playSample n p v w w).modChan n fun c => { c with stream := { c.stream with slot := 1 } }
  | (d, .failed) => d.streamFail n w true
  | (d, .bad) => d.streamFail n w false
  | (d, .wait i) => d.streamWait n i w
  | (d, _) => d.underrun n w

/-- Row STREAM_WAIT_END: the origin that a qualifying trigger gave has come, or a jump latched during the wait is seen first (R301, R304). -/
def Device.streamWaitEnd (n : Nat) (d : Device) : Device :=
  let d := d.modChan n (Chan.streamSettle d.dt)
  let s := (d.chan n).stream
  match s.wait with
  | none => d
  | some (i, _) =>
    match s.jump with
    | some (sg, _, a) =>
      let r := boundaryAt (a + usLen)
      match s.go.filter fun w => decide (w < r) with
      | some w => if w ≤ d.dt then d.startAt n i w true else d
      | none =>
      if d.dt < r then d
      else match d.jumpTarget n sg r with
        | some h => (d.dropJump n false).startAt n h r false
        | none => d.dropJump n true
    | none =>
      match s.go with
      | some w => if w ≤ d.dt then d.startAt n i w true else d
      | none => d

/-- Does channel `n` wait for source `wsrc` with number `num`, begun at or before `t` (R301). -/
def Device.waitsFor (n wsrc num t : Nat) (d : Device) : Bool :=
  match (d.chan n).stream.wait, (d.chan n).stream.go with
  | some (i, b), none =>
    let v := d.rd (d.ringAddr n i) 8
    b ≤ t && hdrWsrc v == wsrc && (wsrc == 0 || hdrWnum v == num)
  | _, _ => false

/-- A trigger for stream waits: 0 GO at its acceptance, 1 Beacon TRIG at its EXEC_AT, 2 SYNC at its boundary (R301). -/
def Device.streamTrigger (n wsrc num t : Nat) (d : Device) : Device :=
  if d.waitsFor n wsrc num t then
    d.modChan n fun c => { c with stream := { c.stream with go := some (boundaryAt t + c.deskew) } }
  else d

/-- A Beacon trigger or sync-start reaches every stream wait. -/
def Device.streamTriggers (wsrc num t : Nat) (d : Device) : Device :=
  (List.range 1024).foldl (fun d n => d.streamTrigger n wsrc num t) d

/-- A jump request at the present DT (R300); nothing is latched while no STREAM step is active (R308). Answers whether it was latched. -/
def Device.streamJump (n seg : Nat) (passEnd : Bool) (d : Device) : Device × Bool :=
  if (d.chan n).stream.play then
    (d.modChan n fun c => { c.setB CH_STSTAT_JPEND true with stream := { c.stream with jump := some (seg % 256, passEnd, d.dt) } }, true)
  else (d, false)

/-- GO (R301, R306): ends a WSRC = 0 wait. Answers whether there was one. -/
def Device.streamGo (n : Nat) (d : Device) : Device × Bool := (d.streamTrigger n 0 0 d.dt, d.waitsFor n 0 0 d.dt)

/-! ### Configuration -/

/-- STRM cfg with the eight words of its descriptor (R306). Answers the code. -/
def Device.streamCfg (n : Nat) (ws : List Nat) (d : Device) : Device × Nat :=
  let c := d.chan n
  let w := fun i => ws.getD i 0
  let per := w 4 + 2 ^ 32 * w 5
  let size := w 2
  if c.stream.play then (d, 1)
  else if bits (w 0) 7 25 != 0 || w 1 % 4096 != 0 || size % 4096 != 0 || 262144 < size || per < 1600 ||
      5760000000000 < per || w 7 != 0 then (d, 2)
  else if 0x300000 < w 1 + size then (d, 3)
  else
    ((d.modChan n fun c =>
      let r := ((((c.regs.set CH_STCFG_UREVT (bits (w 0) 6 1)).set CH_STCFG_WMEVT (bits (w 0) 5 1)).set CH_STCFG_CATCHUP (bits (w 0) 4 1)).set CH_STCFG_POLICY (bits (w 0) 3 1)).set CH_STCFG_INTERP (bits (w 0) 1 2)
      let r := ((((r.set CH_STCFG_KIND (bits (w 0) 0 1)).set CH_STBASE_BASE (w 1)).set CH_STSIZE_SIZE size).set CH_STWM_ENTRIES (w 3)).set CH_STPER_TICKS per
      let r := (((r.set CH_STSAFE_LEVEL (w 6)).set CH_STWR_IDX 0).set CH_STRD_IDX 0).set CH_STRET_IDX 0
      { c with regs := (r.set CH_STSLIP_TICKS 0).set CH_STSKIP_CNT 0
               stream := { level := c.stream.level } }).streamMark n, 0)

/-- STRM reset (R306): the unplayed entries are discarded. Answers whether it was accepted. -/
def Device.streamReset (n : Nat) (d : Device) : Device × Bool :=
  if (d.chan n).stream.play then (d, false)
  else
    ((d.modChan n fun c =>
      let rd := c.get CH_STRD_IDX
      { c with regs := (c.regs.set CH_STWR_IDX rd).set CH_STRET_IDX rd, stream := { c.stream with wrs := [], read := [] } }).streamMark n, true)

/-- The entries of a SEG or STREAM message are written from WR on; CH_STWR advances once after the last (R295, R307). Answers the first memory error. -/
def Device.ringStore (n m : Nat) : Nat → List Nat → Device → Device × Nat
  | i, [], d => (d.streamWrite n (i % 2 ^ 32), 0)
  | i, v :: vs, d =>
    match d.writeMem m 1 (d.ringAddr n i) 8 v false with
    | (d, ⟨_, 0⟩) => Device.ringStore n m (i + 1) vs d
    | (d, ⟨_, e⟩) => (d, e)

/-- May a SEG with header `h` and `k` copied entries be written (R307). -/
def Chan.segOk (c : Chan) (h k : Nat) : Bool :=
  c.ringLen != 0 && bit h 63 && bits h 0 4 == 0 && k + 1 ≤ c.ringFree

end Sys2Proof.Machine
end

