-- ==== Sys2Proof/Machine/Actions.lean ====
section
/-! DEFINITION. Events that reach several units at once: half-ramps and conversions, Beacon execute-at, e-stop, Fefitil event relay (R69, R70, R82, R87, R88, R330, R396, R397). -/

namespace Sys2Proof.Machine

/-! ### Half-ramps and conversions -/

/-- Row HALF_RAMP_START, with the grids of captures that begin on a rising start (R82, R272). -/
def Device.halfRampStarts (a : Nat) (d : Device) : Device :=
  let was := d.chip a
  let d := d.halfRampStart a
  let d := if (d.chip a).ramping && (d.chip a).get AFE_TPRSTART_DT == d.dt then d.calApply a else d
  let x := d.chip a
  if x.ramping && !x.on AFE_TPRSTAT_DIR && x.get AFE_TPRSTART_DT == d.dt &&
      (!was.ramping || was.on AFE_TPRSTAT_DIR || was.get AFE_TPRSTART_DT != d.dt) then d.capGrid a
  else d

/-- Row HALF_RAMP_END (R87, R90, R92, R146): the tap check on the nine stamps in crossing order, the half-ramp count, and a CLIP conversion for each listed input without a crossing (channel, is I, above the Taper). -/
def Device.halfRampEnd (a : Nat) (stamps : List Nat) (clips : List (Nat × Bool × Bool)) (d : Device) : Device :=
  let x := d.chip a
  let s := x.get AFE_TPRSTART_DT
  let e := s + x.half * frameLen
  let falling := x.on AFE_TPRSTAT_DIR
  if !x.ramping || d.dt < e || x.lastEnd == e then d
  else
    let d := d.tapResult a (x.tapCheck stamps falling)
    let d := d.modAfe a fun x =>
      { x.set AFE_TPRSTAT_HRCNT (x.get AFE_TPRSTAT_HRCNT + 1) with lastStart := s, lastEnd := e }
    let d := d.countHalves a
    let x := d.chip a
    clips.foldl (fun d p =>
      let n := 128 * a + p.1 % 128
      d.deliver n ((d.chan n).clip p.2.1 falling x.taperr x.tdcBad p.2.2 e)) d

/-- Row CONVERSION (R88 to R92): raw stamp `s` of the input's crossing and the stamps of the taps in crossing order. None while the Taper does not ramp. -/
def Device.conversion (n : Nat) (isI falling merged : Bool) (s : Nat) (stamps : List Nat) (d : Device) : Device :=
  let x := d.chip (chipOf n)
  let done := x.lastStart ≤ s && s < x.lastEnd
  if stamps.length < 2 || (x.held && !done) then d
  else
    let te := x.taperr && done
    let volts := (List.range stamps.length).map fun j => sgn 32 (x.get (AFE_TAPV_V (if falling then 8 - j else j)))
    d.deliver n ((d.chan n).convert isI falling te x.tdcBad merged s stamps volts x.lastEnd)

/-! ### Beacon execute-at -/

/-- The first execute-at of a kind whose instant has come; SYNC and ESTOP act at the frame boundary at or after EXEC_AT (R69). -/
def Device.dueExec (kind : Nat) (d : Device) : Option BExec :=
  match d.bcn.execs.find? fun e => e.kind == kind with
  | some e => if (if kind == 0 then e.at_ else boundaryAt e.at_) ≤ d.dt then some e else none
  | none => none

def Device.dropExec (e : BExec) (d : Device) : Device := { d with bcn := { d.bcn with execs := d.bcn.execs.erase e } }

/-- The latest instant of number `num` in a list of them. -/
def putLatest (num t : Nat) (xs : List (Nat × Nat)) : List (Nat × Nat) := (num, t) :: xs.filter fun x => decide (x.1 ≠ num)

/-- Beacon trigger `num` becomes visible to waits, captures and streams with DT `t` (R69). -/
def Device.trigAt (num t : Nat) (d : Device) : Device :=
  ({ d with bcn := { d.bcn with trigs := putLatest num t d.bcn.trigs } } : Device).streamTriggers 1 num t

/-- Row BEACON_TRIG_EXEC (R69). -/
def Device.trigExec (d : Device) : Device :=
  match d.dueExec 0 with
  | none => d
  | some e => (d.dropExec e).trigAt e.num e.at_

/-- Row BEACON_SYNC_EXEC (R69, R147): the sync-start takes effect at its boundary. -/
def Device.syncExec (d : Device) : Device :=
  match d.dueExec 1 with
  | none => d
  | some e =>
    let b := boundaryAt e.at_
    let d := d.dropExec e
    (({ d with bcn := { d.bcn with syncs := putLatest e.num b d.bcn.syncs } } : Device).fireSync e.num b).streamTriggers 2 e.num b

/-- Every channel is snuffed with BEACON_ESTOP in the frame that begins at `b`, and coast begins at `at_` (R69, R178, R330). -/
def Device.estopAct (at_ b : Nat) (d : Device) : Device :=
  let d := ((d.mapChans (fun _ => true) (Chan.snuff 16 b)).raiseGroups (List.range 1024)).raise 452
  if d.on MOT_CTL_BCNCOAST then d.coast 2 at_ else d

/-- Row BEACON_ESTOP_EXEC. -/
def Device.estopExec (d : Device) : Device :=
  match d.dueExec 2 with
  | none => d
  | some e => (d.dropExec e).estopAct e.at_ (boundaryAt e.at_)

/-- An execute-at message arrives at an aligned member (R69): it is scheduled, or acted on at once and counted late when EXEC_AT has passed; a late SYNC acts at the next frame boundary. -/
def Device.takeExec (e : BExec) (d : Device) : Device :=
  if d.dt ≤ e.at_ then d.schedExec e
  else
    let d := ((d.setB BCN_STAT_LATE true).bump BCN_CNT_LATECNT 1).raise 235
    match e.kind with
    | 0 => d.trigAt e.num e.at_
    | 1 => d.schedExec { e with at_ := d.dt }
    | _ => d.estopAct d.dt (sampledFrame d.dt)

/-- An aligned member receives TRIG or SYNC (R69). -/
def Device.beaconAct (kind num origin execAt : Nat) (d : Device) : Device :=
  if d.role != 1 then d
  else
    let d := d.heard
    if d.on BCN_STAT_ALIGNED then d.takeExec ⟨kind, num, origin, execAt⟩ else d

/-- Row BEACON_ESTOP: an aligned member schedules it, any other member acts at once (R69). -/
def Device.beaconEstop (num origin execAt : Nat) (d : Device) : Device :=
  if d.role != 1 then d
  else
    let d := d.heard
    if d.on BCN_STAT_ALIGNED then d.takeExec ⟨2, num, origin, execAt⟩ else d.estopAct d.dt (sampledFrame d.dt)

/-- Row ILK_ESTOP_OPEN (R70, R168, R178, R330, R441): the Snuffer, safe-off, coast, and an ESTOP upstream from an aligned member; a master sends its own downstream. -/
def Device.ilkOpened (d : Device) : Device :=
  let d := d.estopOpen
  let d := if d.on MOT_CTL_ESTOPCOAST then d.coast 1 d.dt else d
  match d.role with
  | 1 => if d.on BCN_STAT_ALIGNED && d.bcn.upEstop.isNone then d.bc fun b => { b with upEstop := some d.pos } else d
  | 2 => d.bc fun b => { b with downQ := { typ := 6, payload := 0 } :: b.downQ }
  | _ => d

/-! ### Fefitil relay (R396, R397) -/

/-- Row FEF_EVREL: a received relay on link `l` (R397). -/
def Device.evrel (l kind num hops origin oseq at_ : Nat) (d : Device) : Device :=
  if d.role == 1 || !d.on (FEF_EVCTL_RX l) || d.evSeen.contains (origin, oseq) then d
  else
    let d := { d with evSeen := (origin, oseq) :: d.evSeen.take 63 }
    let d := d.bump (FEF_EVCNT_RELAYED l) 1
    let next := if d.role == 2 then alignUp (d.dt + 1) (2 * usLen) else d.dt
    let late := at_ < next + 2 * usLen
    let d := if late then (d.bump (FEF_EVCNT_LATE l) 1).raise 349 else d
    let d := if d.role == 2 then
        d.bc fun b => { b with downQ := b.downQ ++
          [{ typ := 5 + 2 * kind, payload := num, execAt := if late then 0 else at_, relayed := true }] }
      else d.schedExec ⟨kind, num, 0, if late then d.dt + d.lead else at_⟩
    if hops < 5 then
      ((List.range 4).filter fun i => i != l && d.on (FEF_EVCTL_TX i)).foldl
        (fun d i => d.fefQueue i 2 (evrelBody kind num (hops + 1) origin oseq at_)) d
    else d

/-- Row FEF_ACK: frames up to sequence number `ack` are acknowledged; those that enter the window of 32 are sent (R396). -/
def Device.fefAck (l ack : Nat) (d : Device) : Device :=
  d.modFef l fun x =>
    let left := x.tx.filter fun f => decide ((ack + 65536 - f.seq) % 65536 ≥ 32768)
    let gone := x.tx.length - left.length
    { x with tx := left.mapIdx fun i f => if 32 - gone ≤ i && i < 32 then { f with sent := d.dt } else f }

/-- Row FEF_FRAME_BAD (R396). -/
def Device.fefBad (l : Nat) (d : Device) : Device := d.bump (FEF_MSGCNT_CRCERR l) 1

/-- Row FEF_RETRANSMIT: frames in flight unacknowledged for 10 µs are sent again; after 8 times the frame is dropped, event 350 is raised and the link retrains (R396). -/
def Device.fefRetransmit (l : Nat) (d : Device) : Device :=
  let due := fun f : FFrame => f.sent + 10 * usLen ≤ d.dt
  let fl := (d.flink l).tx.take 32
  if fl.any (fun f => due f && 8 ≤ f.tries) then
    let keep := fun (p : Nat × FFrame) => if p.1 < 32 && due p.2 && 8 ≤ p.2.tries then none else some p.2
    let d := d.modFef l fun x => { x with tx := (x.tx.mapIdx fun i f => (i, f)).filterMap keep }
    let n := (fl.filter fun f => due f && 8 ≤ f.tries).length
    ((d.bump (FEF_MSGCNT_DROP l) n).raise 350).fefLink l false
  else
    let again := fun (i : Nat) (f : FFrame) => if i < 32 && due f then { f with sent := d.dt, tries := f.tries + 1 } else f
    d.modFef l fun x => { x with tx := x.tx.mapIdx again }

end Sys2Proof.Machine
end

