-- ==== Sys2Proof/Machine/Operands.lean ====
section
/-! DEFINITION. The operand forms of the channel instructions: operand B, access sizes, extension, conditions, two-word results (R186, R187, R194, R203, R206). -/

namespace Sys2Proof.Machine

/-- Channel of thread `c` of sequencer `k` (R19, R182). -/
def chanOf (k c : Nat) : Nat := 64 * k + c % 64

/-- The 64-bit value of operand B (R187). -/
def Thread.opnd (t : Thread) : Opnd → Nat
  | .reg n => t.g n
  | .imm v => uns 64 v

/-- Bytes of an access size SZ (R187). -/
def accSize (sz : Nat) : Nat := match sz with | 0 => 8 | 1 => 4 | 2 => 2 | _ => 1

/-- A value of `n` bytes extended to 64 bits (R203). -/
def extend (n : Nat) (signed : Bool) (v : Nat) : Nat :=
  if signed then uns 64 (sgn (8 * n) v) else v % 2 ^ (8 * n)

/-- Two-word results go to G[DST] and G[(DST + 1) mod 16] (R206). -/
def Thread.setPair (dst v w : Nat) (t : Thread) : Thread := (t.setG dst v).setG ((dst + 1) % 16) w

/-- COND (R194): flags as they stand, and the thread's own channel. Values from 0x17 on are reserved and read as false. -/
def condOf (t : Thread) (c : Chan) (cond : Nat) : Bool :=
  let z := t.flag 0
  let n := t.flag 1
  let cy := t.flag 2
  let ov := t.flag 3
  match cond with
  | 0x00 => true
  | 0x01 => z | 0x02 => !z | 0x03 => n | 0x04 => !n | 0x05 => cy | 0x06 => !cy
  | 0x07 => ov | 0x08 => !ov | 0x09 => t.flag 4 | 0x0A => !t.flag 4 | 0x0B => t.flag 5 | 0x0C => !t.flag 5
  | 0x0D => n != ov | 0x0E => n == ov
  | 0x0F => z || n != ov | 0x10 => !z && n == ov
  | 0x11 => cy || z | 0x12 => !cy && !z
  | 0x13 => c.on CH_RSTAT_ENDED | 0x14 => !c.on CH_RSTAT_ENDED
  | 0x15 => c.on CH_SNFSTAT_SNUFFED | 0x16 => !c.on CH_SNFSTAT_SNUFFED
  | _ => false

/-- An instruction of thread `c` of cluster `k` takes place only while the thread may execute (R208); otherwise the command changes nothing. -/
def Device.onThread (k c : Nat) (f : Thread → Device → Device) (d : Device) : Device :=
  if (d.thread k c).runnable then f (d.thread k c) d else d

/-- An instruction that changes its thread only and moves on. -/
def Device.alu (k c : Nat) (f : Thread → Thread) (d : Device) : Device :=
  d.onThread k c fun _ d => d.retireNext k c f

/-- A thread halts with a cause other than HALT: the PC stays on the instruction, which has no other effect (R203, R209). -/
def Device.trapHalt (k c cause : Nat) (d : Device) : Device := d.haltThread k c cause

end Sys2Proof.Machine
end

