-- ==== Sys2Proof/Machine/Flags.lean ====
section
/-! DEFINITION. The flag computations of the data instructions (R201, R202). -/

namespace Sys2Proof.Machine

/-- A result of 64 bits with its Z and N, CY and OV as given (R201). -/
def Thread.result (dst v : Nat) (cy ov : Bool) (t : Thread) : Thread :=
  ((((t.setG dst (v % 2 ^ 64)).setZN (v % 2 ^ 64))).setFlag 2 cy).setFlag 3 ov

/-- Unsigned carry out of a + b (R201). -/
def addCy (a b : Nat) : Bool := 2 ^ 64 ≤ a + b
/-- Does a signed value fit 64 bits. -/
def fits64 (i : Int) : Bool := -(2 ^ 63 : Int) ≤ i && i < (2 ^ 63 : Int)
/-- Signed overflow of a + b and a − b (R201). -/
def addOv (a b : Nat) : Bool := !fits64 (sgn 64 a + sgn 64 b)
def subOv (a b : Nat) : Bool := !fits64 (sgn 64 a - sgn 64 b)
/-- a − b in 64 bits. -/
def sub64 (a b : Nat) : Nat := uns 64 ((a : Int) - b)

/-- The product as 128 bits, signed or not, as an integer (R201). -/
def product (s : Bool) (a b : Nat) : Int :=
  if s then sgn 64 a * sgn 64 b else ((a * b : Nat) : Int)
/-- OV of MUL: the low half does not hold the product in the chosen signedness (R201). -/
def mulOv (s hi : Bool) (p : Int) : Bool :=
  !hi && (if s then !fits64 p else decide (p ≥ (2 ^ 64 : Nat)))

/-- CY of SHL and SHR by `n`: the last bit shifted out, 0 when n = 0 (R201). -/
def shlCy (a n : Nat) : Bool := n != 0 && bit a (64 - n)
def shrCy (a n : Nat) : Bool := n != 0 && bit a (n - 1)

/-- DIVQ (R202): quotient, remainder, OV. -/
def divq (s : Bool) (a b : Nat) : Nat × Nat × Bool :=
  if b = 0 then
    (if !s then 2 ^ 64 - 1 else if sgn 64 a ≥ 0 then 2 ^ 63 - 1 else 2 ^ 63, a, true)
  else if !s then (a / b, a % b, false)
  else if sgn 64 a = -(2 ^ 63 : Int) && sgn 64 b = -1 then (2 ^ 63, 0, true)
  else (uns 64 (Int.tdiv (sgn 64 a) (sgn 64 b)), uns 64 (Int.tmod (sgn 64 a) (sgn 64 b)), false)

end Sys2Proof.Machine
end

