-- ==== Sys2Proof/Machine/IsaData.lean ====
section
/-! DEFINITION. Control instructions that do not wait, and data instructions (R193, R194, R201, R202, R206). Each acts on thread `c` of cluster `k`. -/

namespace Sys2Proof.Machine

/-! ### Control (R193) -/

def Device.iNop (k c : Nat) (d : Device) : Device := d.alu k c id

/-- HALT: the user code, with A the end of the active step by ABORT; the PC points past it (R193, R209). -/
def Device.iHalt (k c : Nat) (a : Bool) (ucode : Nat) (d : Device) : Device :=
  d.onThread k c fun _ d =>
    let d := if a then d.abortStep (chanOf k c) else d
    let d := d.modThr k c fun t => (t.set SEQ_TSTAT_UCODE ucode).setPc (t.pc + 1)
    d.haltThread k c 1

def Device.iJmp (k c target : Nat) (d : Device) : Device :=
  d.onThread k c fun _ d => d.retire k c (Thread.setPc target)

def Device.iJcc (k c cond target : Nat) (d : Device) : Device :=
  d.onThread k c fun t d =>
    d.retire k c fun u => u.setPc (if condOf t (d.chan (chanOf k c)) cond then target else u.pc + 1)

/-- CALL: STACK at depth 16 (R193); a stored depth above 16 counts as 16 (R212). -/
def Device.iCall (k c cond target : Nat) (d : Device) : Device :=
  d.onThread k c fun t d =>
    if condOf t (d.chan (chanOf k c)) cond then
      let dep := min 16 (t.get SEQ_TSP_DEPTH)
      if dep == 16 then d.trapHalt k c 4
      else d.retire k c fun u =>
        ((u.set (SEQ_TSTK_PC dep) (u.pc + 1)).set SEQ_TSP_DEPTH (dep + 1)).setPc target
    else d.retireNext k c id

def Device.iRet (k c cond : Nat) (d : Device) : Device :=
  d.onThread k c fun t d =>
    if condOf t (d.chan (chanOf k c)) cond then
      let dep := min 16 (t.get SEQ_TSP_DEPTH)
      if dep == 0 then d.trapHalt k c 4
      else d.retire k c fun u => (u.set SEQ_TSP_DEPTH (dep - 1)).setPc (u.get (SEQ_TSTK_PC (dep - 1)))
    else d.retireNext k c id

def Device.iLoop (k c x target : Nat) (d : Device) : Device :=
  d.onThread k c fun t d =>
    if 1 < t.l x then d.retire k c fun u => (u.setL x (t.l x - 1)).setPc target
    else d.retireNext k c (Thread.setL x 0)

/-- YIELD gives up the turn; the order of turns is not part of the state (R193). -/
def Device.iYield (k c : Nat) (d : Device) : Device := d.alu k c id

/-- SIGNAL: every earlier access has been acknowledged before the doorbell is raised (R193, R205). -/
def Device.iSignal (k c a : Nat) (b : Opnd) (d : Device) : Device :=
  d.onThread k c fun t d => (d.ring (t.opnd b % 32) (t.g a % 2 ^ 32)).retireNext k c id

/-- FENCE: every access of the model is acknowledged before its instruction ends (R193, R205). -/
def Device.iFence (k c : Nat) (d : Device) : Device := d.alu k c id

/-! ### Moves (R201) -/

/-- MOVI: class 0 general register (HI replaces the high word), class 1 loop counter. -/
def Device.iMovi (k c dst cls : Nat) (hi : Bool) (imm : Int) (d : Device) : Device :=
  d.alu k c fun t =>
    if cls == 1 then t.setL dst (uns 32 imm)
    else if hi then t.setG dst (setBits (t.g dst) 32 32 (uns 32 imm))
    else t.setG dst (uns 64 imm)

/-- MOV between classes 0 general, 1 loop counter, 2 flags. -/
def Device.iMov (k c dst src dcls scls : Nat) (d : Device) : Device :=
  d.alu k c fun t =>
    let v := match scls with | 0 => t.g src | 1 => t.l src | _ => t.flags
    match dcls with
    | 0 => t.setG dst v
    | 1 => t.setL dst (v % 2 ^ 32)
    | _ => t.setFlags (v % 64)

/-! ### Arithmetic (R201, R202) -/

def Device.iAdd (k c dst a : Nat) (b : Opnd) (d : Device) : Device :=
  d.alu k c fun t => let x := t.g a; let y := t.opnd b; t.result dst (x + y) (addCy x y) (addOv x y)

def Device.iSub (k c dst a : Nat) (b : Opnd) (d : Device) : Device :=
  d.alu k c fun t => let x := t.g a; let y := t.opnd b; t.result dst (sub64 x y) (decide (x < y)) (subOv x y)

def Device.iMul (k c dst a : Nat) (b : Opnd) (s hi : Bool) (d : Device) : Device :=
  d.alu k c fun t =>
    let p := product s (t.g a) (t.opnd b)
    t.result dst (if hi then uns 64 (asr p 64) else uns 64 p) false (mulOv s hi p)

def Device.iDivq (k c dst a : Nat) (b : Opnd) (s rem : Bool) (d : Device) : Device :=
  d.alu k c fun t =>
    let (q, r, ov) := divq s (t.g a) (t.opnd b)
    t.result dst (if rem then r else q) false ov

def Device.iAnd (k c dst a : Nat) (b : Opnd) (d : Device) : Device :=
  d.alu k c fun t => t.result dst (band (t.g a) (t.opnd b)) false false
def Device.iOr (k c dst a : Nat) (b : Opnd) (d : Device) : Device :=
  d.alu k c fun t => t.result dst (bor (t.g a) (t.opnd b)) false false
def Device.iXor (k c dst a : Nat) (b : Opnd) (d : Device) : Device :=
  d.alu k c fun t => t.result dst (bxor (t.g a) (t.opnd b)) false false

def Device.iShl (k c dst a : Nat) (b : Opnd) (d : Device) : Device :=
  d.alu k c fun t => let n := t.opnd b % 64; t.result dst (t.g a * 2 ^ n) (shlCy (t.g a) n) false

def Device.iShr (k c dst a : Nat) (b : Opnd) (s : Bool) (d : Device) : Device :=
  d.alu k c fun t =>
    let n := t.opnd b % 64
    t.result dst (if s then uns 64 (asr (sgn 64 (t.g a)) n) else t.g a / 2 ^ n) (shrCy (t.g a) n) false

/-- CMP sets the flags of SUB and writes no result. -/
def Device.iCmp (k c a : Nat) (b : Opnd) (d : Device) : Device :=
  d.alu k c fun t =>
    let x := t.g a
    let y := t.opnd b
    ((t.setZN (sub64 x y)).setFlag 2 (decide (x < y))).setFlag 3 (subOv x y)

/-- Is `x` below `y` in the chosen signedness. -/
def below (s : Bool) (x y : Nat) : Bool := if s then sgn 64 x < sgn 64 y else x < y

def Device.iMin (k c dst a : Nat) (b : Opnd) (s : Bool) (d : Device) : Device :=
  d.alu k c fun t =>
    let x := t.g a; let y := t.opnd b; let v := if below s y x then y else x
    (t.setG dst v).setZN v
def Device.iMax (k c dst a : Nat) (b : Opnd) (s : Bool) (d : Device) : Device :=
  d.alu k c fun t =>
    let x := t.g a; let y := t.opnd b; let v := if below s x y then y else x
    (t.setG dst v).setZN v

def Device.iSel (k c dst a : Nat) (b : Opnd) (cond : Nat) (d : Device) : Device :=
  d.onThread k c fun t d =>
    d.retireNext k c fun u => u.setG dst (if condOf t (d.chan (chanOf k c)) cond then t.g a else t.opnd b)

/-! ### RDS (R206) -/

/-- CH_SNFSTAT as it reads: ACTIVE is the OR of the level causes (R180). -/
def Device.snfstat (n : Nat) (d : Device) : Nat :=
  setBit (wordOf (d.chan n).regs (CH_SNFSTAT.fields []) 0) 1 (d.levels n != 0)

/-- The oldest window-event entry leaves the FIFO (R115). -/
def Chan.popEvent (c : Chan) : Chan × Option WEntry :=
  match c.fifo with
  | [] => (c, none)
  | e :: t => ({ c with fifo := t }, some e)

/-- The items RDS reads without a change of the channel: the two words, the second absent for one-word items. -/
def Device.rdsItem (n : Nat) (t : Thread) (item : Nat) (d : Device) : Nat × Option Nat :=
  let c := d.chan n
  match item with
  | 0x00 => (c.get CH_VCODE_CODE + c.get CH_VFLG_FLAGS * 2 ^ 32 + c.get CH_VFLG_SEQ * 2 ^ 48, some (c.get CH_VDT_DT))
  | 0x01 => (c.get CH_ICODE_CODE + c.get CH_IFLG_FLAGS * 2 ^ 32 + c.get CH_IFLG_SEQ * 2 ^ 48, some (c.get CH_IDT_DT))
  | 0x08 => (wordOf c.regs (CH_RSTAT.fields []) 0, none)
  | 0x09 => (c.get CH_ENDMASK_MASK + c.get CH_RSTAT_CAUSE * 2 ^ 16, some (c.get CH_ENDDT_DT))
  | 0x0A => (c.get CH_TSTART_DT, none)
  | 0x0B => (uns 64 (accWhole c.qstep), some (uns 64 (accWhole c.estep)))
  | 0x0C => (uns 64 (accWhole c.qtot), some (uns 64 (accWhole c.etot)))
  | 0x0D => (uns 64 (sgn 32 (c.get CH_DENS_D)), none)
  | 0x10 => (c.get CH_SNFCAUSE_CAUSE + c.get CH_SNFFIRST_CAUSE * 2 ^ 32 + c.get CH_SNFFIRST_VALID * 2 ^ 39 +
      d.snfstat n % 16 * 2 ^ 40, some (c.get CH_SNFDT_DT))
  | 0x20 => (d.dt, none)
  | 0x21 => (t.get SEQ_TWSTAMP_DT, none)
  | 0x22 => (t.get SEQ_TLATE_TICKS, none)
  | 0x28 => (uns 64 (sgn 32 (c.get CH_ZRE_NOHM)), some (uns 64 (sgn 32 (c.get CH_ZIM_NOHM))))
  | 0x29 => (c.get CH_ZMAG_NOHM, some (wordOf c.regs (CH_ZCNT.fields []) 0 * 2 ^ 32 + wordOf c.regs (CH_ZSTAT.fields []) 0))
  | 0x18 =>
    match c.fifo with
    | [] => (0, some 0)
    | e :: r => (e.info % 256 + r.length * 2 ^ 16, some e.dt)
  | _ => (0, none)

def Device.iRds (k c dst item : Nat) (d : Device) : Device :=
  d.onThread k c fun t d =>
    let n := chanOf k c
    let (v, w) := d.rdsItem n t item
    let d := if item == 0x18 then d.modChan n fun x => x.popEvent.1 else d
    d.retireNext k c fun u =>
      (match w with | some w => u.setPair dst v w | none => u.setG dst v).setZN v

end Sys2Proof.Machine
end

