-- ==== Sys2Proof/Machine/IsaHold.lean ====
section
/-! DEFINITION. How a wait that is no plain condition ends, and the release of a quiesce (R199, R208, R210, R226, R229, R236). -/

namespace Sys2Proof.Machine

/-- The result of a MEAS in the thread's registers (R229). -/
def Device.measResult (k c : Nat) (isI : Bool) (dst : Nat) (d : Device) : Device :=
  let x := d.chan (chanOf k c)
  let v := if isI then x.get CH_MIRES_CODE else x.get CH_MVRES_CODE
  let w := if isI then x.get CH_MIINFO_INFO else x.get CH_MVINFO_INFO
  d.modThr k c fun t => ((t.setPair dst v w).setZN v).setFlag 5 (bits w 0 17 != 0)

/-- The request of a PSRANGE that no change stands in the way of (R226): nothing when the range is in force and acknowledged; else the change of R167, which `.w` waits for. Answers whether the instruction has ended. -/
def Device.psRequest (k c r : Nat) (w : Bool) (d : Device) : Device × Bool :=
  let n := chanOf k c
  let x := d.chan n
  if r == x.psr && x.setupAcked then (d, true)
  else
    let d := d.startRange n r none
    if w then (d.modThr k c (Thread.await ⟨.psEnd, none, d.dt⟩), false) else (d, true)

/-- A wait that is not a plain condition has ended with outcome `ok`; the thread goes on (R226, R229, R236). -/
def Device.finishWait (k c : Nat) (w : Wait) (ok : Bool) (d : Device) : Device :=
  let go := fun (f : Thread → Thread) (d : Device) => d.modThr k c fun t => ((f t).wake none none).setPc (if t.onStore then t.pc else t.pc + 1)
  match w.kind with
  | .meas isI dst => go id (if (d.thread k c).onStore then d else d.measResult k c isI dst)
  | .psEnd => go (Thread.setFlag 5 ok) d
  | .imped => go (Thread.setFlag 5 ok) d
  | .psBusy r w =>
    match d.psRequest k c r w with
    | (d, true) => go id d
    | (d, false) => d
  | _ => go id d

/-- The same, kept for the release while a quiesce holds the thread (R199). -/
def Device.endWait (k c : Nat) (w : Wait) (ok : Bool) (d : Device) : Device :=
  if (d.thread k c).state == 4 then d.modThr k c fun t => { t with held := some (ok, 0) }
  else d.finishWait k c w ok

/-- The release of a quiesce (R199, R208): threads return to their former states, and the waits that ended meanwhile take effect. -/
def Device.release (k : Nat) (d : Device) : Device :=
  let d := d.unquiesce k
  (List.range 64).foldl (fun d c =>
    let t := d.thread k c
    match t.held, t.wait with
    | some (tf, s), some w =>
      let d := d.modThr k c fun t => { t with held := none }
      match w.kind with
      | .cond _ _ => d.modThr k c (Thread.wakeNext (some tf) (some s))
      | .sync _ _ => d.modThr k c (Thread.wakeNext (some tf) (some s))
      | .until_ => d.modThr k c (Thread.wakeNext (some tf) (some s))
      | _ => d.finishWait k c w tf
    | _, _ => d) d

end Sys2Proof.Machine
end

