-- ==== Sys2Proof/Machine/Display.lean ====
section
/-! DEFINITION. The display outputs: modes, training, layers, composition and retirement (R451 to R461). -/

namespace Sys2Proof.Machine

def Device.modDsp (o : Nat) (f : Dsp → Dsp) (d : Device) : Device := { d with dsp := d.dsp.modify o f }
def Device.dspOf (o : Nat) (d : Device) : Dsp := d.dsp.getD o {}

/-- The mode that the registers hold (R452). -/
def Device.dspMode (o : Nat) (d : Device) : DMode :=
  { hact := d.get (DSP_HTIM0_HACT o), hfp := d.get (DSP_HTIM0_HFP o), hsync := d.get (DSP_HTIM1_HSYNC o), hbp := d.get (DSP_HTIM1_HBP o)
    vact := d.get (DSP_VTIM0_VACT o), vfp := d.get (DSP_VTIM0_VFP o), vsync := d.get (DSP_VTIM1_VSYNC o), vbp := d.get (DSP_VTIM1_VBP o)
    khz := d.get (DSP_PCLK_KHZ o)
    link := d.get (DSP_LINK_LANES o) + 4 * d.get (DSP_LINK_RATE o) + 16 * d.get (DSP_LINK_HPOL o) + 32 * d.get (DSP_LINK_VPOL o) }

/-- Lanes, and kilobits per second of one lane; 0 for the reserved codes (R463). -/
def DMode.lanes (m : DMode) : Nat := match m.link % 4 with | 0 => 1 | 1 => 2 | 2 => 4 | _ => 0
def DMode.rate (m : DMode) : Nat := match m.link / 4 % 4 with | 0 => 1620000 | 1 => 2700000 | 2 => 5400000 | _ => 0

/-- R452. -/
def DMode.ok (m : DMode) : Bool :=
  m.hact ≤ 2560 && m.vact ≤ 1600 &&
    1 ≤ m.hfp && 1 ≤ m.hsync && 1 ≤ m.hbp && 1 ≤ m.vfp && 1 ≤ m.vsync && 1 ≤ m.vbp &&
    25000 ≤ m.khz && m.khz ≤ 300000 && m.khz * 24 * 10 ≤ m.lanes * m.rate * 8

/-- Do two modes need the same link (R453). -/
def DMode.sameLink (m n : DMode) : Bool := m.khz == n.khz && m.link % 16 == n.link % 16

/-- A retrain begins with the mode in force (R454). -/
def Device.dspRetrain (o : Nat) (d : Device) : Device :=
  (((d.setB (DSP_STAT_RETRAIN o) true).setB (DSP_STAT_ACTIVE o) false).setB (DSP_STAT_LINK o) false).modDsp o fun x => { x with failed := false }

/-- A retrain begins; a staged mode is taken if one waits (R453). -/
def Device.dspTrain (o : Nat) (d : Device) : Device :=
  let d := d.dspRetrain o
  match (d.dspOf o).staged with
  | some m => (d.modDsp o fun x => { x with mode := m, staged := none, fresh := true }).setB (DSP_STAT_PEND o) false
  | none => d

/-- Row DSP_APPLY (R452 to R454). After a failed training the accepted mode is taken at once. -/
def Device.dspApply (o : Nat) (d : Device) : Device :=
  if 2 ≤ o then d
  else
    let m := d.dspMode o
    if !m.ok then (d.setB (DSP_STAT_MODEERR o) true).raise (292 + o)
    else
      let d := (d.modDsp o fun x => { x with staged := some m }).setB (DSP_STAT_PEND o) true
      if (d.dspOf o).failed then d.dspTrain o else d

/-- A write of DSP_CTL has changed EN or PWR (R452, R454). -/
def Device.dspControl (o : Nat) (d : Device) : Device :=
  let on_ := d.on (DSP_CTL_EN o) && d.on (DSP_CTL_PWR o)
  if !on_ then
    (((d.setB (DSP_STAT_ACTIVE o) false).setB (DSP_STAT_LINK o) false).setB (DSP_STAT_RETRAIN o) false).modDsp o fun x => { x with failed := false }
  else if d.on (DSP_STAT_HPD o) && !d.on (DSP_STAT_ACTIVE o) && !d.on (DSP_STAT_RETRAIN o) then d.dspTrain o
  else d

/-- In DOZE an output is disabled and unpowered (R452). -/
def Device.dspOff (o : Nat) (d : Device) : Device :=
  ((d.setB (DSP_CTL_EN o) false).setB (DSP_CTL_PWR o) false).dspControl o

/-- A layer as its registers hold it (R464). -/
def Device.dspLayer (o l : Nat) (d : Device) : DLayer :=
  { en := d.on (DSP_LCTL_EN o l), fmt := d.get (DSP_LCTL_FMT o l), opaque_ := d.on (DSP_LCTL_OPAQUE o l)
    galpha := d.get (DSP_LCTL_GALPHA o l), wm := d.get (DSP_LCTL_WM o l)
    x := d.get (DSP_LPOS_X o l), y := d.get (DSP_LPOS_Y o l), w := d.get (DSP_LSIZE_W o l), h := d.get (DSP_LSIZE_H o l)
    stride := d.get (DSP_LSTRIDE_BYTES o l) / 64 * 64, addr := d.get (DSP_LADDR_ADDR o l) / 64 * 64 }

/-- The layer values are latched unless HOLD is set (R460, R461); a reserved FMT sets MODEERR and disables the layer (R455). -/
def Device.latchLayers (o : Nat) (d : Device) : Device :=
  if d.on (DSP_CTL_HOLD o) then d
  else (List.range 3).foldl (fun d l =>
    let old := (d.dspOf o).layers.getD l {}
    let new := d.dspLayer o l
    let d := if new.en && new.fmt == 3 then d.setB (DSP_STAT_MODEERR o) true else d
    let new := if new.fmt == 3 then { new with en := false } else new
    let d := d.modDsp o fun x => { x with layers := x.layers.set l new }
    if old.addr != new.addr || (old.en && !new.en) then
      ((d.set (DSP_LRETADDR_ADDR o l) old.addr).set (DSP_LAYER_RETIRED_L o) (setBit (d.get (DSP_LAYER_RETIRED_L o)) l true)).raise (294 + 3 * o + l)
    else d) d

/-- Row VBLANK_START (R453, R460): the end of the last active line. -/
def Device.vblank (o : Nat) (d : Device) : Device :=
  if 2 ≤ o || !d.on (DSP_STAT_ACTIVE o) || (d.dspOf o).blank then d
  else
    let x := d.dspOf o
    let d := (List.range 3).foldl (fun d l => d.set (DSP_LSTAT_COVLINES o l) (x.cov.getD l 0)) d
    let d := (d.set (DSP_FRAME_CNT o) (d.get (DSP_FRAME_CNT o) + 1)).raise (304 + o)
    let d := (d.modDsp o fun x => { x with blank := true, cov := [0, 0, 0], under := false }).latchLayers o
    match x.staged with
    | none => d
    | some m =>
      if m.sameLink x.mode then
        (((d.modDsp o fun x => { x with mode := m, staged := none }).setB (DSP_STAT_PEND o) false).setB (DSP_STAT_MODE_DONE o) true).raise (290 + o)
      else d.dspTrain o

/-- Row DP_TRAIN_DONE (R453). -/
def Device.trainDone (o : Nat) (ok : Bool) (d : Device) : Device :=
  if 2 ≤ o || !d.on (DSP_STAT_RETRAIN o) || (d.dspOf o).failed then d
  else if !ok then
    ((d.setB (DSP_STAT_TRAINFAIL o) true).modDsp o fun x => { x with failed := true, fresh := false }).raise (292 + o)
  else
    let fresh := (d.dspOf o).fresh
    let d := ((d.setB (DSP_STAT_RETRAIN o) false).setB (DSP_STAT_LINK o) true).setB (DSP_STAT_ACTIVE o) true
    let d := (d.modDsp o fun x => { x with blank := false, fresh := false, cov := [0, 0, 0], under := false }).latchLayers o
    if fresh then (d.setB (DSP_STAT_MODE_DONE o) true).raise (290 + o) else d

/-- Row HPD_CHANGE (R454): on its return an enabled output retrains with the mode in force. -/
def Device.hpdChange (o : Nat) (present : Bool) (d : Device) : Device :=
  if 2 ≤ o || d.on (DSP_STAT_HPD o) == present then d
  else
    let d := (d.setB (DSP_STAT_HPD o) present).raise (288 + o)
    if present then
      if d.on (DSP_CTL_EN o) && d.on (DSP_CTL_PWR o) then d.dspRetrain o else d
    else
      (((d.setB (DSP_STAT_ACTIVE o) false).setB (DSP_STAT_LINK o) false).setB (DSP_STAT_RETRAIN o) false).modDsp o fun x => { x with failed := false, fresh := false }

/-! ### Composition (R455 to R457, R459) -/

def DLayer.bpp (y : DLayer) : Nat := match y.fmt with | 0 => 2 | 1 => 3 | _ => 4
/-- Is every pixel of the layer opaque (R456). -/
def DLayer.solid (y : DLayer) : Bool := y.en && y.galpha == 255 && (y.fmt != 2 || y.opaque_)
/-- Does the layer show on line `n` of a mode, and its pixel columns there. -/
def DLayer.onLine (y : DLayer) (n : Nat) : Bool := y.en && y.y ≤ n && n < y.y + y.h
def DLayer.span (y : DLayer) (m : DMode) : Nat × Nat := (min y.x m.hact, min (y.x + y.w) m.hact)
def DLayer.covers (y : DLayer) (n x : Nat) : Bool := y.onLine n && y.x ≤ x && x < y.x + y.w

/-- A, R, G, B of a pixel value; narrow components repeat their high bits (R455). -/
def DLayer.argb (y : DLayer) (v : Nat) : Nat × Nat × Nat × Nat :=
  let w5 := fun c => c * 8 + c / 4
  let w6 := fun c => c * 4 + c / 16
  match y.fmt with
  | 0 => (255, w5 (bits v 11 5), w6 (bits v 5 6), w5 (bits v 0 5))
  | 1 => (255, bits v 16 8, bits v 8 8, bits v 0 8)
  | _ => (if y.opaque_ then 255 else bits v 24 8, bits v 16 8, bits v 8 8, bits v 0 8)

/-- One component blended: a = A × GALPHA / 255 (R456). -/
def blend (ag src dst : Nat) : Nat := (2 * (ag * src + (65025 - ag) * dst) + 65025) / (2 * 65025)

def DLayer.mix (y : DLayer) (v dst : Nat) : Nat :=
  let (a, r, g, b) := y.argb v
  let ag := a * y.galpha
  blend ag r (bits dst 16 8) * 65536 + blend ag g (bits dst 8 8) * 256 + blend ag b (bits dst 0 8)

/-- Fetches the bursts that hold a layer's visible pixels of line `n` as master 34; refused ones are reported and read 0, those of a borrowed slice arrive when it is returned (R346, R354, R455). Answers the pixel values from column `x0` on. -/
def Device.fetchLine (o l n x0 x1 : Nat) (d : Device) : Device × List Nat :=
  let y := (d.dspOf o).layers.getD l {}
  let row := y.addr + y.stride * (n - y.y)
  let a := (row + (x0 - y.x) * y.bpp) / 32 * 32
  let e := row + (x1 - y.x) * y.bpp
  let (d, m) := (List.range ((e + 31 - a) / 32)).foldl (fun (s : Device × List Nat) i =>
    match s.1.readMem 34 4 (a + 32 * i) 32 with | (d, ans) => (d, s.2 ++ toBytes 32 (if ans.err == 3 then d.rd (a + 32 * i) 32 else ans.data))) (d, [])
  (d, (List.range (x1 - x0)).map fun i => ofBytes ((m.drop (row + (x0 + i - y.x) * y.bpp - a)).take y.bpp))

/-- Repeats the last pixel delivered for every missing one; before the first it is a free value (R459). -/
def fillMissing (gone : Nat → Bool) (fv : Nat) : List Nat → Nat → Option Nat → List Nat
  | [], _, _ => []
  | v :: t, x, last =>
    if gone x then last.getD fv :: fillMissing gone fv t (x + 1) last
    else v :: fillMissing gone fv t (x + 1) (some v)

/-- One layer of a line laid over the pixels below it (R456, R457, R459). -/
def Device.layLine (o l n : Nat) (gone : List (Nat × Nat)) (below : List Nat) (d : Device) : Device × List Nat :=
  let x := d.dspOf o
  let y := x.layers.getD l {}
  let (x0, x1) := y.span x.mode
  if !y.onLine n || x1 ≤ x0 then (d, below)
  else
    let above := x.layers.drop (l + 1)
    let hidden := (List.range (x1 - x0)).all fun i => above.any fun z => z.solid && z.covers n (x0 + i)
    if hidden then (d.modDsp o fun x => { x with cov := x.cov.modify l (· + 1) }, below)
    else
      let (d, ps) := d.fetchLine o l n x0 x1
      let miss := fun c => gone.contains (l, c)
      let under := (List.range (x1 - x0)).any fun i => miss (x0 + i)
      let ps := fillMissing miss (d.freeVal % 2 ^ 32) ps x0 none
      let d := if under then
          let d := d.useFree.bump (DSP_LUNDER_LINES o l) 1
          if (d.dspOf o).under then d
          else (d.modDsp o fun x => { x with under := true }).raise (300 + o)
        else d
      (d, below.mapIdx fun i b => if x0 ≤ i && i < x1 then y.mix (ps.getD (i - x0) 0) b else b)

/-- Row DP_LINE (R456 to R459): line `n` of output `o` is composed. `gone` lists the pixels (layer, column) that are not in their line buffers, `urgent` the layers whose buffer is below its watermark. -/
def Device.dpLine (o n : Nat) (gone : List (Nat × Nat)) (urgent : Nat) (d : Device) : Device :=
  if 2 ≤ o || !d.on (DSP_STAT_ACTIVE o) || (d.dspOf o).mode.vact ≤ n then d
  else
    let d := d.modDsp o fun x => if n == 0 then { x with blank := false, cov := [0, 0, 0], under := false } else x
    let d := (List.range 3).foldl (fun d l => d.setB (DSP_LSTAT_URGENT o l) (bit urgent l)) d
    let bg := List.replicate (d.dspOf o).mode.hact (d.get (DSP_BGCOL_RGB o))
    let (d, px) := (List.range 3).foldl (fun (s : Device × List Nat) l => s.1.layLine o l n gone s.2) (d, bg)
    d.modDsp o fun x => { x with line := px }

end Sys2Proof.Machine
end

