-- ==== Sys2Proof/Machine/ControlStore.lean ====
section
/-! DEFINITION. The control store and the dispatch table of a cluster's microcode engine as the bus reaches them, and what the Lamplighter writes there (R243, R250, R259, R260, R262, R263). -/

namespace Sys2Proof.Machine

/-- The parity bit that makes the 16 bits of `v` odd (R243). -/
def oddParity (v : Nat) : Nat := (1 + ((List.range 16).filter fun i => bit v i).length) % 2

/-- The ten parity bits of a microword (R243). -/
def wordParity (w : Nat) : Nat := maskOf 10 fun i => oddParity (bits w (16 * i) 16) == 1

/-- A microword with its parity in bits 160 to 169. -/
def withParity (w : Nat) : Nat := w % 2 ^ 160 + wordParity (w % 2 ^ 160) * 2 ^ 160

/-- The stored word at a control-store address; a word that was not written is the base microcode's, and all zero with its parity before the first load (log entry 60). -/
def Cluster.csAt (x : Cluster) (a : Nat) : Nat :=
  match x.cs.find? fun e => e.1 == a with
  | some e => e.2
  | none => if x.base then withParity (Config.baseWord a) else 0x3FF * 2 ^ 160

/-- Is the word one that a command wrote. -/
def Cluster.csWritten (x : Cluster) (a : Nat) : Bool := x.cs.any fun e => e.1 == a

/-- The opcode map (R189). -/
def listedOp (op : Nat) : Bool :=
  op ≤ 0x0C || (0x20 ≤ op && op ≤ 0x33) || (0x40 ≤ op && op ≤ 0x4B) || (0x60 ≤ op && op ≤ 0x67) || (0x80 ≤ op && op ≤ 0x84) || (0x90 ≤ op && op ≤ 0x92)

/-- Bits [15:0] of dispatch entry `op` (R250): as written, or the base table's, in which DIVQ, LDTAB, SEG and CTSEAL are LONG and TRAPOK and unlisted opcodes start at 0x0080 (R251, R256). -/
def Cluster.entry (op : Nat) (x : Cluster) : Nat :=
  if x.base && !x.dispSet.contains op then
    let long := op == 0x27 || op == 0x4A || op == 0x91 || op == 0x84
    (if listedOp op then Config.baseStart op % 8192 else 0x80) + b2n long * (2 ^ 13 + 2 ^ 15)
  else x.get (MCE_DISP_START op) + x.get (MCE_DISP_LONG op) * 2 ^ 13 + x.get (MCE_DISP_PRIV op) * 2 ^ 14 + x.get (MCE_DISP_TRAPOK op) * 2 ^ 15

/-- The control store with `w` at address `a`; addresses rise. -/
def csPut (a w : Nat) : List (Nat × Nat) → List (Nat × Nat)
  | [] => [(a, w)]
  | e :: t => if a < e.1 then (a, w) :: e :: t else if e.1 = a then (a, w) :: t else e :: csPut a w t

/-- The copy of MCE_CSADDR and MCE_CSDATA0 to 5 of master `m`: seven words (R262). -/
def Cluster.csCopy (x : Cluster) (m : Nat) : List Nat :=
  ((x.csRegs.find? fun e => e.1 == m).map (·.2)).getD (List.replicate 7 0)
def Cluster.setCsCopy (m : Nat) (ws : List Nat) (x : Cluster) : Cluster :=
  { x with csRegs := (x.csRegs.filter fun e => decide (e.1 ≠ m)) ++ [(m, ws)] }

/-- The five data words of a copy as one microword. -/
def csData (ws : List Nat) : Nat := (List.range 5).foldl (fun a i => a + ws.getD (i + 1) 0 % 2 ^ 32 * 2 ^ (32 * i)) 0

/-- The Lamplighter's first load of a start is boot step 2 (R402); a cluster taken OUT by the firmware's own reload is LOADING from then on (R436). -/
def Device.loadBegins (k : Nat) (d : Device) : Device :=
  let d := if d.get SEC_BOOT_STATE == 1 then d.set SEC_BOOT_STATE 2 else d
  if d.clState k == 1 && (d.clus k).auto then d.setClState k 2 else d

def Device.mceReject (k : Nat) (d : Device) : Device := d.modCl k (Cluster.setB MCE_STAT_WREJ true)

/-- MCE_CSCMD.WRITE by master `m` (R259, R262): from the Lamplighter only, into this cluster while LOADED = 0, or with BCAST into every cluster whose LOADED = 0; parity is generated. -/
def Device.csWrite (m k : Nat) (bcast : Bool) (d : Device) : Device :=
  if m != 35 then d.mceReject k
  else
    let ws := (d.clus k).csCopy m
    let w := withParity (csData ws)
    let put := fun (j : Nat) (d : Device) =>
      if (d.clus j).on MCE_CTL_LOADED then d
      else (d.loadBegins j).modCl j fun x => { x with cs := csPut (ws.getD 0 0 % 8192) w x.cs }
    let d := if (d.clus k).on MCE_CTL_LOADED then d.mceReject k else d
    if bcast then (List.range 16).foldl (fun d j => put j d) d else put k d

/-- MCE_CSCMD.READ by master `m` (R259): the word and its parity into that master's copy; for another master than the Lamplighter 0, with RREJ. -/
def Device.csRead (m k : Nat) (d : Device) : Device :=
  let x := d.clus k
  let a := (x.csCopy m).getD 0 0
  if m != 35 then
    d.modCl k fun x => (x.setB MCE_STAT_RREJ true).setCsCopy m (a :: List.replicate 6 0)
  else
    let w := x.csAt (a % 8192)
    d.modCl k (Cluster.setCsCopy m (a :: (List.range 6).map fun i => bits w (32 * i) 32))

/-- A write of dispatch entry `op` by master `m` (R250, R259, R263). -/
def Device.dispWrite (m k op v : Nat) (d : Device) : Device :=
  if m != 35 || (d.clus k).on MCE_CTL_LOADED then d.mceReject k
  else
    let e := v % 65536
    (d.loadBegins k).modCl k fun x =>
      { x with
        dispSet := op :: x.dispSet.filter fun i => decide (i ≠ op)
        regs := ((((x.regs.set (MCE_DISP_START op) e).set (MCE_DISP_LONG op) (e / 2 ^ 13)).set (MCE_DISP_PRIV op) (e / 2 ^ 14)).set (MCE_DISP_TRAPOK op) (e / 2 ^ 15)).set (MCE_DISP_PAR op) (oddParity e) }

/-- MCE_CTL.LOADED set by master `m` (R259, R260): the sequencer may issue. Boot is in step 3 then, and in step 4 once every cluster is loaded (R402). -/
def Device.loadedSet (m k : Nat) (d : Device) : Device :=
  if m != 35 then d.mceReject k
  else if (d.clus k).on MCE_CTL_LOADED then d
  else
    let d := d.modCl k fun x => (x.setB MCE_CTL_LOADED true).setB MCE_STAT_LOADED true
    let st := d.get SEC_BOOT_STATE
    if 1 ≤ st && st ≤ 3 then
      d.set SEC_BOOT_STATE (if d.cl.all fun x => x.on MCE_CTL_LOADED then 4 else 3)
    else d

/-- XREQ bits set by master `m` (R252, R262): the trap of cause 13 is pending for those threads. -/
def Device.xreqSet (m k mask : Nat) (d : Device) : Device :=
  if m != 35 then d.mceReject k
  else
    d.modCl k fun x =>
      { x.set MCE_XREQ_MASK (bor (x.get MCE_XREQ_MASK) (mask % 2 ^ 64)) with
        thr := x.thr.mapIdx fun c t => if bit mask c && !t.traps.contains 13 then { t with traps := t.traps ++ [13] } else t }

/-- A context with a routine in progress: an instruction issued or waiting (R241, R262). -/
def Thread.active (t : Thread) : Bool := t.issued.isSome || t.wait.isSome || t.micro.isSome

end Sys2Proof.Machine
end

