-- ==== Sys2Proof/Machine/Reset.lean ====
section
/-! DEFINITION. The five resets, boot, the power-fail sequence and the supplies (R5, R37, R41 to R48, R402, R406, R432 to R434, R473). -/

namespace Sys2Proof.Machine

/-! ### What a reset keeps -/

/-- Is `k` the key of a field with access code RWL. -/
def rwlKey (gs : List Reg) (k : Nat) : Bool := (fieldsAt gs (k / 64)).1.any fun f => f.key == k && f.acc == .rwl

/-- The RWL fields of a register file (R432). -/
def Regs.rwl (gs : List Reg) (r : Regs) : Regs := r.filter fun e => rwlKey gs e.1

/-- Device registers that a reset keeps: the Pilot domain always; but for a power-on DEV_RSTCAUSE and what shows the running timebase (R432, R433). -/
def keptOff (cold : Bool) (off : Nat) : Bool :=
  (0x80000 ≤ off && off < 0x90000) || off == 0x204 ||
    (!cold && (off == 0x20 || off == 0x10004 || off == 0x10018 || off == 0x1001C || off == 0x10020))

/-- A unit reset: with `keep`, its RWL fields stay. -/
def keepRwl (keep : Bool) (gs : List Reg) (r : Regs) : Regs := if keep then r.rwl gs else []

/-- The cluster after a reset. -/
def Cluster.afterReset (keep : Bool) (x : Cluster) : Cluster :=
  { regs := keepRwl keep clRegs x.regs
    thr := x.thr.map fun t => { regs := keepRwl keep thrRegs t.regs }
    cap := x.cap.map fun u => { regs := keepRwl keep capRegs u.regs }
    sti := x.sti.map fun u => { regs := keepRwl keep stiRegs u.regs } }

/-- Kinds of R432: 0 power-on, 1 RESET_N, 2 watchdog, 3 host, 4 MCK escalation; 5 stands for the reset by the boot ROM after a recovery (R420). The state of the device with everything at reset but what that kind keeps, before boot starts. -/
def Device.wiped (kind : Nat) (d : Device) : Device :=
  let cold := kind == 0
  let keep := 2 ≤ kind
  { dt := if cold then 0 else d.dt
    free := d.free
    regs := d.regs.filter fun e => keptOff cold (e.1 / 64) || (keep && rwlKey devRegs e.1) || (keep && e.1 == DEV_CTL_LOCK.key)
    afe := d.afe.map fun x => { regs := keepRwl keep afeRegs x.regs, tdcBad := x.tdcBad }
    cl := d.cl.map (Cluster.afterReset keep)
    grp := d.grp.map fun g => { regs := keepRwl keep grpRegs g.regs }
    ch := d.ch.map fun c => { regs := keepRwl keep chRegs c.regs, cmV := c.cmV, cmI := c.cmI }
    mem := if keep then d.mem.filter fun e => 0x1000000000 ≤ e.1 else []
    bad := if keep then d.bad.filter fun u => 0x1000000000 ≤ u else []
    soft := if keep then d.soft.filter fun e => 0x1000000000 ≤ e.1 else []
    tb := if cold then {} else d.tb
    bootRole := d.bootRole
    ddr := { ranks2 := d.ddr.ranks2, dens32 := d.ddr.dens32 }
    wear := d.sec.flash.wear.headD []
    ilkOpen := d.ilkOpen
    hot := d.hot
    temps := d.temps
    pw := { d.pw with told := keep && kind < 5, failAt := none }
    sec := { fused := d.sec.fused, flash := d.sec.flash } }

/-- Is slot `i` acceptable (R406). -/
def Sec.acceptable (s : Sec) (i : Nat) : Bool :=
  match s.flash.slots[i]? with | some x => x.ok && s.fused ≤ x.svn | none => false

/-- The boot ROM chooses the slot (R406): a trial slot once, ACTIVE, the other slot, or RECOVERY. -/
def Device.romBoot (d : Device) : Device :=
  let s := d.sec
  let d := { d with sec := { s with flash := { s.flash with trial := none } } }
  let go := fun i trial back =>
    ((((d.set SEC_BOOT_STATE 1).set SEC_BOOT_SLOT i).setB SEC_BOOT_TRIAL trial).setB SEC_BOOT_FALLBACK back).set SEC_BOOT_FWSVN ((s.flash.slots.getD i {}).svn)
  match s.flash.trial with
  | some i => if s.acceptable i then go i true false
    else if s.acceptable s.flash.active then go s.flash.active false false
    else if s.acceptable (1 - s.flash.active) then go (1 - s.flash.active) false true
    else d.set SEC_BOOT_STATE 0xF
  | none => if s.acceptable s.flash.active then go s.flash.active false false
    else if s.acceptable (1 - s.flash.active) then go (1 - s.flash.active) false true
    else d.set SEC_BOOT_STATE 0xF

/-- What flash and fuses give the registers before and during boot (R404, R414, R468). -/
def Device.loadFlash (d : Device) : Device :=
  let d := (d.set SEC_BOOT_FUSESVN d.sec.fused).set BCN_CTL_ROLE_REQ d.bootRole
  let d := (List.range 32).foldl (fun d i => d.set (SEC_HOSTFP_FP (i / 8) (i % 8)) (d.sec.flash.keys.getD i 0)) d
  d.setB SEC_STAT_PROV (d.sec.flash.keys.all fun k => k == 0)

/-- A reset of a kind of R432 acts and boot starts at step 1 (R433). Lanes are OFF, safe-off is forced. -/
def Device.reset (kind : Nat) (d : Device) : Device :=
  let d := ((d.wiped kind).loadFlash.force 0 true).romBoot
  if kind < 5 then d.set DEV_RSTCAUSE_CAUSE (bor (d.get DEV_RSTCAUSE_CAUSE) (2 ^ kind)) else d

/-- The MCK-escalation reset of cluster `k` (R434). -/
def Device.escalate (k : Nat) (d : Device) : Device := (d.reset 4).set DEV_RSTCAUSE_ESCK k

/-! ### Supplies -/

/-- The Pilot domain starts: its registers take their reset values (R41, R439, R449). -/
def Device.pilotStart (d : Device) : Device :=
  { d with
    regs := d.regs.filter fun e => !((0x80000 ≤ e.1 / 64 && e.1 / 64 < 0x90000) || e.1 / 64 == 0x204)
    pw := { d.pw with pilot := true, frac := 0, offAt := none, wake := 0 } }

/-- Rails are up and boot begins (R43): a power-on. PIL_OFFTIME takes the ticks for which the core was off (R439). -/
def Device.powerUp (d : Device) : Device :=
  let d := if d.pw.pilot then d else d.pilotStart
  let d := match d.pw.offAt with
    | some t => d.set PIL_OFFTIME_TICKS (d.get PIL_TIME_TICKS - t)
    | none => d
  let d := { d with pw := { d.pw with phase := 2, offAt := none, cold := false } }
  d.reset 0

/-- Row POWER_ON (R43, R473): VMAIN crosses power-good rising, `fell` if it had been below power-fail before. A RESET_N held low keeps the device at the first step. -/
def Device.powerOn (fell : Bool) (d : Device) : Device :=
  let cause := d.get DEV_PWRFAIL_LAST_CAUSE
  if d.pw.phase != 0 || (d.pw.pilot && (cause == 2 || (cause == 3 && !fell))) then d
  else if d.pw.rstLow then { d with pw := { d.pw with phase := 1, cold := true } }
  else d.powerUp

/-- Row POWER_ON_AFTER_OVERVOLTAGE (R473). -/
def Device.powerOnAfterOv (d : Device) : Device :=
  if d.pw.phase != 0 || !d.pw.pilot || d.get DEV_PWRFAIL_LAST_CAUSE != 2 then d
  else if d.pw.rstLow then { d with pw := { d.pw with phase := 1, cold := true } }
  else d.powerUp

/-- Row RESET_N (R43, R45, R432, R473): low for 1 µs. A device latched off by a thermal shutdown is freed by it while VMAIN lies within 10.8 V to 13.2 V (`inRange`). -/
def Device.resetN (inRange : Bool) (d : Device) : Device :=
  let low := { d with pw := { d.pw with rstLow := true } }
  match d.pw.phase with
  | 0 => if inRange && d.pw.pilot && d.get DEV_PWRFAIL_LAST_CAUSE == 3 then
      { d with pw := { d.pw with rstLow := true, phase := 1, cold := true } } else low
  | 1 => low
  | _ =>
    if d.pw.failAt.isSome then d
    else
      let d := d.reset 1
      { d with pw := { d.pw with rstLow := true, phase := 1, cold := false } }

/-- Row RESET_N_RELEASE (R43): RESET_N goes high, and a device held at the first step boots. -/
def Device.resetNRelease (d : Device) : Device :=
  let d := { d with pw := { d.pw with rstLow := false } }
  if d.pw.phase != 1 then d
  else if d.pw.cold then d.powerUp
  else { d with pw := { d.pw with phase := 2 } }

/-- A power-fail sequence starts (R44, R45): causes 1 undervoltage, 2 overvoltage, 3 thermal shutdown. -/
def Device.powerFail (cause : Nat) (d : Device) : Device :=
  if d.pw.phase == 0 || d.pw.failAt.isSome then d
  else
    let d := { d with pw := { d.pw with failAt := some d.dt } }
    let d := ((d.bump DEV_PWRFAIL_COUNT 1).set DEV_PWRFAIL_LAST_CAUSE cause).force 3 true
    (d.snuffAll 21).raise 427

/-- Row POWERFAIL_LANES_OFF (R44): 2 µs after detection every lane is OFF; the core rails collapse. -/
def Device.powerfailLanesOff (d : Device) : Device :=
  match d.pw.failAt with
  | some t =>
    if t + 2 * usLen ≤ d.dt || d.pw.phase != 2 then
      let d := (d.lanesDown.wiped 0).force 3 false
      { d with pw := { d.pw with phase := 0, failAt := none, offAt := some (d.get PIL_TIME_TICKS) } }
    else d
  | none => d

/-- Row SUPPLY_MEASURE (R46). -/
def Device.supplyMeasure (vmain vpilot : Nat) (d : Device) : Device :=
  ((d.set DEV_SUPPLY_VMAIN_MV vmain).set DEV_SUPPLY_VPILOT_MV vpilot).setB DEV_SUPPLY_VALID true

/-- Row JUNCTION_SAMPLE (R48): one sample of every junction in °C, the eight AFE chiplets first. -/
def Device.junctionSample (temps : List Int) (d : Device) : Device :=
  let high := temps.any fun t => 115 ≤ t
  let d := { d with temps := temps.take 8 }
  let d :=
    if high && !d.hot then ((({ d with hot := true } : Device).force 5 true).snuffAll 12).raise 377
    else if !high && d.hot then ({ d with hot := false } : Device).force 5 false
    else d
  if temps.any fun t => 125 ≤ t then d.powerFail 3 else d

/-- Row PILOT_DOMAIN_START (R439): VPILOT is applied while VMAIN is absent. -/
def Device.pilotDomainStart (d : Device) : Device :=
  if d.pw.phase == 0 && !d.pw.pilot then d.pilotStart else d

/-- Row PILOT_DOMAIN_LOSS (R41): VPILOT is gone while VMAIN is absent. -/
def Device.pilotDomainLoss (d : Device) : Device :=
  if d.pw.phase == 0 then { d with pw := { d.pw with pilot := false } } else d

/-! ### Wear (R442 to R444) -/

/-- The firmware saves the wear records to the service log (R444). -/
def Device.wearSave (d : Device) : Device :=
  let f := d.sec.flash
  { d with sec := { d.sec with flash := { f with wear := (d.wear :: f.wear).take 25 } } }

/-- The largest increase of element `e` between successive saves (R444). -/
def largestRise (e : Nat) : List (List (Nat × Nat)) → Nat
  | a :: b :: t => max (wearOf e a - wearOf e b) (largestRise e (b :: t))
  | _ => 0

/-- A start from a power-fail sequence or a reset is not preceded by a save (a wake from DOZE is): every count of classes 0 and 1 grows by its largest hourly increase among the last 24 saved hours (R444). -/
def Device.wearRestore (d : Device) : Device :=
  let es := (d.wear.map (·.1)).filter fun e => e < 4096
  let cells := d.wear.foldl (fun (m : List Host.Cell) (x : Nat × Nat) => memWrite (d.wearAt x.1) x.2 8 m) d.mem
  let d := { d with mem := cells }
  let d := es.foldl (fun d e => d.wearBy e (largestRise e d.sec.flash.wear)) d
  (d.setB HLT_STAT_RESTORED true).raise 372

/-! ### READY -/

/-- The firmware enables the regions of R347: each owner's own bank, and host DMA everywhere. -/
def Device.openRegions (d : Device) : Device :=
  let whole := fun (m t : Nat) (a x : Bool) (d : Device) =>
    let d := ((d.setB (MEM_RLO_EN m t 0) true).set (MEM_RLO_BASE m t 0) (targetBase t / 4096)).setB (MEM_RHI_R m t 0) true
    (((d.setB (MEM_RHI_W m t 0) true).setB (MEM_RHI_A m t 0) a).setB (MEM_RHI_X m t 0) x).set (MEM_RHI_LIMIT m t 0) (targetEnd t / 4096)
  let d := (List.range 16).foldl (fun d k => whole k k true true d) d
  let d := whole 34 18 true false (whole 33 17 true false (whole 32 16 true false d))
  (List.range 22).foldl (fun d t => whole 36 t false false d) d

/-- The calibration store gives the values of R104 and R105 that it holds (R402, R418). -/
def Device.loadCal (d : Device) : Device :=
  let put := fun (r s : Regs) => s.foldl (fun r e => (r.drop e.1).put e.1 e.2) r
  { d with
    afe := d.afe.mapIdx fun a x => { x with regs := put x.regs (d.sec.flash.calAfe.getD a []) }
    ch := d.ch.mapIdx fun n c => { c with regs := put c.regs (d.sec.flash.calCh.getD n []) } }

/-- R409: the containers in ascending LEVEL that apply; `bad` lists the LEVELs whose signature or GCM tag fails. Answers the highest LEVEL applied, the words written, the number skipped. -/
def applyPatches (svn : Nat) (bad : List Nat) : List Patch → Nat → Nat → Nat → Nat × Nat × Nat
  | [], lvl, ws, rej => (lvl, ws, rej)
  | p :: t, lvl, ws, rej =>
    if p.fits && p.minSvn ≤ svn && lvl < p.level && !bad.contains p.level then
      applyPatches svn bad t p.level (ws + p.records) rej
    else applyPatches svn bad t lvl ws (rej + 1)

/-- A container joins the store, kept in ascending LEVEL. -/
def putPatch (p : Patch) : List Patch → List Patch
  | [] => [p]
  | x :: t => if p.level < x.level then p :: x :: t else x :: putPatch p t

/-- Control store and patches of cluster `k` are complete (R260): LOADED, MCE_PATCH, no machine check. -/
def Cluster.loaded (lvl ws : Nat) (x : Cluster) : Cluster :=
  let r := (((x.regs.setB MCE_CTL_LOADED true).setB MCE_STAT_LOADED true).set MCE_PATCH_LEVEL lvl).set MCE_PATCH_WORDS (min ws 65535)
  { x with regs := r.setB MCE_STAT_MCK false, base := true }

/-- The curve tables of classes 0 and 1 as they start (R445). -/
def Device.firstCurves (d : Device) : Device :=
  let b := 0x3E00000 + d.get HLT_CURVEBASE_OFS
  let cells := memWrite (b + 0x10) 1600000000 8 (memWrite (b + 0xC) 2 4 d.mem)
  let cells := memWrite (b + 0x10C) 2 4 (memWrite (b + 0x18) 65536 4 cells)
  { d with mem := cells }

/-- Row BOOT_READY (R402, R409, R419, R441): the end of boot, once DT runs and the role is fixed. `idBad` and `calBad`: the identity or the calibration store cannot be read; `bad`: LEVELs of the containers that fail. What of steps 2 to 6 the firmware has not done by rows of their own is done. -/
def Device.bootReady (idBad calBad : Bool) (bad : List Nat) (d : Device) : Device :=
  let st := d.get SEC_BOOT_STATE
  if !(1 ≤ st && st ≤ 6) || !d.on TB_STAT_DT_VALID || !d.roleDone then d
  else
    let (lvl, ws, rej) := applyPatches (d.get SEC_BOOT_FWSVN) bad d.sec.flash.store 0 0 0
    let cls := d.cl.map fun (x : Cluster) => { x.loaded lvl ws with paceAt := d.dt }
    let d := { d with cl := cls }
    let d := ((d.set DEV_CLSVC_STATE 0).set SEC_STAT_PATCHREJ rej).raiseN 322 rej
    let d := if d.on SEC_BOOT_FALLBACK then d.raise 321 else d
    let d := d.setB SEC_STAT_IDERR idBad
    let d := if idBad then d.raise 330 else d
    let d := d.setB SEC_STAT_CALERR calBad
    let d := if calBad then d.raise 330 else d.loadCal
    let d := (List.range 8).foldl (fun d a => if (d.chip a).on AFE_CTL_TPR_EN then d else d.taperEnable a true) d
    let d := d.firstCurves
    let d := d.wearRestore.openRegions
    let d := if d.on DEV_CTL_LANE_EN then d else (d.setB DEV_CTL_LANE_EN true).laneEnable
    let d := ((d.set SEC_BOOT_STATE 7).set DEV_PSTATE_STATE 1).force 0 false
    let d := (d.setB DEV_PWRFAIL_PILOT_LOST false).raise 320
    let d := if d.pw.told then d.raise 376 else d
    { d with pw := { d.pw with told := false } }

end Sys2Proof.Machine
end

