-- ==== Sys2Proof/Machine/Ddr.lean ====
section
/-! DEFINITION. The DDR5 controller: training, scheduling, refresh, row-hammer defence, patrol and self-refresh (R361 to R380). -/

namespace Sys2Proof.Machine

/-- Row DDR_TRAINING_DONE (R361 to R363): `err` of DDR_STAT, arrangement, 2 ranks, 32 Gb devices, directed refresh management. What R361 and R362 do not admit is an error whatever `err` says. -/
def Device.ddrTrained (err arr : Nat) (ranks2 dens32 drfm : Bool) (d : Device) : Device :=
  if d.on DDR_STAT_AVAIL || d.get SEC_BOOT_STATE == 0xF then d
  else
    let d := if d.get SEC_BOOT_STATE < 5 then d.set SEC_BOOT_STATE 5 else d
    let err := if err % 16 != 0 then err else if arr == 0 || 3 < arr then 2 else if ranks2 && dens32 then 3 else 0
    let d := d.set DDR_STAT_ERR err
    if err != 0 then (d.setB DDR_STAT_AVAIL false).raise 208
    else
      let dimms := if arr == 3 then 4 else arr
      let cap := dimms * 32 * (if ranks2 then 2 else 1) * (if dens32 then 2 else 1)
      let d := { d with ddr := { d.ddr with ranks2 := ranks2, dens32 := dens32, ch := Tab.all_ { emptyAt := d.dt } } }
      let d := ((d.set DDR_STAT_ARR arr).set DDR_STAT_CAPGIB cap).set DDR_STAT_SPEED (if arr == 3 then 1 else 2)
      let d := (List.range (if arr == 1 then 1 else 2)).foldl (fun d c =>
        (((d.setB (DDR_CHSTAT_TRAINED c) true).setB (DDR_CHSTAT_ALLBANK c) (arr == 3)).setB (DDR_CHSTAT_DRFM c) drfm).setB (DDR_CHSTAT_SR c) false) d
      (d.setB DDR_STAT_AVAIL true).raise 207

/-! ### Refresh -/

/-- Row DDR_REFRESH_INTERVAL of rank `r` (R369, R370): what had reached its limit is refreshed ahead of requests, then each unit owes one more. -/
def Device.refreshInterval (c r : Nat) (d : Device) : Device :=
  if !d.ddrHas c || !d.ddrRanks.contains r || d.on (DDR_CHSTAT_SR c) then d
  else
    let lim := d.debtLimit c r
    let d := d.refreshUnits.foldl (fun d u =>
      let d := if lim ≤ (d.ddrCh c).debtOf r u then (d.issueRefresh c r u).forcedRefresh c 1 else d
      d.modDdr c fun x => x.setDebt r u (x.debtOf r u + 1)) d
    let d := d.modDdr c fun x =>
      { x with ivals := (r, ((x.ivals.find? fun e => e.1 == r).map (·.2)).getD 0 + 1) :: x.ivals.filter fun e => decide (e.1 ≠ r) }
    d.showDebt c r

/-- Row DDR_MR4_POLL of rank `r` with refresh-rate code `code` (R371). -/
def Device.mr4Poll (c r code : Nat) (d : Device) : Device :=
  if !d.ddrHas c || !d.ddrRanks.contains r then d
  else
    let d := d.set (DDR_RKSTAT_RRCODE c r) code
    let hot := d.get DDR_REFCFG_RRTHR ≤ code % 8
    let was := d.on (DDR_RKSTAT_DOUBLED c r)
    if hot && !was then
      let d := d.setB (DDR_RKSTAT_DOUBLED c r) true
      let high := d.refreshUnits.foldl (fun n u => n + (2 * (d.ddrCh c).debtOf r u - 8)) 0
      let all := d.allBank
      let due := d.refreshUnits.filter fun u => 8 < 2 * (d.ddrCh c).debtOf r u
      let d := d.modDdr c fun x =>
        { d.refreshUnits.foldl (fun x u => x.setDebt r u (min 8 (2 * x.debtOf r u))) x with
          open_ := x.open_.filter fun o => !(o.1 == r && due.any fun u => all || o.2.1 % 4 == u) }
      ((d.forcedRefresh c high).showDebt c r).raise 204
    else if !hot && was then
      let d := d.setB (DDR_RKSTAT_DOUBLED c r) false
      let d := d.modDdr c fun x => d.refreshUnits.foldl (fun x u => x.setDebt r u ((x.debtOf r u + 1) / 2)) x
      (d.showDebt c r).raise 205
    else d

/-- Row DDR_RH_TABLE_CLEAR of rank `r` (R372). -/
def Device.rhClear (c r : Nat) (d : Device) : Device :=
  if ((((d.ddrCh c).ivals.find? fun e => e.1 == r).map (·.2)).getD 0) < 8192 then d
  else d.modDdr c fun x =>
    { x with rh := x.rh.filter fun e => e.rank != r, ivals := x.ivals.filter (fun e => decide (e.1 ≠ r)), rhSeen := false }

/-! ### Patrol and self-refresh (R377 to R379) -/

/-- Row DDR_PATROL_SCRUB (R377): the next `n` lines are read in idle slots. -/
def Device.patrol (n : Nat) (d : Device) : Device :=
  if !d.on DDR_CTL_SCRUB_EN || !d.on DDR_STAT_AVAIL || !((d.ddrCh 0).queue.isEmpty && (d.ddrCh 1).queue.isEmpty) then d
  else
    let cap := d.get DDR_STAT_CAPGIB * 2 ^ 30
    let p := d.ddr.patrol
    let e := min cap (p + 64 * n)
    let inside := fun u => 0x1000000000 + p ≤ u && u < 0x1000000000 + e
    let soft := (d.soft.map (·.1)).filter inside
    let bad := d.bad.filter inside
    let d := soft.foldl (fun d u => d.corrected 20 u) d
    let d := bad.foldl (fun d u => d.uncorrectable 63 20 u) d
    let d := { d with ddr := { d.ddr with patrol := if e == cap then 0 else e } }
    if e == cap then d.raise 209 else d

/-- Channel `c` enters self-refresh (R378): every postponed refresh has been issued, the rows are closed. -/
def Device.srEnter (c : Nat) (d : Device) : Device :=
  let d := d.modDdr c fun x => { x with entering := false, debt := [], open_ := [] }
  let d := d.ddrRanks.foldl (fun d r => d.showDebt c r) d
  (d.setB (DDR_CHSTAT_SR c) true).bump (DDR_SRCNT_ENTRY c) 1

/-- Row DDR_SR_ENTRY (R378): the entry begins with the postponed refreshes; its command follows when none is left. -/
def Device.srEntry (c : Nat) (d : Device) : Device :=
  let x := d.ddrCh c
  if !d.ddrHas c || !d.on DDR_CTL_SR_EN || d.on (DDR_CHSTAT_SR c) || !x.queue.isEmpty ||
      d.dt < x.emptyAt + d.get DDR_PWRCFG_IDLEUS * usLen then d
  else if !x.entering && !x.debt.isEmpty then d.modDdr c fun x => { x with entering := true }
  else d.srEnter c

/-- Row DDR_SR_EXIT (R379): a request waits, so the channel leaves self-refresh; an entry in progress has been abandoned when the request arrived. -/
def Device.srExit (c : Nat) (d : Device) : Device :=
  if (d.ddrCh c).queue.isEmpty then d else d.setB (DDR_CHSTAT_SR c) false

end Sys2Proof.Machine
end

