-- ==== Sys2Proof/Machine/Power.lean ====
section
/-! DEFINITION. Power states, clusters leaving and entering service, the Pilot domain, health and wear (R423 to R446), and the pace windows (R26, R27). -/

namespace Sys2Proof.Machine

/-! ### DEV_PCMD -/

/-- Is the device in HOLD, entering DOZE or waking (R423, R426). -/
def Device.inHold (d : Device) : Bool := 2 ≤ d.get DEV_PSTATE_STATE

/-- A refused DEV_PCMD (R425): 1 STATE, 2 MASTER, 3 BUSY, 4 NOWAKE. -/
def Device.refusePcmd (code : Nat) (d : Device) : Device :=
  (d.setB DEV_PSTATE_REFUSED true).set DEV_PSTATE_REFCODE code

/-- All 1,024 threads are told to HALT (R426). -/
def Device.haltAll (d : Device) : Device :=
  (List.range 16).foldl (fun d k => (List.range 64).foldl (fun d c => d.hostStop k c 11) d) d

/-- OP = 1 (R424, R426). -/
def Device.pcmdHold (d : Device) : Device :=
  if d.get DEV_PSTATE_STATE != 1 then d.refusePcmd 1
  else (d.haltAll.snuffAll 20).set DEV_PSTATE_STATE 2

/-- OP = 2 (R424). -/
def Device.pcmdRun (d : Device) : Device :=
  if d.get DEV_PSTATE_STATE != 2 then d.refusePcmd 1 else d.set DEV_PSTATE_STATE 1

/-- The pending shadow set is discarded (R427, R436). -/
def Chan.discard (c : Chan) : Chan := { c.setB CH_RSTAT_PEND false with commitAt := none, lateBy := 0 }

/-- Every edge slot is disarmed (R427, R436). -/
def Chan.disarmSlots (c : Chan) : Chan :=
  { c with regs := (List.range 4).foldl (fun r j => r.setB (CH_ESCTL_ARMED j) false) c.regs }

/-- OP = 3 (R425, R427): steps 1 to 5 of DOZE entry begin. -/
def Device.pcmdDoze (d : Device) : Device :=
  if d.get DEV_PSTATE_STATE != 2 then d.refusePcmd 1
  else if d.get DEV_POS_ROLE == 2 && d.get BCN_STAT_MEMBERS != 0 then d.refusePcmd 2
  else if d.sec.op != 0 || d.sec.setup.isSome || d.on CT_STAT_FLUSHBUSY then d.refusePcmd 3
  else if !d.on PIL_WAKECFG_TIMER && !d.on PIL_WAKECFG_CMP && !d.on PIL_WAKECFG_ETH then d.refusePcmd 4
  else
    let d := (d.set DEV_PSTATE_STATE 3).set PIL_WAKESRC_SRC 0
    let d := { d with pw := { d.pw with wake := 0 } }
    let d := if d.on PIL_SAFECTL_DOZEOFF then d.force 4 true else d
    let d := (List.range 1024).foldl (fun d n => if (d.capt n).state == 0 then d else d.capDisarm n) d
    let cls := d.cl.map fun (x : Cluster) => { x with sti := x.sti.map Sti.disarm }
    let d := { d with cl := cls }
    let d := d.mapChans (fun _ => true) fun c => c.disarmSlots.discard
    let d := ((d.setB MOT_CTL_EN false).motSchclr.setB CT_STAT_FLUSHBUSY true).ctFlushDone
    let d := d.wearSave
    let d := if d.on DEV_CTL_LANE_EN then (d.setB DEV_CTL_LANE_EN false).laneDisable else d
    (List.range 8).foldl (fun d a => d.taperEnable a false) d

/-- Wake begins (R429, R430): power returns, DT resumes at a Pilot tick edge, the timebase is in holdover, ALIGNED is lost. -/
def Device.wakeUp (d : Device) : Device :=
  let n := d.get PIL_TIME_TICKS - d.pw.dozeTick
  let fp := max 1 d.pw.dozeFp
  let gone := (roundDiv ((n * 6250000 * 32768000000 : Nat) : Int) fp).toNat
  let unc := d.pw.dozeUnc + (openDiv (2000 * gone) msLen).toNat + 20000
  let d := { d with dt := d.get PIL_DOZEDT_DT + gone, pw := { d.pw with phase := 2, wake := 0 } }
  let d := ((d.set TB_HOLDUNC_UNC (min unc (2 ^ 32 - 1))).set TB_STAT_SRC 3).setB TB_STAT_LOCKED false
  let d := { d with tb := { d.tb with pullIn := none, heldFrom := some d.dt } }
  ((d.setB BCN_STAT_ALIGNED false).set DEV_PSTATE_STATE 4).setIsland 1 true

/-- Wake source `i` has fired (R428): 0 TIMER, 1 CMP, 2 ETH. During entry it is held. -/
def Device.wakeBy (i : Nat) (d : Device) : Device :=
  let en := match i with
    | 0 => d.on PIL_WAKECFG_TIMER | 1 => d.on PIL_WAKECFG_CMP | _ => d.on PIL_WAKECFG_ETH
  if !en || !(d.pw.phase == 3 || d.get DEV_PSTATE_STATE == 3) then d
  else
    let d := d.set PIL_WAKESRC_SRC (setBit (d.get PIL_WAKESRC_SRC) i true)
    if d.pw.phase == 3 then d.wakeUp else { d with pw := { d.pw with wake := setBit d.pw.wake i true } }

/-- Channel `c` has served its queue and is in self-refresh (R427, step 6). -/
def Device.ddrSleep (d : Device) (c : Nat) : Device :=
  if !d.ddrHas c then d
  else
    let d := (d.modDdr c fun x => { x with queue := [], entering := false }).set (DDR_CHSTAT_QUSED c) 0
    if d.on (DDR_CHSTAT_SR c) then d else d.srEnter c

/-- Row DOZE_ENTRY_COMPLETE (R427, steps 6 and 7): the lanes are OFF, both DDR5 channels in self-refresh, the display outputs disabled (R452). `fp` is the Pilot frequency measured, in micro-Hz. -/
def Device.dozeEntered (fp : Nat) (d : Device) : Device :=
  if d.pw.phase != 2 || d.get DEV_PSTATE_STATE != 3 || d.lanes != 0 || d.on CT_STAT_FLUSHBUSY then d
  else
    let d := (d.ddrSleep 0).ddrSleep 1
    let afes := d.afe.map fun (x : Afe) => { x.setB AFE_TPRSTAT_RUN false with ramping := false, stopping := false }
    let d := { d with afe := afes }
    let d := (d.dspOff 0).dspOff 1
    let d := d.set PIL_DOZEDT_DT d.dt
    let d := { d with pw := { d.pw with phase := 3, dozeTick := d.get PIL_TIME_TICKS, dozeUnc := d.get TB_HOLDUNC_UNC, dozeFp := fp } }
    if d.pw.wake != 0 then d.wakeUp else d

/-- Row PCMD_WAKE (R428): an authenticated WRITE of OP = 4 on port `p` in session `s`. -/
def Device.pcmdWake (p s : Nat) (d : Device) : Device :=
  if !(d.sess.getD s {}).open_ then d
  else if d.pw.phase == 3 || d.get DEV_PSTATE_STATE == 3 then
    if d.get PIL_WAKECFG_ETHPORT == p then d.wakeBy 2 else d
  else d.refusePcmd 1

/-- Row WAKE_TIMER (R428). -/
def Device.wakeTimer (d : Device) : Device :=
  if d.get PIL_WAKEAT_TICKS ≤ d.get PIL_TIME_TICKS then d.wakeBy 0 else d

/-- Row WAKE_COMPLETE (R429): Tapers running, LANE_EN set, HOLD, event 424. -/
def Device.wakeComplete (d : Device) : Device :=
  if d.pw.phase != 2 || d.get DEV_PSTATE_STATE != 4 then d
  else
    let d := (List.range 2).foldl (fun d c => d.setB (DDR_CHSTAT_SR c) false) d
    let d := (List.range 8).foldl (fun d a => d.taperEnable a true) d
    let d := if d.on DEV_CTL_LANE_EN then d else (d.setB DEV_CTL_LANE_EN true).laneEnable
    ((d.force 4 false).set DEV_PSTATE_STATE 2).raise 424

/-! ### Clusters (R434 to R437) -/

/-- Cluster `k` goes OUT (R435): event 373. -/
def Device.toOut (k : Nat) (auto : Bool) (d : Device) : Device :=
  ((d.setClState k 1).modCl k fun x => { x with auto := auto }).raise 373

/-- What a machine check and OP = 7 have in common (R258, R435): every thread of the cluster halts with `cause`, STEP_TRANSITION ends, the 64 channels are snuffed with MCK, LOADED is cleared. -/
def Device.stopCluster (k cause : Nat) (d : Device) : Device :=
  let d := (List.range 64).foldl (fun d c => if (d.thread k c).state == 0 then d else (d.haltThread k c cause).routineEnds (64 * k + c)) d
  let d := d.snuffWhere 18 fun n => n / 64 == k
  d.modCl k fun x => (x.setB MCE_CTL_LOADED false).setB MCE_STAT_LOADED false

/-- OP = 7 (R435, R437). -/
def Device.pcmdOut (k : Nat) (d : Device) : Device := (d.stopCluster k 11).toOut k false

/-- OP = 6 (R436, R437): the firmware begins to load; a READY cluster is taken OUT first. -/
def Device.pcmdReload (k : Nat) (d : Device) : Device :=
  let d := if d.clState k == 0 || d.clState k == 3 then d.pcmdOut k else d
  d.setClState k 2

/-- Row CLUSTER_LOAD_DONE (R434, R436): the reload of cluster `k` is complete; `same` if its measurement equals that of cluster 0. -/
def Device.clusterLoadDone (k : Nat) (same : Bool) (d : Device) : Device :=
  let st := d.clState k
  if !(st == 2 || (st == 1 && (d.clus k).auto)) || d.get DEV_PSTATE_STATE == 0 then d
  else if !same then
    let n := (d.clus k).failed + 1
    let d := ((d.modCl k fun x => { x with failed := n, auto := false }).setClState k 1).raise 375
    if 2 ≤ n && d.get DEV_RSTCFG_MCKLIM != 0 then d.escalate k else d
  else
    let (lvl, ws, _) := applyPatches (d.get SEC_BOOT_FWSVN) [] d.sec.flash.store 0 0 0
    let d := d.modCl k fun x =>
      { x.loaded lvl ws with
        failed := 0
        auto := false
        thr := x.thr.map fun t => t.halt 14 }
    let d := d.mapChans (fun n => n / 64 == k) fun c => c.disarmSlots.discard
    d.setClState k 3

/-- Row CLUSTER_REJOIN (R436): at an EPOCH frame instant, or on a stand-alone device at a whole millisecond of DT, a REJOIN cluster is READY. -/
def Device.clusterRejoin (k : Nat) (d : Device) : Device :=
  if d.clState k != 3 || (d.get DEV_POS_ROLE == 0 && d.dt % msLen != 0) then d
  else ((d.setClState k 0).modCl k fun x => { x with issued := 0, paceAt := d.dt }).raise 374

/-- OP = 8 (R438): Fefitil link `l` retrains; the link steers nothing until it is trusted again. -/
def Device.pcmdRetrain (l : Nat) (d : Device) : Device :=
  if 4 ≤ l then d else (d.setB (FEF_TTSTAT_LOCK l) false).fefRestart l

/-- A write of DEV_PCMD (R424, R425, R448). OP 5 to 8 need KEY = 0xA5; other values do nothing. -/
def Device.pcmd (op key arg : Nat) (d : Device) : Device :=
  match op with
  | 1 => d.pcmdHold
  | 2 => d.pcmdRun
  | 3 => d.pcmdDoze
  | 4 => d.refusePcmd 1
  | 5 => if key == 0xA5 then d.reset 3 else d
  | 6 => if key == 0xA5 && arg < 16 then d.pcmdReload arg else d
  | 7 => if key == 0xA5 && arg < 16 then d.pcmdOut arg else d
  | 8 => if key == 0xA5 then d.pcmdRetrain arg else d
  | _ => d

/-- Row WATCHDOG_RESET (R432). -/
def Device.watchdog (d : Device) : Device := if d.pw.phase == 2 then d.reset 2 else d

/-! ### Pace (R26, R27) -/

/-- Row PACE_WINDOW of cluster `k`: a whole millisecond has passed since the window began. -/
def Device.paceWindow (k : Nat) (d : Device) : Device :=
  let x := d.clus k
  if d.dt < x.paceAt + msLen || d.clState k != 0 then d
  else
    let rate := min 65535 (openDiv x.issued 100).toNat
    let d := d.modCl k fun x => { x with issued := 0, paceAt := d.dt }
    let d := (d.set (DEV_PACE_RATE k) rate).set (DEV_PACE_FLOOR k) (min rate (d.get (DEV_PACE_FLOOR k)))
    if rate < d.get DEV_PACE_CTL_LIM && d.on DEV_PACE_CTL_EVT_EN then d.seqCause k 2 else d

/-! ### The Pilot domain (R439 to R441) -/

/-- One tick of the Pilot clock. -/
def Device.pilotTick (d : Device) : Device :=
  if d.pw.pilot then d.set PIL_TIME_TICKS (d.get PIL_TIME_TICKS + 1) else d

/-- `n` fine steps of the Pilot clock, 6,250,000 of which make a tick (R430). -/
def Device.pilotRun (n : Nat) (d : Device) : Device :=
  let f := d.pw.frac + n
  if f < 6250000 then { d with pw := { d.pw with frac := f } }
  else ({ d with pw := { d.pw with frac := f - 6250000 } } : Device).pilotTick

/-- Is a tripped comparator with SAFE = 1 there (R441). -/
def Device.cmpForces (d : Device) : Bool := (List.range 8).any fun j => d.on (PIL_CMP_TRIPPED j) && d.on (PIL_CMP_SAFE j)

/-- DEV_SUPPLY shows comparators 6 and 7 (R46, R440). -/
def Device.mirrorCmp (d : Device) : Device :=
  (d.setB DEV_SUPPLY_VMAIN_UV (d.on (PIL_CMP_TRIPPED 6))).setB DEV_SUPPLY_VPILOT_LOW (d.on (PIL_CMP_TRIPPED 7))

/-- Row PILOT_CMP_TRIP (R168, R440, R441). -/
def Device.cmpTrip (j : Nat) (d : Device) : Device :=
  if 8 ≤ j || !d.pw.pilot || !d.on (PIL_CMP_EN j) || d.on (PIL_CMP_TRIPPED j) then d
  else
    let d := ((d.setB (PIL_CMP_TRIPPED j) true).setB (PIL_CMP_LATCH j) true).mirrorCmp.raise (416 + j)
    let d := if d.on (PIL_CMP_SAFE j) then d.force 2 true else d
    let d := if j == 4 && d.on DEV_SNFSRC_SMOKE_EN then (d.snuffAll 14).raise 450
      else if j == 5 && d.on DEV_SNFSRC_DOOR_EN then (d.snuffAll 15).raise 451 else d
    if d.on (PIL_CMP_WAKE j) then d.wakeBy 1 else d

/-- Row PILOT_CMP_RELEASE (R440). -/
def Device.cmpRelease (j : Nat) (d : Device) : Device :=
  if 8 ≤ j || !d.pw.pilot || !d.on (PIL_CMP_TRIPPED j) then d
  else
    let d := (d.setB (PIL_CMP_TRIPPED j) false).mirrorCmp
    if d.cmpForces then d else d.force 2 false

/-! ### Health (R431, R442 to R446) -/

/-- Row OVEN_SETTLED: 60 s within ±0.05 °C; `duty` is the heater duty (R431). -/
def Device.ovenSettled (duty : Nat) (d : Device) : Device :=
  if d.on HLT_STAT_OVENOK then d else ((d.setB HLT_STAT_OVENOK true).set HLT_OVEN_DUTY duty).raise 371
def Device.ovenLost (d : Device) : Device := d.setB HLT_STAT_OVENOK false

/-- A write of HLT_CCCMD (R443). -/
def Device.contactCmd (count ch : Nat) (rst : Bool) (d : Device) : Device :=
  let e := 3072 + ch % 1024
  let d := if rst then
      { d with wear := d.wear.filter fun x => decide (x.1 ≠ e), mem := memWrite (d.wearAt e) 0 8 d.mem }
    else d
  if count == 0 then d else d.wearBy e count

/-- Class of element `e` (R442). -/
def wearClass (e : Nat) : Nat :=
  if e < 3072 then 0 else if e < 4096 then 1 else if e < 4128 then 2 else if e < 4129 then 3
  else if e < 4130 then 4 else if e < 4131 then 5 else if e < 4155 then 6 else if e < 4163 then 7 else 8

/-- The point of a curve table at or below `x`: the walk of R207 from point `i` on. -/
def Device.curveAt (d : Device) (b x n : Nat) : Nat → Nat → Nat
  | 0, i => d.rd (b + 16 * i + 8) 4
  | k + 1, i =>
    let x0 := d.rd (b + 16 * i) 8
    let y0 := d.rd (b + 16 * i + 8) 4
    if n ≤ i + 1 || x ≤ x0 then y0
    else
      let x1 := d.rd (b + 16 * i + 16) 8
      let y1 := d.rd (b + 16 * i + 24) 4
      if x < x1 then ((y0 : Int) + truncDiv (((y1 : Int) - y0) * ((x : Int) - x0)) ((x1 : Int) - x0)).toNat
      else d.curveAt b x n k (i + 1)

/-- Life of element `e` with raw value `raw` (R445); a table that does not hold 2 to 16 points gives a free value. -/
def Device.lifeOf (e raw : Nat) (d : Device) : Nat :=
  let b := 0x3E00000 + d.get HLT_CURVEBASE_OFS + 0x100 * wearClass e
  let n := bits (d.rd (b + 12) 4) 0 5
  min 65536 (if 2 ≤ n && n ≤ 16 then d.curveAt b raw n 16 0 else Config.freeValue (d.free + e))

def dayLen : Nat := 17694720000000000

/-- Slope in life units per day over (DT, life) pairs, as numerator and denominator: least squares, none below 24 values (R446). -/
def wearSlope (ps : List (Nat × Nat)) : Option (Int × Int) :=
  if ps.length < 24 then none
  else
    let n : Int := ps.length
    let sx : Int := (ps.map fun p => (p.1 : Int)).foldl (· + ·) 0
    let sy : Int := (ps.map fun p => (p.2 : Int)).foldl (· + ·) 0
    let sxy : Int := (ps.map fun p => (p.1 * p.2 : Int)).foldl (· + ·) 0
    let sxx : Int := (ps.map fun p => (p.1 * p.1 : Int)).foldl (· + ·) 0
    some ((n * sxy - sx * sy) * dayLen, n * sxx - sx * sx)

/-- One element's evaluation: raw, life, slope, predicted days (R446). -/
structure Eval where
  e : Nat
  raw : Nat
  life : Nat
  slope : Int
  days : Option Nat
deriving DecidableEq, Repr

/-- Evaluates element `e` over the kept hourly values, the new one first. -/
def Device.evalOne (d : Device) (e life raw : Nat) (hist : List (Nat × List (Nat × Nat))) : Eval :=
  let ps := (d.dt, life) :: hist.map fun h => (h.1, wearOf e h.2)
  let s := wearSlope ps
  let days :=
    if 65536 ≤ life then some 0
    else match s with
      | some (p, q) => if 0 < p then some ((65536 - life) * q.toNat / p.toNat) else none
      | none => none
  ⟨e, raw, life, match s with | some (p, q) => openDivS (256 * p) q | none => 0, days⟩

/-- Writes a record (R442). -/
def Device.putEval (x : Eval) (d : Device) : Device :=
  let a := d.wearAt x.e
  let eol := match x.days with | some n => (d.dt + n * dayLen) % 2 ^ 64 | none => 0
  let m := memWrite (a + 8) x.life 4 (memWrite a x.raw 8 d.mem)
  let m := memWrite (a + 16) (match x.days with | some n => min n (2 ^ 32 - 2) | none => 2 ^ 32 - 1) 4 (memWrite (a + 12) (uns 32 x.slope) 4 m)
  { d with mem := memWrite (a + 24) eol 8 (memWrite (a + 20) 0 4 m) }

/-- The warnings of one element (R446): 368 on crossing HLT_WARN, 369 on reaching 65,536, 370 once while the prediction stays at or below HORIZON. -/
def Device.warnEval (x : Eval) (before : Nat) (d : Device) : Device :=
  let w := d.get HLT_WARN_LIFE
  let d := if before < w && w ≤ x.life then (d.setB HLT_STAT_WARN true).raise 368 else d
  let d := if before < 65536 && 65536 ≤ x.life then (d.setB HLT_STAT_END true).raise 369 else d
  let near := match x.days with | some n => n ≤ d.get HLT_CTL_HORIZON | none => false
  let had := d.health.soon.contains x.e
  if near && !had then
    (({ d with health := { d.health with soon := x.e :: d.health.soon } } : Device).setB HLT_STAT_SOON true).raise 370
  else if !near && had then
    { d with health := { d.health with soon := d.health.soon.filter fun e => decide (e ≠ x.e) } }
  else d

/-- The element with the highest life, and the one with the fewest predicted days; the lower index wins a tie. -/
def worstEval : List Eval → Option Eval
  | [] => none
  | x :: t => match worstEval t with | some y => if x.life < y.life then some y else some x | none => some x
def soonestEval : List Eval → Option Eval
  | [] => none
  | x :: t => match soonestEval t with
    | some y => (match x.days, y.days with
      | some a, some b => if b < a then some y else some x
      | none, some _ => some y
      | _, none => some x)
    | none => some x

/-- Row HEALTH_EVAL (R446): an hour has passed; `raws` are the raw values of classes 2 to 8 by element. -/
def Device.healthEval (raws : List (Nat × Nat)) (d : Device) : Device :=
  if !d.on HLT_CTL_EN || d.dt < d.health.at_ + 3600 * 204800000000 then d
  else
    let span := max 1 (min 365 (d.get HLT_CTL_WINDAYS)) * dayLen
    let hist := d.health.hist.filter fun h => d.dt < h.1 + span
    let es := (List.range 4675).map fun e =>
      let raw := if e < 4096 then wearOf e d.wear else wearOf e raws
      d.evalOne e (d.lifeOf e raw) raw hist
    let before := match d.health.hist with | h :: _ => h.2 | [] => []
    let d := es.foldl (fun d x => (d.putEval x).warnEval x (wearOf x.e before)) d
    let now := (es.filter fun x => x.life != 0).map fun x => (x.e, x.life)
    let d := match worstEval es with
      | some x => (d.set HLT_WORST_INDEX x.e).set HLT_WORST_LIFE (min 65535 x.life)
      | none => d
    let d := match soonestEval es with
      | some x => match x.days with
        | some n => ((d.set HLT_SOONEST_INDEX x.e).set HLT_SOONEST_DAYS (min 65535 n)).set HLT_EOLDT_DT (d.dt + n * dayLen)
        | none => ((d.set HLT_SOONEST_INDEX 0).set HLT_SOONEST_DAYS 65535).set HLT_EOLDT_DT 0
      | none => d
    { d with
      free := d.free + 4675
      health := { d.health with hist := ((d.dt, now) :: d.health.hist).take 8760, at_ := d.dt } }

end Sys2Proof.Machine
end

