-- ==== Sys2Proof/Machine/Sec.lean ====
section
/-! DEFINITION. The security engine: firmware slots, patch store, attestation, certificates and session set-up (R405 to R420). -/

namespace Sys2Proof.Machine

def Device.modSec (f : Sec → Sec) (d : Device) : Device := { d with sec := f d.sec }
def Device.modFlash (f : Flash → Flash) (d : Device) : Device := d.modSec fun s => { s with flash := f s.flash }

/-- A command of SEC_CMD ends with a result: DONE, not BUSY (R422). -/
def Device.secEnd (res : Nat) (d : Device) : Device :=
  (((d.set SEC_STAT_RESULT res).setB SEC_STAT_DONE true).setB SEC_STAT_BUSY false).modSec fun s => { s with op := 0, image := none, patch := none }

/-- A command of SEC_CMD is in progress. -/
def Device.secBusy (op : Nat) (d : Device) : Device :=
  (d.setB SEC_STAT_BUSY true).modSec fun s => { s with op := op }

def Device.stageAddr (d : Device) : Nat := d.get SEC_STAGE_ADDR
/-- Length of an SLH-DSA-SHAKE-256s signature (R405). -/
def sig256s : Nat := 29792
/-- Length of an SLH-DSA-SHAKE-256f signature (R411). -/
def sig256f : Nat := 49856

/-- A list cut or filled with zeros to `n` bytes. -/
def exactly (n : Nat) (bs : List Nat) : List Nat := (bs ++ List.replicate (n - bs.length) 0).take n

/-- The staged image as R406 checks it: result code and the slot it makes. -/
def Device.checkImage (d : Device) : Nat × Slot :=
  let a := d.stageAddr
  let len := d.rd (a + 8) 4
  let svn := d.rd (a + 5) 1
  let image := d.bytesAt (a + 256) len
  let whole := d.bytesAt a (256 + len)
  if d.rd a 4 != 0x4656514C || d.rd (a + 4) 1 != 1 || d.rd (a + 6) 1 != 0x10 then (3, {})
  else if svn < d.sec.fused then (4, {})
  else if d.get SEC_STAGELEN_LEN != 256 + len + sig256s || d.bytesAt (a + 32) 32 != shake256 image ||
      !Config.firmwareSig whole (d.bytesAt (a + 256 + len) sig256s) then (2, {})
  else (0, { ok := true, svn := svn })

/-- OP = 1 PROGRAM (R406, R407): the slot that is not running is erased, so it is not acceptable until the header is written. -/
def Device.secProgram (d : Device) : Device :=
  match d.checkImage with
  | (0, s) =>
    let other := 1 - d.get SEC_BOOT_SLOT
    ((d.secBusy 1).modSec fun x => { x with image := some s }).modFlash fun f => { f with slots := f.slots.set other { ok := false } }
  | (r, _) => d.secEnd r

/-- OP = 2 STORE (R408, R409): signature and REV are checked; a full store takes a container only in place of one with a lower LEVEL. -/
def Device.secStore (d : Device) : Device :=
  let a := d.stageAddr
  let recs := d.rd (a + 12) 4
  let lvl := d.rd (a + 8) 2
  let n := 64 + 24 * recs
  let p : Patch := ⟨lvl, d.rd (a + 10) 1, d.rd (a + 5) 1 == 0x10 && d.rd (a + 6) 2 == 0x1024, recs⟩
  if !Config.firmwareSig (d.bytesAt a n) (d.bytesAt (a + n) sig256s) then d.secEnd 2
  else if d.rd (a + 5) 1 != 0x10 then d.secEnd 3
  else if 16 ≤ d.sec.flash.store.length && !(d.sec.flash.store.any fun x => x.level < lvl) then d.secEnd 6
  else (d.secBusy 2).modSec fun x => { x with patch := some p }

/-- OP = 3 CONFIRM (R407). -/
def Device.secConfirm (d : Device) : Device :=
  if !d.on SEC_BOOT_TRIAL then d.secEnd 7
  else
    let svn := d.get SEC_BOOT_FWSVN
    let d := (d.modFlash fun f => { f with active := d.get SEC_BOOT_SLOT }).setB SEC_BOOT_TRIAL false
    let d := if d.sec.fused < svn then
        ((d.modSec fun s => { s with fused := min 64 svn }).set SEC_BOOT_FUSESVN (min 64 svn)).raise 323
      else d
    d.secEnd 0

/-- OP = 4 ATTEST (R411, R419). -/
def Device.secAttest (d : Device) : Device := if d.on SEC_STAT_IDERR then d.secEnd 9 else d.secBusy 4

/-- OP = 5 CALCERT (R418, R419): the coefficients go to the calibration store. -/
def Device.secCalcert (d : Device) : Device :=
  if d.on SEC_STAT_IDERR then d.secEnd 9
  else if d.afe.all fun x => x.traced.isEmpty then d.secEnd 8
  else
    let tap := fun off => 0x20 ≤ off && off < 0x5C
    let coef := fun off => off == CH_VOFS_OFS.off || off == CH_VGAIN_GAIN.off || off == CH_VDLY_DLY.off ||
      off == CH_IOFSH_OFS.off || off == CH_IGAINH_GAIN.off || off == CH_IOFSL_OFS.off || off == CH_IGAINL_GAIN.off || off == CH_IDLY_DLY.off
    (d.secBusy 5).modFlash fun f =>
      { f with
        calAfe := d.afe.val.map fun x => x.regs.filter fun e => tap (e.1 / 64)
        calCh := d.ch.val.map fun c => c.regs.filter fun e => coef (e.1 / 64) }

/-- OP = 6 SAVEKEYS (R414), only over a session. -/
def Device.secSaveKeys (d : Device) : Device :=
  let ks := (List.range 32).map fun i => d.get (SEC_HOSTFP_FP (i / 8) (i % 8))
  ((d.modFlash fun f => { f with keys := ks }).setB SEC_STAT_PROV (ks.all fun k => k == 0)).secEnd 0 |>.raise 328

/-- A write of SEC_CMD (R419, R422): while BUSY it is refused. `inSession` says that the writer is a session. -/
def Device.secCmd (op : Nat) (inSession : Bool) (d : Device) : Device :=
  if op == 0 || 6 < op then d
  else if d.on SEC_STAT_BUSY then d.set SEC_STAT_RESULT 1
  else match op with
    | 1 => d.secProgram
    | 2 => d.secStore
    | 3 => d.secConfirm
    | 4 => d.secAttest
    | 5 => d.secCalcert
    | _ => if inSession then d.secSaveKeys else d

/-- The oldest container with the lowest LEVEL goes when a 17th arrives (R409). -/
def storePatch (p : Patch) (xs : List Patch) : List Patch := putPatch p (if 16 ≤ xs.length then xs.drop 1 else xs)

/-- Row FLASH_OP_DONE (R407, R409, R421): PROGRAM or STORE ends. -/
def Device.flashDone (ok : Bool) (d : Device) : Device :=
  if d.sec.op != 1 && d.sec.op != 2 then d
  else if !ok then (d.secEnd 5).raise 325
  else
    let other := 1 - d.get SEC_BOOT_SLOT
    let d := match d.sec.image with
      | some s => d.modFlash fun f => { f with slots := f.slots.set other s, trial := some other }
      | none => d
    let d := match d.sec.patch with
      | some p => d.modFlash fun f => { f with store := storePatch p f.store }
      | none => d
    (d.secEnd 0).raise 324

/-- Stores bytes from `a` on as the Lamplighter, `k` aligned pieces of 64 B. A refused piece is not written; one that has to wait is written within the command. -/
def Device.lampStore : Nat → List Nat → Nat → Device → Device
  | 0, _, _, d => d
  | k + 1, bs, a, d =>
    let d := match d.gate 35 1 a 64 false with
      | (d, 1) => d
      | (d, _) => d.store ((targetOf a).getD 31) a 64 (ofBytes ((bs.take 64).map fun b => b % 256))
    d.lampStore k (bs.drop 64) (a + 64)

/-- The attestation report without its signature (R411). The digests and the applied patches (digest, LEVEL) are what the firmware measured. -/
def Device.report (rom slot mc cal : List Nat) (mismatch : Bool) (patches : List (List Nat × Nat)) (d : Device) : List Nat :=
  let flags := b2n (d.on SEC_BOOT_TRIAL) + 2 * b2n (d.on SEC_BOOT_FALLBACK) + 4 * b2n (d.on SEC_STAT_PROV) + 8 * b2n mismatch
  let nonce := (List.range 8).flatMap fun w => toBytes 4 (d.get (SEC_ATTNONCE_NONCE w))
  let loaded := maskOf 16 fun k => (d.clus k).on MCE_CTL_LOADED
  toBytes 4 1 ++ toBytes 4 0x1010244C ++ identityBytes ++ nonce ++ toBytes 8 d.dt ++ toBytes 8 (d.get TB_WALL_NS) ++
    [d.sec.fused, d.get SEC_BOOT_FWSVN, d.get SEC_BOOT_SLOT, flags] ++
    toBytes 2 ((d.clus 0).get MCE_PATCH_LEVEL) ++ [patches.length % 256, 0] ++
    exactly 32 rom ++ exactly 32 slot ++ exactly 32 mc ++ exactly 32 cal ++ toBytes 2 loaded ++ List.replicate 30 0 ++
    exactly 640 (patches.flatMap fun p => exactly 32 p.1 ++ toBytes 2 p.2 ++ List.replicate 6 0)

/-- Row ATTEST_DONE (R411, R421). -/
def Device.attestDone (rom slot mc cal : List Nat) (mismatch : Bool) (patches : List (List Nat × Nat)) (sig : List Nat) (d : Device) : Device :=
  if d.sec.op != 4 then d
  else
    let body := d.report rom slot mc cal mismatch patches ++ exactly sig256f sig
    let d := d.lampStore 793 body (d.get SEC_ATTADDR_ADDR / 64 * 64)
    (((d.set SEC_ATTLEN_LEN 50752).setB SEC_STAT_ATTDONE true).secEnd 0).raise 326

/-- The body of a calibration certificate (R418). -/
def Device.certBody (d : Device) : List Nat :=
  let pts := (List.range 8).flatMap fun a => (d.chip a).traced.map fun c => (a, c)
  let calid := (List.range 16).flatMap fun w => toBytes 4 (d.get (SEC_CALID_ID w))
  toBytes 4 1 ++ toBytes 4 pts.length ++ toBytes 8 d.dt ++ toBytes 8 (d.get TB_WALL_NS) ++ List.replicate 8 0 ++ identityBytes ++ calid ++
    toBytes 4 0x1010244C ++ List.replicate 60 0 ++
    pts.flatMap fun p =>
      [p.1, p.2.point, 0, 0] ++ toBytes 4 (uns 32 p.2.calx) ++ toBytes 4 (uns 32 p.2.delta) ++ toBytes 4 (uns 32 p.2.value) ++
        toBytes 4 (uns 32 p.2.prior) ++ List.replicate 12 0

/-- Row CALCERT_DONE (R415, R418): queued as KIND 1 once the record queue has room. -/
def Device.calcertDone (sig : List Nat) (d : Device) : Device :=
  if d.sec.op != 5 || 256 ≤ d.records.length then d
  else
    let d := d.putRecord 1 (d.lcn 0) 0 d.dt (d.certBody ++ exactly sig256f sig)
    let afes := d.afe.map fun (x : Afe) => { x with traced := [] }
    (({ d with afe := afes } : Device).secEnd 0).raise 329

/-! ### Session set-up (R412, R413) -/

def bufRead (off n : Nat) (d : Device) : List Nat := toBytes n (memRead d.sec.buf off n)
def Device.bufWrite (off : Nat) (bs : List Nat) (d : Device) : Device :=
  d.modSec fun s => { s with buf := memWrite off (ofBytes bs) bs.length s.buf }

/-- A refused step (R413): CODE, event 327, the buffer is cleared and the set-up over. -/
def Device.swRefuse (code : Nat) (d : Device) : Device :=
  (((d.set SEC_SWSTAT_CODE code).setB SEC_SWSTAT_BUSY false).setB SEC_SWSTAT_READY false).modSec (fun s => { s with buf := [], setup := none }) |>.raise 327

/-- Refused during another set-up: the buffer is cleared, as by every refusal, and that set-up goes on (R413). -/
def Device.swBusy (d : Device) : Device := ((d.set SEC_SWSTAT_CODE 1).modSec fun s => { s with buf := [] }).raise 327

/-- Is a set-up in progress that is less than 1 s idle. -/
def Device.swActive (d : Device) : Bool :=
  match d.sec.setup with | some (t, _) => d.dt < t + 204800000000 | none => false

/-- BEGIN (R412, R413, R419). -/
def Device.swBegin (d : Device) : Device :=
  if d.swActive then d.swBusy
  else if d.on SEC_STAT_IDERR then ((d.set SEC_STAT_RESULT 9).modSec fun s => { s with buf := [] }).raise 327
  else (((d.set SEC_SWSTAT_CODE 0).setB SEC_SWSTAT_BUSY true).setB SEC_SWSTAT_READY false).modSec fun s => { s with setup := some (d.dt, false) }

/-- Row SW_BEGIN_READY (R412): the device has written Nd, ek and its signature. -/
def Device.swBeginReady (nd ek sig : List Nat) (d : Device) : Device :=
  match d.sec.setup with
  | some (_, false) =>
    let d := ((d.bufWrite 0x60 (exactly 32 nd)).bufWrite 0x80 (exactly 1184 ek)).bufWrite 0x520 (exactly sig256f sig)
    (((d.setB SEC_SWSTAT_BUSY false).setB SEC_SWSTAT_READY true).modSec fun s => { s with setup := some (d.dt, true) })
  | _ => d

/-- A SESSION value that is not 0 and names no open session (R412): the free value `n`, or the next one that is free. -/
def freshSid (ids : List Nat) : Nat → Nat → Nat
  | 0, n => n
  | k + 1, n => if n == 0 || ids.contains n then freshSid ids k ((n + 1) % 2 ^ 32) else n

/-- Shows session slot `i` in its register, and the number of open sessions (R400). -/
def Device.showSess (i : Nat) (d : Device) : Device :=
  let s := d.sess.getD i {}
  let d := ((d.set (LAP_SESS_ID i) (s.id % 65536)).set (LAP_SESS_PORT i) s.port).setB (LAP_SESS_OPEN i) s.open_
  d.set LAP_STAT_SESSIONS (d.sess.filter fun s => s.open_).length

/-- Opens a session in the first free slot (R412): event 346. -/
def Device.openSession (d : Device) : Device :=
  match (List.range 4).find? fun i => !(d.sess.getD i {}).open_ with
  | none => d
  | some i =>
    let sid := freshSid ((d.sess.filter fun s => s.open_).map (·.id)) 6 (d.freeVal % 2 ^ 32)
    let d := { d.useFree with sess := d.sess.set i { open_ := true, id := sid, last := d.dt } }
    ((d.showSess i).set SEC_SWSESS_SESSION sid).raise 346

/-- FINISH (R390, R412 to R414). -/
def Device.swFinish (d : Device) : Device :=
  if d.get SEC_BOOT_STATE != 7 then d
  else match d.sec.setup with
  | some (_, true) =>
    let key := bufRead 0x20 64 d
    let t1 := [0x4C, 0x51, 0x56, 0x2D, 0x4C, 0x41, 0x50, 0x2D, 0x31] ++ bufRead 0 32 d ++ key ++ bufRead 0x60 32 d ++ bufRead 0x80 1184 d
    let ct := bufRead 0xC800 1088 d
    let fp := shake256 key
    let known := (List.range 4).any fun k => ((List.range 8).flatMap fun w => toBytes 4 (d.get (SEC_HOSTFP_FP k w))) == fp
    let prov := d.on SEC_STAT_PROV
    if 4 ≤ (d.sess.filter fun s => s.open_).length then d.swRefuse 2
    else if !Config.decapsOk (bufRead 0x80 1184 d) ct then d.swRefuse 5
    else if !prov && !known then d.swRefuse 3
    else if !prov && !Config.hostSig key (t1 ++ ct) (bufRead 0xCC40 sig256f d) then d.swRefuse 4
    else ((d.set SEC_SWSTAT_CODE 0).modSec fun s => { s with setup := none }).openSession
  | _ => d.swRefuse 6

/-- CERT (R412, R413). -/
def Device.swCert (d : Device) : Device :=
  if d.swActive then d.swBusy
  else ((d.bufWrite 0 Config.certificate).set SEC_SWLEN_LEN Config.certificate.length).set SEC_SWSTAT_CODE 0

/-- ABORT (R412). -/
def Device.swAbort (d : Device) : Device :=
  ((d.setB SEC_SWSTAT_BUSY false).setB SEC_SWSTAT_READY false).modSec fun s => { s with setup := none }

/-- A write of SEC_SWCMD (R412, R422). -/
def Device.swCmd (op : Nat) (d : Device) : Device :=
  match op with | 1 => d.swBegin | 2 => d.swFinish | 3 => d.swCert | 4 => d.swAbort | _ => d

/-- Row SW_SETUP_IDLE (R413): idle for 1 s. -/
def Device.swIdle (d : Device) : Device := if d.sec.setup.isSome && !d.swActive then d.swAbort else d

/-- Row RECOVERY_PROGRAM (R420): the image staged over JTAG is checked and programmed into slot A, and the device resets. -/
def Device.recoveryProgram (d : Device) : Device :=
  if d.get SEC_BOOT_STATE != 0xF then d
  else match d.checkImage with
    | (0, s) => (d.modFlash fun f => { f with slots := f.slots.set 0 s }).reset 5
    | (r, _) => d.set SEC_STAT_RESULT r

end Sys2Proof.Machine
end

