-- ==== Sys2Proof/Machine/Session.lean ====
section
/-! DEFINITION. The end of a LAP session (R388, R390, R392). -/

namespace Sys2Proof.Machine

/-- The mark of a record that lies in an unacknowledged RECORD message: its session slot and the SEQ of the message. -/
def sentMark (i seq : Nat) : Nat := 4 * seq + i % 4

/-- The same change to every record queue, the device's and the clusters'. -/
def Device.mapRecords (f : List Record → List Record) (d : Device) : Device :=
  { d with
    records := f d.records
    cl := d.cl.map fun (x : Cluster) => { x with records := f x.records } }

/-- The records in messages of slot `i` that were never acknowledged return to their place in the queue (R392). -/
def Device.recordsBack (i : Nat) (d : Device) : Device :=
  d.mapRecords fun rs => rs.map fun r =>
    { r with sent := match r.sent with | some s => if s % 4 == i then none else some s | none => none }

/-- The counts of EVENT entries are added back to their sources (R388): `bs` is the message's payload after the DT of building. -/
def Device.countsBack : Nat → List Nat → Device → Device
  | 0, _, d => d
  | n + 1, bs, d =>
    if bs.length < 16 then d
    else
      let s := ofBytes (bs.take 2) % 512
      let k := ofBytes ((bs.drop 2).take 2)
      let t := ofBytes ((bs.drop 8).take 8)
      let c := d.evtCell s
      let cell : EvtCell := ⟨s, min 65535 (c.count + k), t, if c.count = 0 then some d.dt else c.due⟩
      Device.countsBack n (bs.drop 16) { d with evt := putCell cell d.evt }

/-- Session `i` ends (R388, R390, R392, R393): event 347. -/
def Device.endSession (i : Nat) (d : Device) : Device :=
  let s := d.sess.getD i {}
  if !s.open_ then d
  else
    let d := (s.unacked.filter fun m => m.kind == 6).foldl (fun d m => Device.countsBack m.body.length (m.body.drop 8) d) d
    let d := d.recordsBack i
    (({ d with sess := d.sess.set i {} } : Device).showSess i).raise 347

end Sys2Proof.Machine
end

