-- ==== Sys2Proof/Machine/RegViews.lean ====
section
/-! DEFINITION. Where an address of register space lies (R465, R469 to R471), and the fields whose value the device computes when they are read. -/

namespace Sys2Proof.Machine

/-- A part of the register map with a register file of its own: device blocks, chiplet, cluster block, thread, capture, interval unit, group, channel, and the shadow and active set of a channel. -/
inductive RUnit where
  | dev | afe (a : Nat) | cl (k : Nat) | thr (k c : Nat) | cap (n : Nat) | sti (k u : Nat) | grp (g : Nat)
  | ch (n : Nat) | sh (n : Nat) | ac (n : Nat)
deriving DecidableEq, Repr

/-- The part at offset `o` of cluster block `k`, and the offset in it (R470, R471). -/
def clusterLoc (k o : Nat) : RUnit × Nat :=
  if 0x1000 ≤ o && o < 0x5000 then (.thr k ((o - 0x1000) / 0x100), (o - 0x1000) % 0x100)
  else if 0x21000 ≤ o && o < 0x22000 then (.cap (64 * k + (o - 0x21000) / 0x40), (o - 0x21000) % 0x40)
  else if 0x30000 ≤ o && o < 0x30400 then (.sti k ((o - 0x30000) / 0x80), (o - 0x30000) % 0x80)
  else if 0x40000 ≤ o && o < 0x48000 then (.grp (8 * k + (o - 0x40000) / 0x1000), (o - 0x40000) % 0x1000)
  else if 0x80000 ≤ o && o < 0xA0000 then
    let n := 64 * k + (o - 0x80000) / 0x800
    let c := (o - 0x80000) % 0x800
    if 0x200 ≤ c && c < 0x274 then (.sh n, c - 0x200)
    else if 0x280 ≤ c && c < 0x2F4 then (.ac n, c - 0x280)
    else (.ch n, c)
  else (.cl k, o)

/-- The part and offset of a register address; none outside the assigned blocks (R465, R466). -/
def regLoc (x : Nat) : Option (RUnit × Nat) :=
  if 0x40000000 ≤ x && x < 0x400F0000 then some (.dev, x - 0x40000000)
  else if 0x41000000 ≤ x && x < 0x41080000 then some (.afe ((x - 0x41000000) / 0x10000), (x - 0x41000000) % 0x10000)
  else if 0x42000000 ≤ x && x < 0x43000000 then
    some (clusterLoc ((x - 0x42000000) / 0x100000) ((x - 0x42000000) % 0x100000))
  else none

/-- The registers of a part. -/
def RUnit.regs : RUnit → List Reg
  | .dev => devRegs | .afe _ => afeRegs | .cl _ => clRegs | .thr _ _ => thrRegs | .cap _ => capRegs | .sti _ _ => stiRegs
  | .grp _ => grpRegs | .ch _ => chRegs | .sh _ => setRegs | .ac _ => setRegs

/-- The cluster whose SEQ, MCE or channel block the part is in: what a cluster out of service closes (R435). -/
def RUnit.serviceOf (u : RUnit) (off : Nat) : Option Nat :=
  match u with
  | .thr k _ => some k
  | .ch n => some (n / 64) | .sh n => some (n / 64) | .ac n => some (n / 64)
  | .cl k => if off < 0x20000 then some k else none
  | _ => none

/-- The register file of a part, and a change of it. -/
def Device.file (u : RUnit) (d : Device) : Regs :=
  match u with
  | .dev => d.regs | .afe a => (d.chip a).regs | .cl k => (d.clus k).regs | .thr k c => (d.thread k c).regs
  | .cap n => (d.capt n).regs | .sti k i => (d.sti k i).regs | .grp g => (d.group g).regs
  | .ch n => (d.chan n).regs | .sh n => (d.chan n).sh.regs | .ac n => (d.chan n).ac.regs
def Device.modFile (u : RUnit) (f : Regs → Regs) (d : Device) : Device :=
  match u with
  | .dev => { d with regs := f d.regs }
  | .afe a => d.modAfe a fun x => { x with regs := f x.regs }
  | .cl k => d.modCl k fun x => { x with regs := f x.regs }
  | .thr k c => d.modThr k c fun x => { x with regs := f x.regs }
  | .cap n => d.modCap n fun x => { x with regs := f x.regs }
  | .sti k i => d.modSti k i fun x => { x with regs := f x.regs }
  | .grp g => d.modGrp g fun x => { x with regs := f x.regs }
  | .ch n => d.modChan n fun x => { x with regs := f x.regs }
  | .sh n => d.modChan n fun x => { x with sh := { x.sh with regs := f x.sh.regs } }
  | .ac n => d.modChan n fun x => { x with ac := { x.ac with regs := f x.ac.regs } }

/-! ### Computed fields -/

/-- STATUS of a source (R15, R385): the condition itself for a source with a lasting one, PENDING for every other. -/
def Device.srcStatus (s : Nat) (d : Device) : Bool :=
  if 160 ≤ s && s < 176 then d.clState (s - 160) != 0
  else if 416 ≤ s && s < 424 then d.on (PIL_CMP_TRIPPED (s - 416))
  else match s with
    | 176 => d.get FAIL_RWM_REC ≤ d.failOcc
    | 178 => d.get FAIL_SWM_BLK != 0 && 4096 * d.get FAIL_SWM_BLK ≤ d.spillOcc
    | 377 => d.hot
    | 427 => d.pw.failAt.isSome
    | 448 => d.ilkOpen
    | _ => d.on (EVT_SRC_PENDING s)

/-- 32 sources from source 32w on, as one word. -/
def srcWord (w : Nat) (p : Nat → Bool) : Nat := maskOf 32 fun i => !reservedSource (32 * w + i) && p (32 * w + i)

/-- Region of a region register at offset `o` of the table (R360). -/
def regionAt (o : Nat) : Nat × Nat × Nat := (o / 1408, o % 1408 / 64, o % 64 / 8)

/-- Minutes since a calibration at `t` (R105). -/
def calAge (now : Nat) : Option Nat → Nat
  | none => 0xFFFF
  | some t => min 0xFFFF ((now - t) / 12288000000000)

def Device.viewsDev (off : Nat) (d : Device) : List (Fld × Nat) :=
  if off == 0x10008 then [(TB_DT_DT, d.dt)]
  else if off == 0x308 then
    [(DEV_SNFSUM_COUNT, (d.ch.filter fun c => c.on CH_SNFSTAT_SNUFFED).length), (DEV_SNFSUM_ILK_OPEN, b2n d.ilkOpen),
     (DEV_SNFSUM_SMOKE, b2n (d.on (PIL_CMP_TRIPPED 4))), (DEV_SNFSUM_DOOR, b2n (d.on (PIL_CMP_TRIPPED 5)))]
  else if 0x40100 ≤ off && off < 0x40140 then
    let w := (off - 0x40100) / 4
    [(EVT_PEND_PEND w, srcWord w fun s => d.on (EVT_SRC_PENDING s))]
  else if 0x40140 ≤ off && off < 0x40180 then
    let w := (off - 0x40140) / 4
    [(EVT_STAT_STAT w, srcWord w fun s => d.srcStatus s)]
  else if 0x41000 ≤ off && off < 0x41800 then
    let s := (off - 0x41000) / 4
    if reservedSource s then (EVT_SRC.fields [s]).map fun f => (f, 0)
    else [(EVT_SRC_STATUS s, b2n (d.srcStatus s))]
  else if off == 0x50030 || off == 0x50050 then
    let p := (off - 0x50030) / 0x20
    [(LAP_MAC_MAC p, Config.fuse (16 + p))]
  else if 0x60060 ≤ off && off < 0x60080 then
    let w := (off - 0x60060) / 4
    [(SEC_IDFP_FP w, Config.identity w)]
  else if off == 0x600C0 then [(SEC_RECCFG_QUEUED, d.records.length)]
  else if 0x6F000 ≤ off && off < 0x70000 then
    let w := (off - 0x6F000) / 4
    [(SEC_SWAPER_DATA w, memRead d.sec.buf (4096 * d.get SEC_SWOFS_PAGE + 4 * w) 4)]
  else if off == 0xA0054 then [(MOT_SCHCNT_USED, d.mot.sched.length)]
  else if off == 0xC002C then [(MEM_BTSTAT_RUN, b2n (d.on MEM_CTL_BT_EN || d.on MEM_BTSTAT_BORROWED))]
  else if off == 0xC0030 && !d.on MEM_BTSTAT_BORROWED then [(MEM_BTCUR_SLICE, d.btNext % 16384)]
  else if 0xC0100 ≤ off && off < 0xC0240 && off % 16 == 8 then
    let b := (off - 0xC0100) / 16
    let v := Config.fuse (32 + b)
    [(MEM_REPAIR_SPARES b, bits v 16 16), (MEM_REPAIR_FULLSUB b, bits v 8 8), (MEM_REPAIR_MAXSUB b, min 4 (bits v 0 3))]
  else if 0xC2000 ≤ off && off < 0xCF100 then
    let (m, t, i) := regionAt (off - 0xC2000)
    let g := d.regionShown m t i
    if off % 8 == 0 then
      [(MEM_RLO_EN m t i, b2n g.en), (MEM_RLO_PINNED m t i, b2n g.pinned), (MEM_RLO_TRAP m t i, b2n g.trap), (MEM_RLO_BASE m t i, g.base)]
    else
      [(MEM_RHI_R m t i, b2n g.r), (MEM_RHI_W m t i, b2n g.w), (MEM_RHI_A m t i, b2n g.a), (MEM_RHI_X m t i, b2n g.x), (MEM_RHI_LIMIT m t i, g.limit)]
  else []

def Device.viewsCl (k off m : Nat) (d : Device) : List (Fld × Nat) :=
  let x := d.clus k
  let halted := fun t : Thread => t.state == 0
  if off == 0x4 then [(SEQ_STAT_HALTED, (x.thr.filter halted).length)]
  else if off == 0x18 then [(SEQ_HALTMASK_MASK, maskOf 64 fun c => halted (d.thread k c))]
  else if off == 0x10004 then
    let n := (x.thr.filter Thread.active).length
    [(MCE_STAT_ACTIVE, n), (MCE_STAT_IDLE, b2n (n == 0 && x.thr.all halted))]
  else if off == 0x10030 then [(MCE_CSADDR_ADDR, (x.csCopy m).getD 0 0)]
  else if 0x10040 ≤ off && off < 0x10054 then
    let i := (off - 0x10040) / 4
    [(MCE_CSDATA_DATA i, (x.csCopy m).getD (i + 1) 0)]
  else if off == 0x10054 then [(MCE_CSDATA5_PAR, (x.csCopy m).getD 6 0)]
  else if 0x10400 ≤ off && off < 0x10800 then
    let op := (off - 0x10400) / 4
    let e := x.entry op
    if x.base && !x.dispSet.contains op then
      [(MCE_DISP_START op, e % 8192), (MCE_DISP_LONG op, e / 2 ^ 13 % 2), (MCE_DISP_TRAPOK op, e / 2 ^ 15 % 2), (MCE_DISP_PAR op, oddParity e)]
    else []
  else if off == 0x20018 then [(CAP_AFREE_BYTES, x.areaFree)]
  else if off == 0x31020 then [(RG_RECSTAT_QUEUED, x.records.length)]
  else []

def Device.viewsCh (n off : Nat) (d : Device) : List (Fld × Nat) :=
  let c := d.chan n
  if off == 0x158 then [(CH_CALAGE_VAGE, calAge d.dt c.ageV), (CH_CALAGE_IAGE, calAge d.dt c.ageI)]
  else if off == 0x19C then [(CH_WFSTAT_COUNT, c.fifo.length)]
  else if off == 0x380 then [(CH_QSTEP_NC, uns 64 (accWhole c.qstep))]
  else if off == 0x388 then [(CH_ESTEP_NJ, uns 64 (accWhole c.estep))]
  else if off == 0x390 then [(CH_QTOT_NC, uns 64 (accWhole c.qtot))]
  else if off == 0x398 then [(CH_ETOT_NJ, uns 64 (accWhole c.etot))]
  else if off == 0x480 then [(CH_SNFSTAT_ACTIVE, b2n (d.levels n != 0))]
  else []

/-- The computed fields of the register at offset `off` of a part, as master `m` reads them. -/
def Device.views (m : Nat) (u : RUnit) (off : Nat) (d : Device) : List (Fld × Nat) :=
  match u with
  | .dev => d.viewsDev off
  | .cl k => d.viewsCl k off m
  | .ch n => d.viewsCh n off
  | .cap n => if off == 0x20 then [(CAP_PREFILL_SAMPLES, (d.capt n).prefill)] else []
  | .grp g =>
    if off == 0x8 then
      [(GRP_DLSTAT_SETUPPEND, maskOf 8 fun i =>
        match (d.chan (8 * g + i)).ps with | some p => p.resume.isNone && !p.timedOut | none => false)]
    else []
  | _ => []

/-- The fields at word offset `off` of a part, the word that `off` is, and the offset of their register. -/
def fieldsOf (u : RUnit) (off : Nat) : List Fld × Nat × Nat :=
  match fieldsAt u.regs off with
  | (fs, h) => (fs, h, off - 4 * h)

/-- The 64-bit content of the register at `off` of a part as master `m` would read it live. -/
def Device.live (m : Nat) (u : RUnit) (off : Nat) (d : Device) : Nat :=
  let (fs, _, base) := fieldsOf u off
  pairOf ((d.views m u base).foldl (fun r e => r.set e.1 e.2) (d.file u)) fs

end Sys2Proof.Machine
end

