-- ==== Sys2Proof/Machine/RegWrite.lean ====
section
/-! DEFINITION. Register writes: R2 pairs, the access codes, the conditions under which a register accepts a write, and what a write sets in motion (R2 to R5, R467, R472 and the rule of each register). -/

namespace Sys2Proof.Machine

/-! ### The words in force -/

/-- Is the register a 64-bit pair with a field that software sets: its low word is held (R2). -/
def heldPair (fs : List Fld) : Bool :=
  (fs.any fun f => 32 < f.lo + f.width) && fs.any fun f => f.acc == .rw || f.acc == .rwl || f.acc == .wo

/-- Per-master words: (master, address, word). -/
def findWord (m a : Nat) (xs : List (Nat × Nat × Nat)) : Option Nat := (xs.find? fun e => e.1 == m && e.2.1 == a).map (·.2.2)
def dropWord (m a : Nat) (xs : List (Nat × Nat × Nat)) : List (Nat × Nat × Nat) := xs.filter fun e => !(e.1 == m && e.2.1 == a)
def putWord (m a v : Nat) (xs : List (Nat × Nat × Nat)) : List (Nat × Nat × Nat) := dropWord m a xs ++ [(m, a, v)]

/-- A register write on its way: master, offset of the register, its fields, and the words written, each with its number (0 low, 1 high). -/
structure RWrite where
  m : Nat
  off : Nat
  fs : List Fld
  ws : List (Nat × Nat)

/-- The words written, as one value; a word that is not written counts 0. -/
def RWrite.val (w : RWrite) : Nat := w.ws.foldl (fun a e => a + e.2 % 2 ^ 32 * 2 ^ (32 * e.1)) 0

/-- The writer is the Lamplighter. -/
def RWrite.lamp (w : RWrite) : Bool := w.m == 35

/-- The fields take what their access codes give (R4, R5). -/
def Device.plain (u : RUnit) (w : RWrite) (d : Device) : Device :=
  let locked := d.on DEV_CTL_LOCK
  d.modFile u fun r => w.ws.foldl (fun r e => writeWord r w.fs locked w.lamp e.1 e.2) r

/-- A W1S command field is requested: it reads 1 from now on (R472). -/
def asks (r : Regs) (f : Fld) (v : Nat) : Bool := bit v f.lo && !r.on f

/-! ### Device blocks -/

/-- A write of DEV_CTL (R5, R165, R166). -/
def Device.writeDevCtl (w : RWrite) (d : Device) : Device :=
  let was := d.on DEV_CTL_LANE_EN
  let d := d.plain .dev w
  if !was && d.on DEV_CTL_LANE_EN then d.laneEnable
  else if was && !d.on DEV_CTL_LANE_EN then d.laneDisable
  else d

/-- A write of a region register (R347, R360): the words before it count for 1 µs more. Fixed regions keep theirs (R345), and X stays 0 for masters that are no sequencer (R360). -/
def Device.writeRegion (w : RWrite) (d : Device) : Device :=
  let (m, t, i) := regionAt (w.off - 0xC2000)
  if (d.fixedRegion m t i).isSome then d
  else
    let g := d.regionShown m t i
    let d' := d.plain .dev w
    let d' := if 16 ≤ m then d'.setB (MEM_RHI_X m t i) false else d'
    let old := d.regWait.filter fun e => d.dt < e.2.1
    { d' with regWait := old ++ [(regionKey m t i, d.dt + usLen, g.lo, g.hi)] }

/-- Safe-off follows the comparators with SAFE = 1 (R441). -/
def Device.cmpWritten (d : Device) : Device :=
  if d.cmpForces == bit (d.get PIL_SAFECTL_FORCE) 2 then d else d.force 2 d.cmpForces

/-- A write of MOT_CMD (R330, R331). -/
def Device.writeMotCmd (v : Nat) (d : Device) : Device :=
  let d := if bit v 0 then d.motCoast else d
  let d := if bit v 1 then d.motResume else d
  if bit v 2 then d.motSchclr else d

/-- A write of CT_CTL (R321). -/
def Device.writeCtCtl (w : RWrite) (d : Device) : Device :=
  let was := d.on CT_CTL_EN
  let d := d.plain .dev w
  if !was && d.on CT_CTL_EN then d.ctEnable else d

/-- A write of CT_CMD (R321, R322). -/
def Device.writeCtCmd (v : Nat) (d : Device) : Device :=
  let d := if bit v 1 then d.closeBatch else d
  if bit v 0 && d.on CT_CTL_EN then d.setB CT_STAT_FLUSHBUSY true else d

/-- The set-up window has been used (R413). -/
def Device.touchSetup (d : Device) : Device :=
  d.modSec fun s => { s with setup := s.setup.map fun e => (d.dt, e.2) }

/-- A write of a PEND word clears PENDING of the sources written 1 (R385, R399). -/
def Device.clearPend (w v : Nat) (d : Device) : Device :=
  (List.range 32).foldl (fun d i => if bit v i then d.setB (EVT_SRC_PENDING (32 * w + i)) false else d) d

/-- A write in the DEV, TB, BCN, FEF, EVT and LAP blocks. -/
def Device.writeLow (w : RWrite) (d : Device) : Device :=
  let v := w.val
  let off := w.off
  if off == 0x4 then d.writeDevCtl w
  else if off == 0xC then d.pcmd (bits v 0 4) (bits v 24 8) (bits v 8 8)
  else if off == 0x304 then (if asks d.regs DEV_SNFCMD_ALL v then (d.snuffAll 20).setB DEV_SNFCMD_ALL true else d)
  else if off == 0x10010 then (d.plain .dev w).dtSet
  else if off == 0x20000 then
    let d' := d.plain .dev w
    if d.on DEV_CTL_LOCK then d' else { d' with roleDirty := true }
  else if off == 0x2000C then
    let d := if bit v 0 then d.bcnCmd 0 else d
    let d := if bit v 1 then d.bcnCmd 1 else d
    if bit v 2 then d.bcnCmd 2 else d
  else if off == 0x20020 then d.bcnSend (bits v 16 1) (bits v 0 8)
  else if off == 0x40008 then (if w.ws.any fun e => e.1 == 1 then d.ring (bits v 32 5) (bits v 0 32) else d)
  else if 0x40100 ≤ off && off < 0x40140 then d.clearPend ((off - 0x40100) / 4) v
  else if 0x41000 ≤ off && off < 0x41800 && reservedSource ((off - 0x41000) / 4) then d
  else if 0x50100 ≤ off && off < 0x50140 then (if bit v 3 then d.endSession ((off - 0x50100) / 16) else d)
  else d.plain .dev w

/-- A write in the SEC, HLT, PIL and DSP blocks. -/
def Device.writeMid (w : RWrite) (d : Device) : Device :=
  let v := w.val
  let off := w.off
  if off == 0x60004 then d.secCmd (bits v 0 8) (w.m == 36)
  else if 0x60100 ≤ off && off < 0x60180 then (if w.m == 36 then d.plain .dev w else d)
  else if off == 0x60200 then d.swCmd (bits v 0 3)
  else if off == 0x60208 then (d.plain .dev w).touchSetup
  else if 0x6F000 ≤ off && off < 0x70000 then
    (d.bufWrite (4096 * d.get SEC_SWOFS_PAGE + (off - 0x6F000)) (toBytes 4 v)).touchSetup
  else if off == 0x70028 then d.contactCmd (bits v 16 16) (bits v 0 10) (bit v 15)
  else if 0x80020 ≤ off && off < 0x80040 then (d.plain .dev w).cmpWritten
  else if off == 0x80040 then
    let d' := if d.on DEV_CTL_LOCK then d else d.setB PIL_SAFECTL_DOZEOFF (bit v 2)
    if bit v 0 then d'.permit else d'
  else if off == 0x90000 || off == 0x91000 then (d.plain .dev w).dspControl ((off - 0x90000) / 4096)
  else if off == 0x90020 || off == 0x91020 then (if bit v 0 then d.dspApply ((off - 0x90020) / 4096) else d)
  else d.plain .dev w

/-- A write in the MOT, CT, MEM, DDR and FAIL blocks. -/
def Device.writeHigh (w : RWrite) (d : Device) : Device :=
  let v := w.val
  let off := w.off
  if off == 0xA0008 then
    if d.on MOT_CTL_EN then d else let d := d.plain .dev w; d.setMotPos (sgn 48 (d.get MOT_POS_POS))
  else if off == 0xA0044 then d.writeMotCmd v
  else if off == 0xA0068 then d.hostAdd (bits v 16 16) (bits v 0 8)
  else if off == 0xB0000 then d.writeCtCtl w
  else if off == 0xB0008 then (if d.on CT_CTL_EN then d else d.plain .dev w)
  else if 0xB0010 ≤ off && off < 0xB0020 then (if d.on CT_CTL_EN then d else d.set (CT_HKEY0_KEY ((off - 0xB0010) / 4)) v)
  else if 0xB0020 ≤ off && off < 0xB0030 then (if d.on CT_CTL_EN then d else d.set (CT_HKEY1_KEY ((off - 0xB0020) / 4)) v)
  else if off == 0xB0030 then d.writeCtCmd v
  else if 0xC2000 ≤ off && off < 0xCF100 then d.writeRegion w
  else if off == 0xE0000 then
    let d := (d.set FAIL_CTL_EN (bits v 0 1)).set FAIL_CTL_CNT_EN (bits v 2 1)
    d.failSpillMode (bit v 1)
  else if off == 0xE000C then (if d.on FAIL_CTL_SPILL then d else d.plain .dev w)
  else if off == 0xE0018 || off == 0xE0020 then (if d.on FAIL_CTL_SPILL then d else d.plain .dev w)
  else d.plain .dev w

def Device.writeDev (w : RWrite) (d : Device) : Device :=
  if w.off < 0x60000 then d.writeLow w else if w.off < 0xA0000 then d.writeMid w else d.writeHigh w

/-! ### Chiplets -/

def Device.writeAfe (a : Nat) (w : RWrite) (d : Device) : Device :=
  let v := w.val
  if w.off == 0 then d.taperEnable a (bit v 0)
  else if w.off == 4 || w.off == 8 then (d.plain (.afe a) w).modAfe a fun x => { x with staged := true }
  else if w.off == 0x64 then d.calCmd a (bits v 0 4) (bits v 8 4) (bits v 16 8)
  else if w.off == 0x80 then (if bit v 0 then d.skewCmd a (bits v 16 8) else d)
  else d.plain (.afe a) w

/-! ### Clusters -/

/-- A write of SEQ_CTL (R210, R211). -/
def Device.writeSeqCtl (k : Nat) (w : RWrite) (d : Device) : Device :=
  let q := bit w.val 0
  let was := (d.clus k).on SEQ_CTL_QUIESCE
  let d := d.modCl k (Cluster.set SEQ_CTL_HALT_EVT (bits w.val 9 1))
  if q && !was then d.quiesce k else if !q && was then d.release k else d

/-- A write of SEQ_PBASE or SEQ_PSIZE (R185). -/
def Device.writeRegion3 (k : Nat) (w : RWrite) (d : Device) : Device :=
  let x := d.clus k
  let base := if w.off == 8 then w.val else x.get SEQ_PBASE_BASE
  let size := if w.off == 0xC then w.val % 2 ^ 19 else x.get SEQ_PSIZE_WORDS
  if (x.thr.all fun t => t.state == 0) && base + 8 * size ≤ 0x300000 then d.plain (.cl k) w
  else d.modCl k (Cluster.setB SEQ_STAT_CFGREJ true)

/-- RUN, HALT or ABORT for one thread (R210); no thread runs in HOLD (R426). -/
def Device.threadCmd (k c : Nat) (run halt abort : Bool) (d : Device) : Device :=
  if abort then d.hostStop k c 12
  else if halt then d.hostStop k c 11
  else if run && !d.inHold then d.runThread k c
  else d

/-- RUNMASK and HALTREQ (R211): the masked threads of cluster `k`. -/
def Device.maskCmd (k mask : Nat) (run : Bool) (d : Device) : Device :=
  (List.range 64).foldl (fun d c => if bit mask c then d.threadCmd k c run (!run) false else d) d

/-- The registers that are written only while all 64 captures are IDLE (R290): pre-trigger area, record ring, spill ring. -/
def capIdleOnly (off : Nat) : Bool := off == 0x20010 || off == 0x20014 || off == 0x20020 || off == 0x20024 || off == 0x20030 || off == 0x20038

/-- A write in the MCE block (R259, R260, R262): fields that only the Lamplighter may write are refused with WREJ to others. -/
def Device.writeMce (k : Nat) (w : RWrite) (d : Device) : Device :=
  let v := w.val
  let off := w.off
  if off == 0x10000 then
    let d := d.plain (.cl k) { w with fs := [MCE_CTL_BUDGET_EN, MCE_CTL_SCRUB_EN] }
    if bit v 0 then d.loadedSet w.m k else d
  else if off == 0x10008 then (if w.lamp then d.plain (.cl k) w else d.mceReject k)
  else if off == 0x10024 then
    if w.lamp then d.modCl k fun x => (x.set MCE_PATCH_WORDS (bits v 0 16)).set MCE_PATCH_LEVEL (bits v 16 16) else d.mceReject k
  else if off == 0x10028 then (if v == 0 then d else d.xreqSet w.m k v)
  else if off == 0x10030 then d.modCl k fun x => x.setCsCopy w.m ((x.csCopy w.m).set 0 (v % 8192))
  else if off == 0x10034 then
    let d := if bit v 1 then d.csWrite w.m k (bit v 2) else if bit v 2 && !w.lamp then d.mceReject k else d
    if bit v 0 then d.csRead w.m k else d
  else if 0x10040 ≤ off && off < 0x10054 then
    d.modCl k fun x => x.setCsCopy w.m ((x.csCopy w.m).set ((off - 0x10040) / 4 + 1) (v % 2 ^ 32))
  else if 0x10400 ≤ off && off < 0x10800 then d.dispWrite w.m k ((off - 0x10400) / 4) v
  else d.plain (.cl k) w

def Device.writeCl (k : Nat) (w : RWrite) (d : Device) : Device :=
  let off := w.off
  if off == 0 then d.writeSeqCtl k w
  else if off == 8 || off == 0xC then d.writeRegion3 k w
  else if off == 0x20 then d.maskCmd k w.val true
  else if off == 0x28 then d.maskCmd k w.val false
  else if 0x10000 ≤ off && off < 0x10800 then d.writeMce k w
  else if capIdleOnly off then (if (d.clus k).cap.all fun u => u.state == 0 then d.plain (.cl k) w else d)
  else d.plain (.cl k) w

/-- A write of a thread's registers (R185, R210, R212). -/
def Device.writeThr (k c : Nat) (w : RWrite) (d : Device) : Device :=
  let off := w.off
  if off == 0 then d.threadCmd k c (bit w.val 0) (bit w.val 1) (bit w.val 2)
  else if off == 8 || off == 0x10 || off == 0x14 || (0x20 ≤ off && off < 0x30) || 0x40 ≤ off then
    if (d.thread k c).state != 0 then d.modThr k c (Thread.setB SEQ_TSTAT_WREJ true)
    else if off == 0x14 then d.modThr k c (Thread.set SEQ_TSP_DEPTH (min 16 (w.val % 32)))
    else d.plain (.thr k c) w
  else d.plain (.thr k c) w

/-- A write of a capture's registers (R276, R277, R291). -/
def Device.writeCap (n : Nat) (w : RWrite) (d : Device) : Device :=
  let v := w.val
  if w.off == 0 then (if bit v 8 then d.capDisarm n else (d.capArm n (bits v 0 8)).1)
  else if w.off == 0x10 then
    if asks (d.capt n).regs CAP_FORCE_TRIG v then (d.forceCap n d.dt).modCap n (CapCh.setB CAP_FORCE_TRIG true) else d
  else d.plain (.cap n) w

/-- A write of an interval unit's registers (R119, R128). -/
def Device.writeSti (k i : Nat) (w : RWrite) (d : Device) : Device :=
  let v := w.val
  if w.off == 0x10 then
    let d := if bit v 1 then d.modSti k i Sti.disarm else d
    if bit v 0 then d.modSti k i (Sti.arm d.dt) else d
  else d.plain (.sti k i) w

/-- A write of a group's registers (R179). -/
def Device.writeGrp (g : Nat) (w : RWrite) (d : Device) : Device :=
  let v := w.val
  if w.off == 4 then (d.identify g (bits v 0 8) 1).identify g (bits v 8 8) 0
  else d.plain (.grp g) w

/-! ### Channels -/

/-- The writes of CH_SNFCTL (R172, R180, R426, R472). -/
def Device.writeSnfctl (n v : Nat) (d : Device) : Device :=
  let r := (d.chan n).regs
  let d := if asks r CH_SNFCTL_SNUFF v then (d.snuffCh 20 n).modChan n (Chan.setB CH_SNFCTL_SNUFF true) else d
  if asks r CH_SNFCTL_REARM v then
    let d := if d.inHold then d.modChan n (Chan.setB CH_SNFSTAT_REJ true) else (d.rearm n).1
    d.modChan n (Chan.setB CH_SNFCTL_REARM true)
  else d

/-- A write of CH_ESjCTL (R147). -/
def Device.writeSlot (n j : Nat) (w : RWrite) (d : Device) : Device :=
  (d.plain (.ch n) w).modChan n (Chan.slotWritten j d.dt)

/-- A write of CH_STCMD (R300, R301). -/
def Device.writeStcmd (n v : Nat) (d : Device) : Device :=
  let d := if bit v 0 then (d.streamGo n).1 else d
  if bit v 2 then (d.streamJump n (bits v 8 8) (bit v 3)).1 else d

def Device.writeCh (n : Nat) (w : RWrite) (d : Device) : Device :=
  let v := w.val
  let off := w.off
  if off == 0x498 then d.writeSnfctl n v
  else if 0x304 ≤ off && off < 0x320 && off % 8 == 4 then
    let d := d.plain (.ch n) w
    if (off - 0x304) / 8 == (d.chan n).psr then d.modChan n Chan.fsWritten else d
  else if 0x328 ≤ off && off < 0x360 && off % 16 == 8 then d.writeSlot n ((off - 0x328) / 16) w
  else if off == 0x3A8 then
    if asks (d.chan n).regs CH_ACCCTL_CLRTOT v then d.modChan n fun c => c.clearTotals.setB CH_ACCCTL_CLRTOT true else d
  else if 0x580 ≤ off && off < 0x5A0 then
    if (d.chan n).stream.play then d.modChan n (Chan.setB CH_STSTAT_CFGREJ true)
    else
      let d := d.plain (.ch n) w
      if off == 0x59C then d.streamMark n else d
  else if off == 0x5A0 then d.streamWrite n (v % 2 ^ 32)
  else if off == 0x5AC then d.writeStcmd n v
  else d.plain (.ch n) w

/-! ### One word -/

/-- A register write whose words are in force. -/
def Device.regTake (u : RUnit) (w : RWrite) (d : Device) : Device :=
  match u with
  | .dev => d.writeDev w | .afe a => d.writeAfe a w | .cl k => d.writeCl k w | .thr k c => d.writeThr k c w
  | .cap n => d.writeCap n w | .sti k i => d.writeSti k i w | .grp g => d.writeGrp g w | .ch n => d.writeCh n w
  | .sh _ => d | .ac _ => d

/-- Is a thread's state closed to writes (R185): a low word is then refused and not held. -/
def Device.closedPair (u : RUnit) (d : Device) : Bool :=
  match u with | .thr k c => (d.thread k c).state != 0 | _ => false

/-- A write of the word at offset `off` of a part, at address `a`, by master `m` (R2). -/
def Device.regWord (m a : Nat) (u : RUnit) (off v : Nat) (d : Device) : Device :=
  let (fs, h, base) := fieldsOf u off
  if fs.isEmpty then d
  else if heldPair fs then
    if h == 0 then
      if d.closedPair u then d.regTake u ⟨m, base, fs, [(0, v)]⟩
      else { d with held := putWord m a v d.held }
    else
      match findWord m (a - 4) d.held with
      | some lo => ({ d with held := dropWord m (a - 4) d.held } : Device).regTake u ⟨m, base, fs, [(0, lo), (1, v)]⟩
      | none => d.regTake u ⟨m, base, fs, [(1, v)]⟩
  else d.regTake u ⟨m, base, fs, [(h, v)]⟩

end Sys2Proof.Machine
end

