-- ==== Sys2Proof/Machine/RegBus.lean ====
section
/-! DEFINITION. The bus: reads and writes by any master of any address, register space included (R2, R4, R105, R115, R132, R343 to R346, R435, R465 to R467). -/

namespace Sys2Proof.Machine

/-! ### Reads -/

/-- Words that a read of one register captures for the reader (R105, R132): (address of the first word, live register values). -/
def Device.captures (m a : Nat) (u : RUnit) (off : Nat) (d : Device) : List (Nat × Nat) :=
  let word := fun (u : RUnit) (o : Nat) => bits (d.live m u o) (32 * (fieldsOf u o).2.1) 32
  match u with
  | .ch n =>
    if off == 0x110 then [0x114, 0x118, 0x11C].map fun o => (a - 0x110 + o, word (.ch n) o)
    else if off == 0x120 then [0x124, 0x128, 0x12C].map fun o => (a - 0x120 + o, word (.ch n) o)
    else []
  | .sh n => if off == 0 then (List.range 28).map fun i => (a + 4 * (i + 1), word (.sh n) (4 * (i + 1))) else []
  | _ => []

/-- Is the address one that only such a capture fills, low words included. -/
def groupWord (u : RUnit) (off : Nat) : Bool :=
  match u with
  | .ch _ => (0x114 ≤ off && off < 0x120) || (0x124 ≤ off && off < 0x130) || off == 0x1A8 || off == 0x1AC
  | .sh _ => off != 0
  | _ => false

/-- A read of CH_WFINFO by master `m` (R115): the oldest entry leaves the FIFO, its DT is captured in CH_WFDT; 0 where the FIFO is empty. -/
def Device.readWfinfo (m a n : Nat) (d : Device) : Device × Nat :=
  let (c, e) := (d.chan n).popEvent
  let t := match e with | some e => e.dt | none => 0
  let d := d.modChan n fun _ => match e with | some e => c.set CH_WFDT_DT e.dt | none => c
  let held := putWord m (a + 8) (t % 2 ^ 32) (putWord m (a + 12) (t / 2 ^ 32) d.caught)
  ({ d with caught := held }, match e with | some e => e.info | none => 0)

/-- A read of the word at offset `off` of a part, at address `a`, by master `m` (R2, R4, R105, R132). -/
def Device.regRead (m a : Nat) (u : RUnit) (off : Nat) (d : Device) : Device × Nat :=
  let (fs, h, _) := fieldsOf u off
  if fs.isEmpty then (d, 0)
  else
    let pair := fs.any fun f => 32 < f.lo + f.width
    match if groupWord u off || (pair && h == 1) then findWord m a d.caught else none with
    | some v => (d, v)
    | none =>
      if (match u with | .ch _ => off == 0x1A0 | _ => false) then
        (match u with | .ch n => d.readWfinfo m a n | _ => (d, 0))
      else
        let full := d.live m u off
        let caught := (d.captures m a u off).foldl (fun xs e => putWord m e.1 e.2 xs) d.caught
        let caught := if pair && h == 0 then putWord m (a + 4) (bits full 32 32) caught else caught
        let d := d.modFile u fun r => readClear r fs h
        ({ d with caught := caught }, bits full (32 * h) 32)

/-! ### The bus -/

/-- Is an access to register space refused: by the regions (R344), in unassigned space (R466), or in a block of a cluster out of service (R435). -/
def Device.regRefused (m kind a : Nat) (d : Device) : Bool :=
  !d.allowed m 21 kind (a / 4096) false ||
    match regLoc a with
    | none => true
    | some (u, off) =>
      match u.serviceOf off with
      | some k => m != 35 && d.clState k != 0
      | none => false

/-- A register read of 4 B, or of 8 B as two words, the low one first. -/
def Device.regGet (m a n : Nat) (d : Device) : Device × Nat :=
  let one := fun (a : Nat) (d : Device) => match regLoc a with | some (u, off) => d.regRead m a u off | none => (d, 0)
  let (d, lo) := one (a / 4 * 4) d
  if n ≤ 4 then (d, lo)
  else
    let (d, hi) := one (a / 4 * 4 + 4) d
    (d, lo + hi * 2 ^ 32)

/-- A register write of 4 B, or of 8 B as two words, the low one first. -/
def Device.regPut (m a n v : Nat) (d : Device) : Device :=
  let one := fun (a v : Nat) (d : Device) => match regLoc a with | some (u, off) => d.regWord m a u off v | none => d
  let d := one (a / 4 * 4) (v % 2 ^ 32) d
  if n ≤ 4 then d else one (a / 4 * 4 + 4) (v / 2 ^ 32 % 2 ^ 32) d

/-- A read of `n` bytes at `a` by master `m`. -/
def Device.busRead (m a n : Nat) (d : Device) : Device × Ans :=
  if targetOf a == some 21 then
    if d.regRefused m 0 a then (d.refuse m 21 0 a, ⟨0, 1⟩)
    else match d.regGet m a n with | (d, v) => (d, ⟨v, 0⟩)
  else d.readMem m 0 a n

/-- A write of `n` bytes at `a` by master `m`. -/
def Device.busWrite (m a n v : Nat) (d : Device) : Device × Ans :=
  if targetOf a == some 21 then
    if d.regRefused m 1 a then (d.refuse m 21 1 a, ⟨0, 1⟩)
    else (d.regPut m a n v, ⟨0, 0⟩)
  else d.writeMem m 1 a n v false

end Sys2Proof.Machine
end

