-- ==== Sys2Proof/Machine/IsaWait.lean ====
section
/-! DEFINITION. Waits of channel programs: WAITC, WAITT, SYNC, and every other instruction's wait; passes, timeouts, quiesce (R195 to R200, R208 to R210, R226, R229, R236). -/

namespace Sys2Proof.Machine

/-- Deadline of a TIMEOUT field: none for 0 (R196). -/
def deadlineOf (now ticks : Nat) : Option Nat := if ticks = 0 then none else some (now + 128 * ticks)

/-- The conversion a class-6 wait compares with: the input, its SEQ and its DT. -/
def Chan.convKey (c : Chan) (sel : Nat) : Nat :=
  sel % 2 + 2 * (if sel % 2 == 1 then c.get CH_IFLG_SEQ + 256 * c.get CH_IDT_DT else c.get CH_VFLG_SEQ + 256 * c.get CH_VDT_DT)

/-- WAITC (R195). -/
def Device.iWaitc (k c cls reg timeout : Nat) (d : Device) : Device :=
  d.onThread k c fun t d =>
    let arg := t.g reg
    let arg := if cls == 6 then (d.chan (chanOf k c)).convKey arg else arg
    d.modThr k c (Thread.await ⟨.cond cls arg, deadlineOf d.dt timeout, d.dt⟩)

/-- WAITT (R198): a deadline already past completes at once with an overrun (R192). -/
def Device.iWaitt (k c base reg timeout : Nat) (d : Device) : Device :=
  d.onThread k c fun t d =>
    let from_ := match base with
      | 0 => d.dt
      | 1 => (d.chan (chanOf k c)).get CH_TSTART_DT
      | _ => t.g reg
    let dl := from_ + 128 * timeout
    if dl < d.dt then
      (d.overrun (chanOf k c) (d.dt - dl)).retireNext k c fun u => (u.setFlag 4 false).set SEQ_TWSTAMP_DT dl
    else d.modThr k c (Thread.await ⟨.until_, some dl, d.dt⟩)

/-- SYNC (R200): the first thread to arrive fixes the participant mask; a mask without the thread, or another than the one held, halts with SYNCERR. -/
def Device.iSync (k c b reg timeout : Nat) (d : Device) : Device :=
  d.onThread k c fun t d =>
    let mask := t.g reg
    let heldMask := ((d.clus k).bars.find? fun e => e.1 == b).map (·.2)
    if !bit mask (c % 64) || (match heldMask with | some m => m != mask | none => false) then d.trapHalt k c 10
    else
      let d := if heldMask.isNone then d.modCl k fun x => { x with bars := x.bars ++ [(b, mask)] } else d
      d.modThr k c (Thread.await ⟨.sync b mask, deadlineOf d.dt timeout, d.dt⟩)

/-! ### What ends a wait -/

/-- The present truth of a condition class: its stamp for a stamped class, none inside for an unstamped one (R195). mbox is decided by its read. -/
def Device.condNow (k c cls arg issue : Nat) (d : Device) : Option (Option Nat) :=
  let n := chanOf k c
  let x := d.chan n
  match cls with
  | 0 => if x.on CH_RSTAT_ENDED && x.get CH_ENDDT_DT ≤ d.dt then some (some (x.get CH_ENDDT_DT)) else none
  | 1 => if !x.on CH_RSTAT_PEND && !x.on CH_RSTAT_STEP_TRANSITION then some (some (x.get CH_TSTART_DT)) else none
  | 2 => match d.bcn.trigs.find? fun e => e.1 == arg % 256 && issue ≤ e.2 with
    | some e => some (some e.2) | none => none
  | 3 => if d.on (EVT_SRC_PENDING (arg % 512)) then some none else none
  | 4 => let u := d.sti k (arg % 8)
    if u.on STI_STAT_DONE || u.on STI_STAT_TIMEOUT then some none else none
  | 5 => x.fifo.head?.map fun e => some e.dt
  | 6 => if x.convKey (arg % 2) == arg then none
    else some (some (if arg % 2 == 1 then x.get CH_IDT_DT else x.get CH_VDT_DT))
  | 7 => match d.bcn.syncs.find? fun e => e.1 == arg % 256 && issue ≤ e.2 with
    | some e => some (some e.2) | none => none
  | 8 => if x.on (CH_ESCTL_FIRED (arg % 4)) then some (some (x.firedAt.getD (arg % 4) 0)) else none
  | 10 =>
    let p := sgn 64 arg
    if p ≤ d.motPos then
      some (some (((d.mot.ups.find? fun u => u.1 == p).map (·.2)).getD (d.get MOT_POSDT_DT)))
    else none
  | 11 => if ahead (x.get CH_STRD_IDX) (x.get CH_STWR_IDX) ≤ x.get CH_STWM_ENTRIES then some none else none
  | _ => none

/-- Is the class stamped (R195). -/
def stamped (cls : Nat) : Bool := !(cls == 3 || cls == 4 || cls == 9 || cls == 11)

/-- A thread whose wait is being evaluated: WAITING, or QUIESCED with its wait still open (R199). -/
def Thread.waiting (t : Thread) : Option Wait :=
  if (t.state == 3 || t.state == 4) && t.held.isNone then t.wait else none

/-- Does the wait win now, and with which stamp (R196, rules 1 and 2). The mbox class reads its word, which can halt the thread; a stalled read decides nothing. -/
def Device.wins (k c : Nat) (w : Wait) (d : Device) : Device × Option (Option Nat) :=
  match w.kind with
  | .cond cls arg =>
    if cls == 9 then
      let a := arg % 2 ^ 40
      if a % 8 != 0 then (d.haltThread k c 6, none)
      else match d.busRead k a 8 with
        | (d', ⟨v, 0⟩) => (d', if v = 0 then none else some none)
        | (_, ⟨_, 3⟩) => (d, none)
        | (d', ⟨_, e⟩) => (d'.haltThread k c (if e == 2 then 7 else 5), none)
    else (d, match d.condNow k c cls arg w.issue with
      | some (some s) => if (match w.deadline with | some e => decide (s ≤ e) | none => true) then some (some s) else none
      | r => r)
  | .sync b mask =>
    (d, if (List.range 64).all fun i => !bit mask i || (d.thread k i).inSync b then some none else none)
  | .meas isI _ =>
    let x := d.chan (chanOf k c)
    (d, if (if isI then x.avgI.isNone else x.avgV.isNone) then some none else none)
  | .psBusy _ _ => (d, if (d.chan (chanOf k c)).on CH_PSCTL_BUSY then none else some none)
  | .psEnd => (d, if (d.chan (chanOf k c)).on CH_PSCTL_BUSY then none else some none)
  | .imped => (d, if (d.chan (chanOf k c)).on CH_ZSTAT_BUSY then none else some none)
  | .until_ => (d, none)

/-- The effect of a wait that is won (R196, R200, R226, R229, R236). -/
def Device.won (k c : Nat) (w : Wait) (stamp : Option Nat) (d : Device) : Device :=
  match w.kind with
  | .cond _ _ => d.modThr k c (Thread.wakeNext (some false) (some (stamp.getD d.dt)))
  | .sync b _ => d.leaveSync k b false
  | .psEnd => d.endWait k c w (d.chan (chanOf k c)).psOk
  | .imped =>
    let x := d.chan (chanOf k c)
    d.endWait k c w (x.on CH_ZSTAT_DONE && !x.on CH_ZSTAT_LOWN)
  | _ => d.endWait k c w false

/-- Row WAIT_CONDITION_MET: an evaluation pass finds the condition of thread `c` true (R195 to R197). -/
def Device.waitMet (k c : Nat) (d : Device) : Device :=
  match (d.thread k c).waiting with
  | none => d
  | some w => match d.wins k c w with
    | (d, some s) => d.won k c w s
    | (d, none) => d

/-- Row WAIT_TIMEOUT: in the first pass past the deadline and the settle margin the condition still wins when it is true; else T = 1, the stamp is the deadline, and a barrier is reset (R196, R200). -/
def Device.waitTimeout (k c : Nat) (d : Device) : Device :=
  match (d.thread k c).waiting with
  | none => d
  | some w =>
    let margin := match w.kind with | .cond cls _ => some (if stamped cls then usLen else 0) | .sync _ _ => some 0 | _ => none
    match w.deadline, margin with
    | some e, some m =>
      if e + m < d.dt then
        match d.wins k c w with
        | (d, some s) => d.won k c w s
        | (d, none) =>
          if (d.thread k c).waiting.isNone then d
          else
            let d := d.modThr k c (Thread.wakeNext (some true) (some e))
            match w.kind with
            | .sync b _ => d.leaveSync k b true
            | _ => d
      else d
    | _, _ => d

/-- Row WAITT_DEADLINE: the first pass at or after the deadline (R198). -/
def Device.waittDeadline (k c : Nat) (d : Device) : Device :=
  match (d.thread k c).waiting with
  | some ⟨.until_, some e, _⟩ => if e ≤ d.dt then d.modThr k c (Thread.wakeNext (some false) (some e)) else d
  | _ => d

end Sys2Proof.Machine
end

