-- ==== Sys2Proof/Machine/IsaStep.lean ====
section
/-! DEFINITION. The Step area: STEP, SETP, LIMIT, EXPECT, ENDC, IRANGE, PSRANGE, SOFT, SNUFF, ENABLE, FMT (R213 to R227). Each acts on thread `c` of cluster `k` and its channel. -/

namespace Sys2Proof.Machine

/-! ### The shadow set -/

/-- A list of `n` entries with entry `i` replaced; missing entries are `z`. -/
def setPad {α : Type} (n i : Nat) (z v : α) (xs : List α) : List α :=
  (List.range n).map fun j => if j = i then v else xs.getD j z

/-- A shadow write: UNC stands until the commit that consumes the set (R132). -/
def Chan.editShadow (f : StepSet → StepSet) (c : Chan) : Chan :=
  let s := f c.sh
  { c with sh := { s with regs := s.regs.setB SET_MODE_UNC true } }

/-- A micro-routine that edits the shadow set: it ends with STEP_TRANSITION clear (R130, R214). -/
def Device.shadowEdit (k c : Nat) (f : StepSet → StepSet) (d : Device) : Device :=
  d.onThread k c fun _ d =>
    ((d.modChan (chanOf k c) (Chan.editShadow f)).routineEnds (chanOf k c)).retireNext k c id

/-- The bank offset of a table as an address in the cluster's bank (R137, R219, R221, R224). -/
def Device.tableAt (k : Nat) (f : Fld) (ofs : Nat) (d : Device) : Nat := targetBase k + (d.clus k).get f + ofs

/-- A table of `n` words of 4 B read through the sequencer's port (R137, R215). -/
def Device.readTable (k a n : Nat) (d : Device) : Device × List Nat × Nat := d.readWords k 0 4 n a

/-- The end of a table instruction whose read failed: stalled (nothing has happened), ACCESS or MEMERR with the shadow set unchanged (R215). -/
def Device.readFails (k c e : Nat) (d old : Device) : Device :=
  if e == 3 then old
  else (d.routineEnds (chanOf k c)).trapHalt k c (if e == 2 then 7 else 5)

/-- The words of a setpoint record in the shadow set (R137, R213). -/
def StepSet.putSp (ws : List Nat) (s : StepSet) : StepSet :=
  let r := (List.range 4).foldl (fun r i => r.set (SET_SP_V i) (ws.getD i 0)) s.regs
  { s with regs := r }
/-- The control word: LOOP, HOLDEN, ENDACT (R137, R218). -/
def StepSet.putCtl (w : Nat) (s : StepSet) : StepSet :=
  { s with regs := ((s.regs.set SET_MODE_LOOP (bits w 0 6)).set SET_MODE_HOLDEN (bits w 8 1)).set SET_MODE_ENDACT (bits w 9 1) }
def StepSet.putLoop (ws : List Nat) (s : StepSet) : StepSet :=
  { s with regs := (List.range 8).foldl (fun r i => r.set (SET_LW_W i) (ws.getD i 0)) s.regs }
def StepSet.putFmt (ws : List Nat) (s : StepSet) : StepSet :=
  { s with regs := (List.range 16).foldl (fun r i => r.set (SET_FW_W i) (ws.getD i 0)) s.regs }
/-- A limit set: six words (R219). -/
def StepSet.putLim (ws : List Nat) (s : StepSet) : StepSet := { s with lim := ws.take 6 }
/-- An expectation set (R221): control, LO, HI, HANDLER, OPEN, CLOSE of each entry. -/
def StepSet.putExps (ws : List Nat) (s : StepSet) : StepSet :=
  let w := fun i => ws.getD i 0
  { s with exps := (List.range 16).map fun e =>
      [w (8 * e), w (8 * e + 1), w (8 * e + 2), w (8 * e + 3), w (8 * e + 4) + 2 ^ 32 * w (8 * e + 5), w (8 * e + 6) + 2 ^ 32 * w (8 * e + 7)] }
/-- An end set (R224). -/
def StepSet.putEnds (ws : List Nat) (s : StepSet) : StepSet :=
  let w := fun i => ws.getD i 0
  { s with ends := (List.range 16).map fun e => (w (4 * e), w (4 * e + 2) + 2 ^ 32 * w (4 * e + 3)) }

/-! ### STEP -/


/-- Reads the tables that STEP names, in the order of R217, and answers the shadow set they give; nothing is written (R215). Modes without a format name no format slot. -/
def Device.stepReads (k c : Nat) (a : StepArgs) (d : Device) : Device × Nat × StepSet :=
  let s := (d.chan (chanOf k c)).sh
  let get := fun (want : Bool) (f : Fld) (ofs n : Nat) (put : List Nat → StepSet → StepSet) (x : Device × Nat × StepSet) =>
    if !want || x.2.1 != 0 then x
    else match x.1.readTable k (x.1.tableAt k f ofs) n with
      | (d, ws, 0) => (d, 0, put ws x.2.2)
      | (d, _, e) => (d, e, x.2.2)
  let x := get (!a.keepsp) RG_SPBASE_BASE (a.s * 0x20) 8 (fun ws s => (s.putSp ws).putCtl (ws.getD 4 0)) (d, 0, s)
  let x := get true RG_LTBASE_BASE (x.2.2.loop * 0x20) 8 StepSet.putLoop x
  let x := get ((modeType a.mode).isSome && !a.keepfmt) RG_FMTBASE_BASE (c % 64 * 0x400 + a.fmt * 0x40) 16 StepSet.putFmt x
  let x := get (a.lset != 15) RG_LSBASE_BASE (a.lset * 0x20) 8 StepSet.putLim x
  let x := get (a.xset != 15) RG_XSBASE_BASE (a.xset * 0x200) 128 StepSet.putExps x
  get (a.eset != 15) RG_ESBASE_BASE (a.eset * 0x100) 64 StepSet.putEnds x

/-- PEND is set with a trigger (R130, R214): IMMEDIATE falls due at the first frame boundary after the routine, AT_END at the end boundary of the running step, or like IMMEDIATE when no step runs. -/
def Chan.stage (now trig : Nat) (c : Chan) : Chan :=
  let soon := some (boundaryAfter now + c.deskew)
  let ahead_ := c.on CH_RSTAT_ENDED && now < c.get CH_ENDDT_DT
  { c.setB CH_RSTAT_PEND true with
    trig := trig
    lateBy := 0
    commitAt := match trig with
      | 0 => soon
      | 2 => if c.running then none else if ahead_ then some (c.get CH_ENDDT_DT) else soon
      | _ => none }

/-- STEP (R217). -/
def Device.iStep (k c : Nat) (a : StepArgs) (d : Device) : Device :=
  d.onThread k c fun _ d =>
    let n := chanOf k c
    if !a.keepsp && (d.clus k).get RG_SPCNT_CNT ≤ a.s then (d.routineEnds n).trapHalt k c 16
    else match d.stepReads k c a with
      | (d', 0, s) =>
        let r := ((((s.regs.set SET_MODE_MODE a.mode).set SET_MODE_FMT a.fmt).set SET_MODE_LSET a.lset).set SET_MODE_XSET a.xset).set SET_MODE_ESET a.eset
        let d' := d'.modChan n fun x => (x.editShadow fun _ => { s with regs := r }).stage d'.dt a.trig
        (d'.routineEnds n).retireNext k c id
      | (d', e, _) => d'.readFails k c e d

/-! ### Edits of the shadow set -/

/-- SETP: words 0 to 3 are SP_A, SP_B, IMAX, IMIN, word 4 the control word (R218). -/
def Device.iSetp (k c w : Nat) (b : Opnd) (d : Device) : Device :=
  let v := (d.thread k c).opnd b
  d.shadowEdit k c fun s =>
    if w == 4 then s.putCtl v else { s with regs := s.regs.set (SET_SP_V w) v }

/-- LIMIT (R220): threshold of comparator `comp`, or the control word of its input, of which bits [31:12] are ignored. -/
def Device.iLimit (k c comp : Nat) (ctl : Bool) (b : Opnd) (d : Device) : Device :=
  let v := (d.thread k c).opnd b % 2 ^ 32
  d.shadowEdit k c fun s =>
    { s with lim := if ctl then setPad 6 (4 + comp / 2) 0 (v % 2 ^ 12) s.lim else setPad 6 comp 0 v s.lim }

/-- EXPECT: word `w` of entry `e`; OPEN and CLOSE take 64 bits (R221). -/
def Device.iExpect (k c e w : Nat) (b : Opnd) (d : Device) : Device :=
  let v := (d.thread k c).opnd b
  let v := if 4 ≤ w then v else v % 2 ^ 32
  d.shadowEdit k c fun s =>
    { s with exps := setPad 16 e [] (setPad 6 w 0 v (s.exps.getD e [])) s.exps }

/-- EXPECT with CHECK (R222). -/
def Device.iExpectCheck (k c dst : Nat) (d : Device) : Device :=
  d.onThread k c fun _ d =>
    let f := (d.chan (chanOf k c)).get CH_XSTAT_FAILED
    d.retireNext k c fun t => (t.setG dst f).setFlag 5 (f == 0)

/-- ENDC: control word or VALUE of entry `e` (R224). -/
def Device.iEndc (k c e : Nat) (val : Bool) (b : Opnd) (d : Device) : Device :=
  let v := (d.thread k c).opnd b
  d.shadowEdit k c fun s =>
    let old := s.ew e
    { s with ends := setPad 16 e (0, 0) (if val then (old.1, v) else (v % 2 ^ 32, old.2)) s.ends }

def Device.iIrange (k c r : Nat) (d : Device) : Device :=
  d.shadowEdit k c fun s => { s with regs := s.regs.set SET_MODE_IRANGE r }

/-- FMT: word `w` of the shadow format record (R218). -/
def Device.iFmt (k c w : Nat) (b : Opnd) (d : Device) : Device :=
  let v := (d.thread k c).opnd b
  d.shadowEdit k c fun s => { s with regs := s.regs.set (SET_FW_W w) v }

/-- FMT with LOAD (R215, R218). -/
def Device.iFmtLoad (k c f : Nat) (d : Device) : Device :=
  d.onThread k c fun _ d =>
    match d.readTable k (d.tableAt k RG_FMTBASE_BASE (c % 64 * 0x400 + f * 0x40)) 16 with
    | (d', ws, 0) => d'.shadowEdit k c (StepSet.putFmt ws)
    | (d', _, e) => d'.readFails k c e d

/-! ### Ranges, ramp, snuff, enable (R225 to R227) -/

/-- PSRANGE (R226): PSFS when the range is unusable; waits for a change in progress. -/
def Device.iPsrange (k c r : Nat) (w : Bool) (d : Device) : Device :=
  d.onThread k c fun _ d =>
    let x := d.chan (chanOf k c)
    if x.get (CH_PSFS_FS r) = 0 then d.trapHalt k c 17
    else if x.on CH_PSCTL_BUSY then d.modThr k c (Thread.await ⟨.psBusy r w, none, d.dt⟩)
    else match d.psRequest k c r w with
      | (d, true) => d.retireNext k c id
      | (d, false) => d

def Device.iSoft (k c : Nat) (b : Opnd) (d : Device) : Device :=
  d.onThread k c fun t d =>
    (d.modChan (chanOf k c) (Chan.set CH_PSCTL_SOFT (min (t.opnd b) 65535))).retireNext k c id

def Device.iSnuff (k c : Nat) (d : Device) : Device :=
  d.onThread k c fun _ d => (d.snuffCh 19 (chanOf k c)).retireNext k c id

def Device.iEnable (k c : Nat) (d : Device) : Device :=
  d.onThread k c fun _ d =>
    match d.rearm (chanOf k c) with
    | (d, ok) => d.retireNext k c (Thread.setFlag 5 ok)

end Sys2Proof.Machine
end

