-- ==== Sys2Proof/Machine/IsaMeasure.lean ====
section
/-! DEFINITION. The Measure area: MEAS, ACC, ARM, TRIG, MARK, IMPED, STAMP, and the averages (R93, R229 to R237); SJMP and STRM without a descriptor (R306, R308). -/

namespace Sys2Proof.Machine

/-! ### Averages -/

/-- The info word of a refused average: M = 0, INVALID (R229). -/
def invalidInfo : Nat := 2 ^ 29

/-- An average on an input from the present DT on (R229, R230). With the Taper not running it is INVALID at once. -/
def Device.startAverage (n : Nat) (isI align : Bool) (count : Nat) (d : Device) : Device :=
  let a : Avg := { align := align, issue := d.dt, need := max 1 (min 65536 count) }
  if (d.chip (chipOf n)).on AFE_TPRSTAT_RUN then d.modChan n (Chan.startAvg isI a)
  else d.modChan n fun c => (c.startAvg isI a).putAvg isI false a

/-- N of MEAS from operand B: signed values below 1 count as 1 (R229). -/
def measCount (b : Nat) : Nat := (max 1 (min 65536 (sgn 64 b))).toNat

def Device.iMeas (k c dst : Nat) (isI align : Bool) (b : Opnd) (d : Device) : Device :=
  d.onThread k c fun t d =>
    (d.startAverage (chanOf k c) isI align (measCount (t.opnd b))).modThr k c (Thread.await ⟨.meas isI dst, none, d.dt⟩)

def Device.iMeasAsync (k c : Nat) (isI align : Bool) (b : Opnd) (d : Device) : Device :=
  d.onThread k c fun t d =>
    (d.startAverage (chanOf k c) isI align (measCount (t.opnd b))).retireNext k c id

/-- COLLECT: INVALID at once when no average is outstanding or completed, else a wait for its end (R229). -/
def Device.iMeasCollect (k c dst : Nat) (isI : Bool) (d : Device) : Device :=
  d.onThread k c fun _ d =>
    let x := d.chan (chanOf k c)
    let some_ := if isI then x.on CH_MSTAT_IBUSY || x.on CH_MSTAT_IDONE else x.on CH_MSTAT_VBUSY || x.on CH_MSTAT_VDONE
    if some_ then d.modThr k c (Thread.await ⟨.meas isI dst, none, d.dt⟩)
    else d.retireNext k c fun t => ((t.setPair dst 0 invalidInfo).setZN 0).setFlag 5 false

/-- Row AVERAGE_DONE: the N-th conversion of an average has arrived (R93, R229). -/
def Device.averageDone (n : Nat) (isI : Bool) (d : Device) : Device :=
  let c := d.chan n
  match (if isI then c.avgI else c.avgV) with
  | some a => if a.need ≤ a.covered then d.modChan n (Chan.putAvg isI false a) else d
  | none => d

/-- A Taper stop or retime hold of chiplet `a` cuts the averages in progress short (R229). -/
def Device.cutAverages (a : Nat) (d : Device) : Device :=
  d.mapChans (fun n => n / 128 == a) fun c =>
    let c := match c.avgV with | some x => c.putAvg false true x | none => c
    match c.avgI with | some x => c.putAvg true true x | none => c

/-- Rows TAPER_RETIME and TAPER_STOP with what hangs on them: averages end SHORT, capture grids restart (R83, R84, R229, R273). -/
def Device.retime (a : Nat) (d : Device) : Device :=
  let was := (d.chip a).on AFE_TPRSTAT_RETIME
  let d := d.taperRetime a
  if !was && (d.chip a).on AFE_TPRSTAT_RETIME then (d.cutAverages a).capRetime a else d
def Device.taperEnds (a : Nat) (d : Device) : Device :=
  let was := (d.chip a).on AFE_TPRSTAT_RUN
  let d := d.taperStop a
  if was && !(d.chip a).on AFE_TPRSTAT_RUN then (d.cutAverages a).capRetime a else d

/-! ### ACC (R231) -/

def Device.iAccRc (k c dst : Nat) (d : Device) : Device :=
  d.onThread k c fun _ d =>
    let x := d.chan (chanOf k c)
    let q := accWhole x.qtot
    let e := accWhole x.etot
    let d := d.modChan (chanOf k c) fun x =>
      { x with qtot := x.qtot - q * (2 ^ 32 : Nat), etot := x.etot - e * (2 ^ 32 : Nat) }
    d.retireNext k c fun t => (t.setPair dst (uns 64 q) (uns 64 e)).setZN (uns 64 q)

def Device.iAccClr (k c : Nat) (d : Device) : Device :=
  d.onThread k c fun _ d => (d.modChan (chanOf k c) Chan.clearTotals).retireNext k c id

/-! ### ARM, TRIG, MARK (R232 to R234) -/

def Device.iArm (k c dst : Nat) (b : Opnd) (d : Device) : Device :=
  d.onThread k c fun t d =>
    match d.capArm (chanOf k c) (t.opnd b % 256) with
    | (d, code) => d.retireNext k c fun u => (u.setG dst code).setFlag 5 (code == 0)

def Device.iArmDis (k c dst : Nat) (d : Device) : Device :=
  d.onThread k c fun _ d =>
    (d.capDisarm (chanOf k c)).retireNext k c fun u => (u.setG dst 0).setFlag 5 true

/-- TRIG on edge slot `j` (R147, R233): ACT and DT = G[SRCA] + (B << 7), or the SYNC number for ACT = 3. -/
def Device.iTrigEdge (k c j act a : Nat) (b : Opnd) (d : Device) : Device :=
  d.onThread k c fun t d =>
    let v := t.opnd b
    let dtv := if act == 3 then (d.chan (chanOf k c)).get (CH_ESDT_DT j) else (t.g a + v * 128) % 2 ^ 64
    let sync := if act == 3 then v % 256 else (d.chan (chanOf k c)).get (CH_ESCTL_SYNCNO j)
    (d.modChan (chanOf k c) fun x => x.armSlot j act dtv sync d.dt).retireNext k c id

/-- TRIG with a program trigger for the channel's capture, stamped with the issue DT (R233, R276). -/
def Device.iTrigCapture (k c : Nat) (d : Device) : Device :=
  d.onThread k c fun _ d => (d.forceCap (chanOf k c) d.dt).retireNext k c id

/-- TRIG as a Beacon request (R80, R233). -/
def Device.iTrigBeacon (k c : Nat) (sync : Bool) (b : Opnd) (d : Device) : Device :=
  d.onThread k c fun t d => (d.bcnSend (b2n sync) (t.opnd b % 256)).retireNext k c id

def Device.iMark (k c : Nat) (b : Opnd) (d : Device) : Device :=
  d.onThread k c fun t d => (d.capMark (chanOf k c) (t.opnd b)).retireNext k c id

def Device.iMarkStep (k c : Nat) (b : Opnd) (d : Device) : Device :=
  d.onThread k c fun t d =>
    (d.modChan (chanOf k c) (Chan.set CH_STEPIDX_IDX (t.opnd b))).retireNext k c id

/-! ### IMPED, STAMP (R236, R237) -/

def Device.iImped (k c : Nat) (w : Bool) (b : Opnd) (d : Device) : Device :=
  d.onThread k c fun t d =>
    match d.impedRequest (chanOf k c) (t.opnd b % 2 ^ 16) with
    | (d, true) => if w then d.modThr k c (Thread.await ⟨.imped, none, d.dt⟩) else d.retireNext k c id
    | (d, false) => d.retireNext k c (Thread.setFlag 5 false)

/-- The interval unit that an instruction names from operand fields. -/
def Device.onSti (k c : Nat) (u : Nat) (f : Nat → Sti → Sti) (d : Device) : Device :=
  d.onThread k c fun _ d => (d.modSti k (u % 8) (f d.dt)).retireNext k c id

def Device.iStampArm (k c u : Nat) (d : Device) : Device := d.onSti k c u Sti.arm
def Device.iStampDis (k c u : Nat) (d : Device) : Device := d.onSti k c u fun _ => Sti.disarm

def Device.iStampRd (k c dst u : Nat) (d : Device) : Device :=
  d.onThread k c fun _ d =>
    let x := d.sti k (u % 8)
    d.retireNext k c fun t =>
      (t.setPair dst (x.get STI_RES_VAL) (wordOf x.regs (STI_STAT.fields []) 0)).setFlag 5 (x.on STI_STAT_DONE)

/-- CFG: STI_CTL = G[SRCA][12:0], STI_TMO = G[SRCA][63:32], STI_START = B[15:0], STI_STOP = B[31:16]. -/
def Device.iStampCfg (k c u a : Nat) (b : Opnd) (d : Device) : Device :=
  d.onThread k c fun t d =>
    let v := t.g a
    let w := t.opnd b
    (d.modSti k (u % 8) fun x =>
      let x := x.disarm
      let r := writeWord x.regs (STI_CTL.fields []) false false 0 (v % 2 ^ 13)
      { x with regs := ((r.set STI_TMO_VAL (v / 2 ^ 32)).set STI_START_SEL w).set STI_STOP_SEL (w / 2 ^ 16) }).retireNext k c id

/-! ### Streams without a descriptor (R306, R308) -/

def Device.iStrmReset (k c : Nat) (d : Device) : Device :=
  d.onThread k c fun _ d =>
    match d.streamReset (chanOf k c) with | (d, ok) => d.retireNext k c (Thread.setFlag 5 ok)

def Device.iStrmGo (k c : Nat) (d : Device) : Device :=
  d.onThread k c fun _ d =>
    match d.streamGo (chanOf k c) with | (d, ok) => d.retireNext k c (Thread.setFlag 5 ok)

def Device.iStrmStat (k c dst : Nat) (d : Device) : Device :=
  d.onThread k c fun _ d =>
    let x := d.chan (chanOf k c)
    d.retireNext k c fun t =>
      (t.setPair dst (wordOf x.regs (CH_STSTAT.fields []) 0) (ahead (x.get CH_STRD_IDX) (x.get CH_STWR_IDX))).setFlag 5 (!x.on CH_STSTAT_UNDERRUN)

def Device.iStrmSlip (k c dst : Nat) (d : Device) : Device :=
  d.onThread k c fun _ d =>
    let x := d.chan (chanOf k c)
    d.retireNext k c fun t => (t.setPair dst (x.get CH_STSLIP_TICKS) (x.get CH_STSKIP_CNT)).setFlag 5 true

def Device.iSjmp (k c : Nat) (passEnd : Bool) (b : Opnd) (d : Device) : Device :=
  d.onThread k c fun t d =>
    match d.streamJump (chanOf k c) (t.opnd b % 256) passEnd with
    | (d, ok) => d.retireNext k c (Thread.setFlag 5 ok)

/-! ### MWIN (R333) -/

/-- A status word in G[DST]; P = 1 exactly when its code is OK (R332). -/
def Thread.status (dst v : Nat) (t : Thread) : Thread := (t.setG dst v).setFlag 5 (v % 256 == 0)

def Device.iMwin (k c dst a : Nat) (b : Opnd) (slot act : Nat) (guard : Bool) (cp : Nat) (d : Device) : Device :=
  d.onThread k c fun t d =>
    match d.mwin (chanOf k c) (t.g a) (t.opnd b) (slot + 4 * act + 16 * b2n guard + 32 * cp) with
    | (d, v) => d.retireNext k c (Thread.status dst v)

end Sys2Proof.Machine
end

