-- ==== Sys2Proof/Machine/Lap.lean ====
section
/-! DEFINITION. Host access: LAP sessions, requests, acknowledgements, retransmission, records and events to the host, Ethernet links (R386 to R395). -/

namespace Sys2Proof.Machine

/-! ### Sessions and messages (R389 to R391, R393) -/

def Device.sessOf (d : Device) (i : Nat) : Sess := d.sess.getD i {}
def Device.modSess (i : Nat) (f : Sess → Sess) (d : Device) : Device := { d with sess := d.sess.modify i f }

/-- The open session that a SESSION value names. -/
def Device.findSess (d : Device) (sid : Nat) : Option Nat :=
  (List.range 4).find? fun i => (d.sessOf i).open_ && (d.sessOf i).id == sid

/-- A message is discarded without a reply (R391): counted, event 348 for the first since LAP_CNT was read. -/
def Device.msgDiscard (d : Device) : Device :=
  let first := d.get LAP_CNT_AUTHFAIL == 0
  let d := d.bump LAP_CNT_AUTHFAIL 1
  if first then d.raise 348 else d

/-- Messages leave the device. -/
def Device.emit (i : Nat) (ms : List LMsg) (d : Device) : Device := { d with lapOut := d.lapOut ++ ms.map fun m => (i, m) }

/-- Queues a numbered message on session `i` (R393); it leaves at once while at most 64 are unacknowledged, and it carries the acknowledgement. -/
def Device.post (i kind flags arg : Nat) (body : List Nat) (d : Device) : Device × LMsg :=
  let s := d.sessOf i
  let m : LMsg := ⟨s.tx, kind, flags, arg, body, d.dt, 0⟩
  let now := s.unacked.length < 64
  let d := d.modSess i fun s => { s with tx := s.tx + 1, unacked := s.unacked ++ [m], ackDue := if now then none else s.ackDue }
  (if now then d.emit i [m] else d, m)

/-- The acknowledgement of session `i` up to `ack`, and of the SEQs whose bit is set in `sack` (R392, R393): records of acknowledged RECORD messages leave their queues; messages that come into the window of 64 are sent. -/
def Device.acked (i ack sack : Nat) (d : Device) : Device :=
  let s := d.sessOf i
  let hit := fun (q : Nat) => decide (q ≤ ack) || (q ≤ ack + 64 && bit sack (q - ack - 1))
  let gone := s.unacked.filter fun m => hit m.seq
  if gone.isEmpty then d
  else
    let left := s.unacked.zipIdx.filter fun e => !hit e.1.seq
    let out := left.zipIdx.map fun e => (if e.2 < 64 && 64 ≤ e.1.2 then { e.1.1 with sent := d.dt } else e.1.1, e.2 < 64 && 64 ≤ e.1.2)
    let d := d.modSess i fun s => { s with unacked := out.map (·.1) }
    let d := d.emit i ((out.filter (·.2)).map (·.1))
    let marks := (gone.filter fun m => m.kind == 5).map fun m => sentMark i m.seq
    if marks.isEmpty then d
    else d.mapRecords fun rs => rs.filter fun r => match r.sent with | some q => !marks.contains q | none => true

/-- An authenticated message has arrived on port `p` (R390, R391). -/
def Device.touched (i p : Nat) (d : Device) : Device :=
  (d.modSess i fun s => { s with last := d.dt, port := p, ackDue := some (s.ackDue.getD d.dt) }).showSess i

/-! ### Requests (R392, R394, R395) -/

/-- Answer of a request: TYPE, FLAGS, payload. -/
abbrev Reply := Nat × Nat × List Nat

def nak (code detail : Nat) : List Reply := [(8, 1, toBytes 4 code ++ toBytes 4 detail)]

/-- The pieces of a transfer: offset and bytes; registers 4 B, banks 8 B, DDR5 64 B. -/
def pieces (unit : Nat) : Nat → Nat → Nat → List (Nat × Nat)
  | 0, _, _ => []
  | k + 1, a, len =>
    if len = 0 then []
    else
      let n := min len (unit - a % unit)
      (a, n) :: pieces unit k (a + n) (len - n)
def pieceUnit (a : Nat) : Nat := match targetOf a with | some 21 => 4 | some 20 => 64 | _ => 8

/-- NAK for an access that the bus answered with `e` at offset `ofs` (R394). -/
def Device.busNak (d : Device) (a e ofs : Nat) : List Reply :=
  if e == 2 then nak 3 ofs else if targetOf a == some 20 && d.ddrOut a 1 then nak 4 ofs else nak 2 ofs

/-- Reads piece by piece; stops at the first error: data read, error, offset. -/
def Device.hostRead (base : Nat) : List (Nat × Nat) → Device → Device × List Nat × Nat × Nat
  | [], d => (d, [], 0, 0)
  | (a, n) :: t, d =>
    match d.busRead 36 a n with
    | (d, ⟨v, 0⟩) => match Device.hostRead base t d with | (d, bs, e, o) => (d, toBytes n v ++ bs, e, o)
    | (d, ⟨_, e⟩) => (d, [], e, a - base)

/-- Writes piece by piece; stops at the first error. -/
def Device.hostWrite (base : Nat) : List (Nat × Nat) → List Nat → Device → Device × Nat × Nat
  | [], _, d => (d, 0, 0)
  | (a, n) :: t, bs, d =>
    match d.busWrite 36 a n (ofBytes (bs.take n)) with
    | (d, ⟨_, 0⟩) => Device.hostWrite base t (bs.drop n) d
    | (d, ⟨_, e⟩) => (d, e, a - base)

/-- Address and count of a READ or WRITE (R392). -/
def accessOk (addr count : Nat) : Bool :=
  4 ≤ count && count ≤ 1024 && count % 4 == 0 && (targetOf addr).isSome && targetOf (addr + count - 1) == targetOf addr &&
    (targetOf addr != some 21 || addr % 4 == 0)

/-- Address and length of a BULK transfer (R392). -/
def bulkOk (addr len : Nat) : Bool :=
  addr % 64 == 0 && len % 64 == 0 && 0 < len && len ≤ 2 ^ 36 && (match targetOf addr with | some t => t != 21 | none => false) &&
    (targetOf (addr + len - 1)).isSome

/-- The BULK chunk in force (R395). -/
def Device.chunk (d : Device) : Nat :=
  let n := d.get LAP_CTL_BULKLEN
  if d.on LAP_CTL_JUMBO && 0 < n && n ≤ 8192 then n else 1024

/-- The chunks of a BULK read (R392); `k` bounds their number. -/
def Device.bulkChunks (addr len : Nat) : Nat → Nat → Device → Device × List Reply × Nat
  | 0, _, d => (d, [], 0)
  | k + 1, ofs, d =>
    let n := min (len - ofs) d.chunk
    if n = 0 then (d, [], 0)
    else match d.hostRead addr (pieces (pieceUnit addr) (n + 1) (addr + ofs) n) with
      | (d, bs, 0, _) =>
        match Device.bulkChunks addr len k (ofs + n) d with
        | (d, rs, e) => (d, (3, 1 + 2 * b2n (ofs + n < len), toBytes 8 ofs ++ toBytes 4 n ++ toBytes 4 0 ++ bs) :: rs, e)
      | (d, _, e, o) => (d, d.busNak (addr + ofs) e o, e)

/-- A STREAM message (R295, R394). -/
def Device.streamMessage (lcn first : Nat) (es : List Nat) (d : Device) : Device × List Reply × Nat :=
  let n := lcn % 1024
  let c := d.chan n
  if d.lcn n != lcn then (d, nak 7 0, 0)
  else if d.clState (n / 64) != 0 then (d, nak 2 0, 0)
  else if first != c.get CH_STWR_IDX then (d, nak 5 (c.get CH_STWR_IDX), 0)
  else if c.ringFree < es.length then (d, nak 6 c.ringFree, 0)
  else match d.ringStore n 36 first es with
    | (d, 0) => (d, [(4, 1, toBytes 4 ((d.chan n).get CH_STWR_IDX))], 0)
    | (d, e) => (d, if e == 2 then nak 3 0 else nak 2 0, e)

/-- Executes one request of session `i` (R392): its answers, and error 3 while memory stalls it. -/
def Device.serveReq (i : Nat) (r : LReq) (d : Device) : Device × List Reply × Nat :=
  match r with
  | .bad => (d, nak 1 0, 0)
  | .read addr count =>
    if !accessOk addr count then (d, nak 1 0, 0)
    else match d.hostRead addr (pieces (pieceUnit addr) (count + 1) addr count) with
      | (d, bs, 0, _) => (d, [(1, 1, bs)], 0)
      | (d, _, e, o) => (d, d.busNak addr e o, e)
  | .write addr data =>
    if !accessOk addr data.length then (d, nak 1 0, 0)
    else match d.hostWrite addr (pieces (pieceUnit addr) (data.length + 1) addr data.length) data with
      | (d, 0, _) => (d, [(2, 1, [])], 0)
      | (d, e, o) => (d, d.busNak addr e o, e)
  | .bulkRead addr len =>
    if !bulkOk addr len then (d, nak 1 0, 0)
    else d.bulkChunks addr len (len + 1) 0
  | .bulkWrite addr len data =>
    let done := match (d.sessOf i).bulk with | some (a, l, n) => if a == addr && l == len then n else 0 | none => 0
    if !bulkOk addr len || d.chunk < data.length || len < done + data.length || data.isEmpty then (d.modSess i fun s => { s with bulk := none }, nak 1 0, 0)
    else match d.hostWrite addr (pieces (pieceUnit addr) (data.length + 1) (addr + done) data.length) data with
      | (d, 0, _) =>
        let n := done + data.length
        if n = len then (d.modSess i fun s => { s with bulk := none }, [(3, 1, [])], 0)
        else (d.modSess i fun s => { s with bulk := some (addr, len, n) }, [], 0)
      | (d, e, o) => (d.modSess i fun s => { s with bulk := none }, d.busNak addr e o, e)
  | .stream lcn first es => d.streamMessage lcn first es

/-- Executes the held requests of session `i` in SEQ order (R393). One that memory stalls stays held; one that ends the session has no answer. -/
def Device.serveHeld (i : Nat) : Nat → Device → Device
  | 0, d => d
  | k + 1, d =>
    let s := d.sessOf i
    match s.held.find? fun e => e.1 == s.rx + 1 with
    | none => d
    | some (seq, r) =>
      match d.serveReq i r with
      | (_, _, 3) => d
      | (d, rs, _) =>
        if (d.sessOf i).id != s.id || !(d.sessOf i).open_ then d
        else
        let d := d.modSess i fun s => { s with rx := seq, held := s.held.filter fun e => decide (e.1 ≠ seq) }
        let (d, ms) := rs.foldl (fun (x : Device × List LMsg) e => match x.1.post i e.1 e.2.1 (seq % 2 ^ 32) e.2.2 with | (d, m) => (d, x.2 ++ [m])) (d, [])
        Device.serveHeld i k (d.modSess i fun s => { s with done := ((seq, ms) :: s.done).take 64 })

/-! ### Clear messages (R390, R412) -/

/-- May a clear message read, or write, the word at an address. -/
def clearRead (a : Nat) : Bool :=
  a == 0x40000000 || a == 0x40060000 || (0x40060060 ≤ a && a < 0x40060080) || (0x40060200 ≤ a && a < 0x40060214) || (0x4006F000 ≤ a && a < 0x40070000)
def clearWrite (a : Nat) : Bool := a == 0x40060200 || a == 0x40060208 || (0x4006F000 ≤ a && a < 0x40070000)

/-- A request with SESSION = 0: executed without region registers, or discarded. -/
def Device.clearRequest (seq : Nat) (r : LReq) (d : Device) : Device :=
  match r with
  | .read addr count =>
    let ws := (List.range (count / 4)).map fun i => addr + 4 * i
    if accessOk addr count && ws.all clearRead then
      let (d, bs) := ws.foldl (fun (x : Device × List Nat) a => match x.1.regGet 36 a 4 with | (d, v) => (d, x.2 ++ toBytes 4 v)) (d, [])
      d.emit 4 [⟨0, 1, 1, seq % 2 ^ 32, bs, d.dt, 0⟩]
    else d.msgDiscard
  | .write addr data =>
    let n := data.length
    let ws := (List.range (n / 4)).map fun i => addr + 4 * i
    if accessOk addr n && ws.all clearWrite then
      let d := ws.foldl (fun d a => d.regPut 36 a 4 (ofBytes ((data.drop (a - addr)).take 4))) d
      d.emit 4 [⟨0, 2, 1, seq % 2 ^ 32, [], d.dt, 0⟩]
    else d.msgDiscard
  | _ => d.msgDiscard

/-! ### The rows -/

/-- Does LAP answer on port `p`: it is enabled (R400), and the timebase runs under firmware (R403, R420). -/
def Device.portOn (p : Nat) (d : Device) : Bool :=
  (if p == 0 then d.on LAP_CTL_EN0 else d.on LAP_CTL_EN1) && d.on TB_STAT_DT_VALID && d.get SEC_BOOT_STATE != 0xF

/-- A request arrives on port `p` (rows LAP_READ to LAP_STREAM; R390 to R395). -/
def Device.lapRequest (p sid seq ack : Nat) (r : LReq) (d0 : Device) : Device :=
  let d : Device := { d0 with lapOut := [] }
  if !d.portOn p then d0
  else if sid = 0 then d.clearRequest seq r
  else match d.findSess sid with
    | none => d.msgDiscard
    | some i =>
      let s := d.sessOf i
      if s.rx + 64 < seq then d.msgDiscard
      else if seq ≤ s.rx then
        match s.done.find? fun e => e.1 == seq with
        | none => d.msgDiscard
        | some e => ((d.touched i p).acked i ack 0).emit i e.2
      else
        let d := (d.touched i p).acked i ack 0
        let d := d.modSess i fun s => if s.held.any fun e => e.1 == seq then s else { s with held := s.held ++ [(seq, r)] }
        d.serveHeld i 65

/-- Row LAP_ACK: an ACK message of the host (R393). -/
def Device.lapAck (p sid ack sack : Nat) (d0 : Device) : Device :=
  let d : Device := { d0 with lapOut := [] }
  if !d.portOn p then d0
  else match (if sid = 0 then none else d.findSess sid) with
    | none => d.msgDiscard
    | some i => ((d.modSess i fun s => { s with last := d.dt, port := p }).showSess i).acked i ack sack

/-- Row LAP_DISCARD: a message whose tag, version or type fails (R389, R391). -/
def Device.lapDiscard (d : Device) : Device := ({ d with lapOut := [] } : Device).msgDiscard

/-- Row LAP_ACK_TIMER: 100 µs after an arrival that nothing has acknowledged, an ACK leaves, with its bitmap when requests are held (R393). -/
def Device.ackTimer (i : Nat) (d : Device) : Device :=
  let s := d.sessOf i
  match s.ackDue with
  | some t =>
    if s.open_ && t + 100 * usLen ≤ d.dt then
      let map := s.held.foldl (fun a e => setBit a (e.1 - s.rx - 1) true) 0
      let m : LMsg := ⟨0, 7, if map = 0 then 0 else 4, 0, if map = 0 then [] else toBytes 8 map, d.dt, 0⟩
      (({ d with lapOut := [] } : Device).modSess i fun s => { s with ackDue := none }).emit i [m]
    else d
  | none => d

/-- The wait before retransmission number `tries` + 1 (R393): LAP_RTO.US doubled each time, up to 64 ms. -/
def Device.rto (tries : Nat) (d : Device) : Nat := min (max 1 (d.get LAP_RTO_US) * 2 ^ tries) (max 64000 (d.get LAP_RTO_US)) * usLen

/-- Row LAP_RETRANSMIT: the waits of session `i` that have expired (R393); past RETRY the session ends. -/
def Device.retransmit (i : Nat) (d : Device) : Device :=
  let s := d.sessOf i
  let due := (s.unacked.take 64).filter fun m => m.sent + d.rto m.tries ≤ d.dt
  if !s.open_ || due.isEmpty then d
  else if due.any fun m => d.get LAP_RTO_RETRY ≤ m.tries then ({ d with lapOut := [] } : Device).endSession i
  else
    let again := fun (m : LMsg) => { m with sent := d.dt, tries := m.tries + 1 }
    let d := { d with lapOut := [] }.bump LAP_CNT_RETX due.length
    let d := d.modSess i fun s => { s with ackDue := none, unacked := s.unacked.map fun m => if due.any fun x => x.seq == m.seq then again m else m }
    d.emit i (due.map again)

/-- Row LAP_SESSION_IDLE: 60 s without an authenticated message (R390). -/
def Device.sessionIdle (i : Nat) (d : Device) : Device :=
  let s := d.sessOf i
  if s.open_ && s.last + 60 * 204800000000 ≤ d.dt then d.endSession i else d

/-! ### Records and events to the host (R388, R392) -/

/-- A record in a RECORD message (R392). -/
def Record.bytes (r : Record) : List Nat :=
  toBytes 2 r.data.length ++ [r.kind, 0] ++ toBytes 4 r.lcn ++ toBytes 4 r.idx ++ toBytes 4 0 ++ toBytes 8 r.dt ++
    exactly (alignUp r.data.length 8) r.data

/-- Marks the first `n` unsent records. -/
def markSent (q : Nat) : Nat → List Record → List Record
  | 0, rs => rs
  | _, [] => []
  | n + 1, r :: rs => if r.sent.isNone then { r with sent := some q } :: markSent q n rs else r :: markSent q (n + 1) rs

/-- Row RECORD_SEND: the first `n` unsent records of a queue (a cluster's, or 16 for the device's) leave in one RECORD message (R392). -/
def Device.recordSend (q n : Nat) (d : Device) : Device :=
  let i := d.get LAP_DELIV_RECSESS
  let rs := if q < 16 then (d.clus q).records else d.records
  let take := (rs.filter fun r => r.sent.isNone).take n
  if !d.on LAP_DELIV_RECVALID || !(d.sessOf i).open_ || take.isEmpty then d
  else
    let mark := sentMark i (d.sessOf i).tx
    let d := { d with lapOut := [] }
    let (d, _) := d.post i 5 0 0 (take.flatMap Record.bytes)
    if q < 16 then d.modCl q fun x => { x with records := markSent mark n x.records }
    else { d with records := markSent mark n d.records }

/-- Entries that an EVENT message holds (R388). -/
def Device.eventRoom (d : Device) : Nat :=
  ((if d.on LAP_CTL_JUMBO then 9000 else 1500) - (if d.on LAP_CTL_IPV6 then 40 else 20) - 8 - 32 - 16 - 8) / 16

/-- One entry of an EVENT message (R392). -/
def Device.eventEntry (d : Device) (e : EvtCell) : List Nat :=
  toBytes 2 e.src ++ toBytes 2 e.count ++ toBytes 4 (if 480 ≤ e.src then d.get (EVT_DBDATA_DATA (e.src - 480)) else 0) ++ toBytes 8 e.first

/-- Sends the entries in messages of at most `room` (R388). -/
def Device.eventSend (i room : Nat) : Nat → List EvtCell → Device → Device
  | 0, _, d => d
  | k + 1, es, d =>
    if es.isEmpty then d
    else
      let rest := es.drop room
      let (d, _) := d.post i 6 (2 * b2n (!rest.isEmpty)) 0 (toBytes 8 d.dt ++ (es.take room).flatMap d.eventEntry)
      Device.eventSend i room k rest (d.bump EVT_MSGCNT_CNT 1)

/-- Row EVENT_COAL_TIMER (R387, R388): once the timer of an eligible source has run out, every eligible source goes into EVENT messages. -/
def Device.coalTimer (d : Device) : Device :=
  let i := d.get LAP_DELIV_EVSESS
  let elig := fun (e : EvtCell) => 0 < e.count && d.on (EVT_SRC_ENABLE e.src) && d.on (EVT_SRC_RHOST e.src)
  let es := d.evt.filter elig
  let ripe := es.any fun e => d.get (EVT_SRC_PRIORITY e.src) == 3 || match e.due with | some t => decide (t ≤ d.dt) | none => false
  if !d.on LAP_DELIV_EVVALID || !(d.sessOf i).open_ || !ripe then d
  else
    let cells := d.evt.map fun e => if elig e then { e with count := 0, due := none } else e
    ({ d with lapOut := [], evt := cells } : Device).eventSend i d.eventRoom (es.length + 1) es

/-- Row ETH_LINK_CHANGE (R395, R400). -/
def Device.ethLink (p : Nat) (up : Bool) (speed : Nat) (d : Device) : Device :=
  if p == 0 then ((d.setB LAP_STAT_LINK0 up).set LAP_STAT_SPD0 (b2n up * speed)).raise 344
  else ((d.setB LAP_STAT_LINK1 up).set LAP_STAT_SPD1 (b2n up * speed)).raise 345

end Sys2Proof.Machine
end

