-- ==== Sys2Proof/Machine/IsaMem.lean ====
section
/-! DEFINITION. Instructions that reach memory through the sequencer's port: LD, ST, ATADD, TLU, LDTAB, RECORD, the stream descriptor and segments, and the motion and cell-table instructions (R203 to R207, R228, R235, R306, R307, R334 to R337). -/

namespace Sys2Proof.Machine

/-- The halt cause of a refused (1) or failed (2) access (R203). -/
def faultCause (e : Nat) : Nat := if e == 2 then 7 else 5

/-- The end of an access with error `e`: a stalled one has not happened yet (R191, R356, R367), others halt the thread. -/
def Device.accessFails (k c e : Nat) (d old : Device) : Device :=
  if e == 3 then old else d.trapHalt k c (faultCause e)

/-- What stands in the way of an access of `n` bytes at a 64-bit address before it is made (R203): ACCESS above 40 bits, ALIGN for a misaligned one and for 2 or 1 B in register space. -/
def addrCause (a n : Nat) : Option Nat :=
  if 2 ^ 40 ≤ a then some 5
  else if a % n != 0 then some 6
  else if n < 4 && targetOf a == some 21 then some 6
  else none

/-! ### LD, ST, ATADD -/

def Device.iLd (k c dst a : Nat) (ofs : Int) (s : Bool) (sz : Nat) (d : Device) : Device :=
  d.onThread k c fun t d =>
    let n := accSize sz
    let x := uns 64 ((t.g a : Int) + ofs)
    match addrCause x n with
    | some h => d.trapHalt k c h
    | none => match d.busRead k x n with
      | (d, ⟨v, 0⟩) => d.retireNext k c (Thread.setG dst (extend n s v))
      | (d', ⟨_, e⟩) => d'.accessFails k c e d

def Device.iSt (k c a b : Nat) (ofs : Int) (sz : Nat) (d : Device) : Device :=
  d.onThread k c fun t d =>
    let n := accSize sz
    let x := uns 64 ((t.g a : Int) + ofs)
    match addrCause x n with
    | some h => d.trapHalt k c h
    | none => match d.busWrite k x n (t.g b % 2 ^ (8 * n)) with
      | (d, ⟨_, 0⟩) => d.retireNext k c id
      | (d', ⟨_, e⟩) => d'.accessFails k c (if e == 2 then 0 else e) d

/-- ATADD (R204): one indivisible add or swap at a bank; ATOMIC outside the 20 banks. -/
def Device.iAtadd (k c dst a : Nat) (b : Opnd) (s swp : Bool) (sz : Nat) (d : Device) : Device :=
  d.onThread k c fun t d =>
    let n := accSize sz
    let x := t.g a
    if 2 ^ 40 ≤ x then d.trapHalt k c 5
    else if x % n != 0 then d.trapHalt k c 6
    else if (match targetOf x with | some g => decide (20 ≤ g) | none => true) then d.trapHalt k c 8
    else match d.atomicMem k x n fun old => if swp then t.opnd b else old + t.opnd b with
      | (d, ⟨v, 0⟩) => d.retireNext k c fun u => let r := extend n s v; (u.setG dst r).setZN r
      | (d', ⟨_, e⟩) => d'.accessFails k c e d

/-! ### TLU (R207) -/

/-- The bracket search of R207 on a table at `tab`: lower and upper index with the abscissas read there. Answers an error: a halt cause, or 3 for a stall. -/
def Device.tluSearch (k tab : Nat) (x : Int) : Nat → Nat → Int → Nat → Int → Device → Device × Nat × Nat × Int × Int
  | 0, lo, xl, _, xh, d => (d, 0, lo, xl, xh)
  | f + 1, lo, xl, hi, xh, d =>
    if hi ≤ lo + 1 then (d, if xh ≤ xl then 9 else 0, lo, xl, xh)
    else
      let mid := (lo + hi) / 2
      match d.busRead k (tab + 8 + 16 * mid) 8 with
      | (d, ⟨v, 0⟩) =>
        let xm := sgn 64 v
        if xm ≤ xl || xh ≤ xm then (d, 9, lo, xl, xh)
        else if xm ≤ x then Device.tluSearch k tab x f mid xm hi xh d
        else Device.tluSearch k tab x f lo xl mid xm d
      | (d, ⟨_, e⟩) => (d, if e == 3 then 3 else faultCause e, lo, xl, xh)

/-- Reads a list of 8 B words of the table in order; answers a halt cause or 3 as above. -/
def Device.tluWords (k tab : Nat) : List Nat → Device → Device × Nat × List Int
  | [], d => (d, 0, [])
  | o :: os, d =>
    match d.busRead k (tab + o) 8 with
    | (d, ⟨v, 0⟩) => (match d.tluWords k tab os with | (d, e, vs) => (d, e, sgn 64 v :: vs))
    | (d, ⟨_, e⟩) => (d, if e == 3 then 3 else faultCause e, [])

/-- Result and OV of a look-up, or its error. -/
def Device.tlu (k tab : Nat) (x : Int) (d : Device) : Device × Nat × Int × Bool :=
  match d.tluWords k tab [0] with
  | (d, 0, hs) =>
    let h := uns 64 (hs.getD 0 0)
    let n := bits h 0 16
    if n < 2 || 1024 < n || bits h 17 47 != 0 then (d, 9, 0, false)
    else match d.tluWords k tab [8, 8 + 16 * (n - 1)] with
      | (d, 0, xs) =>
        let x0 := xs.getD 0 0
        let xe := xs.getD 1 0
        if x < x0 then (match d.tluWords k tab [16] with | (d, e, ys) => (d, e, ys.getD 0 0, true))
        else if xe ≤ x then
          (match d.tluWords k tab [16 + 16 * (n - 1)] with | (d, e, ys) => (d, e, ys.getD 0 0, decide (xe < x)))
        else match d.tluSearch k tab x 11 0 x0 (n - 1) xe with
          | (d, 0, i, xl, xh) =>
            if bit h 16 then (match d.tluWords k tab [16 + 16 * i] with | (d, e, ys) => (d, e, ys.getD 0 0, false))
            else (match d.tluWords k tab [16 + 16 * i, 32 + 16 * i] with
              | (d, e, ys) =>
                let y0 := ys.getD 0 0
                let y1 := ys.getD 1 0
                (d, e, roundDiv (y0 * (xh - xl) + (x - xl) * (y1 - y0)) (xh - xl), false))
          | (d, e, _, _, _) => (d, e, 0, false)
      | (d, e, _) => (d, e, 0, false)
  | (d, e, _) => (d, e, 0, false)

def Device.iTlu (k c dst a : Nat) (b : Opnd) (d : Device) : Device :=
  d.onThread k c fun t d =>
    let tab := t.opnd b
    match addrCause tab 8 with
    | some h => d.trapHalt k c h
    | none => match d.tlu k tab (sgn 64 (t.g a)) with
      | (d, 0, r, ov) => d.retireNext k c (Thread.result dst (uns 64 r) false ov)
      | (d', e, _, _) => if e == 3 then d else d'.trapHalt k c e

/-! ### LDTAB (R228) -/

/-- Copies `w` words of 8 B in ascending order. Answers the words copied and the first error. -/
def Device.copyUp (k : Nat) : Nat → Nat → Nat → Device → Device × Nat × Nat
  | 0, _, _, d => (d, 0, 0)
  | w + 1, src, dst, d =>
    match d.busRead k src 8 with
    | (d, ⟨v, 0⟩) =>
      match d.busWrite k dst 8 v with
      | (d, ⟨_, 0⟩) => (match Device.copyUp k w (src + 8) (dst + 8) d with | (d, m, e) => (d, m + 1, e))
      | (d, ⟨_, e⟩) => (d, 0, if e == 2 then 1 else e)
    | (d, ⟨_, e⟩) => (d, 0, e)

/-- The progress of an LDTAB in the thread's registers (R228). -/
def Thread.advance (dst a b n : Nat) (t : Thread) : Thread :=
  let t1 := t.setG dst ((t.g dst + n) % 2 ^ 64)
  let t2 := t1.setG a ((t.g a + n) % 2 ^ 64)
  t2.setG b (t.g b - n)

/-- LDTAB. `part` is the number of bytes at which a safe point ends the copy early; it completes when that is not below the length. A refused access leaves no effect (R203); an uncorrectable one keeps the progress. -/
def Device.iLdtab (k c dst a b part : Nat) (d : Device) : Device :=
  d.onThread k c fun t d =>
    let len := t.g b
    let src := t.g a
    let dest := t.g dst
    let bank := targetBase k
    if src % 8 != 0 || dest % 8 != 0 || len % 8 != 0 then d.trapHalt k c 6
    else if len = 0 then d.retireNext k c (Thread.setFlag 0 true)
    else if dest < bank || bank + 0x300000 < dest + len || 2 ^ 20 < len || (src < dest + len && dest < src + len) then d.trapHalt k c 18
    else if 2 ^ 40 < src + len then d.trapHalt k c 5
    else
      let n := if part < len then part / 256 * 256 else len
      match d.copyUp k (n / 8) src dest with
      | (d', m, 0) =>
        if n < len then d'.retire k c (Thread.advance dst a b (8 * m))
        else d'.retireNext k c fun u => (u.advance dst a b len).setFlag 0 true
      | (d', m, e) =>
        if e == 3 then d
        else if e == 2 then (d'.modThr k c (Thread.advance dst a b (8 * m))).trapHalt k c 7
        else ({ d' with mem := d.mem, bad := d.bad, soft := d.soft } : Device).trapHalt k c 5

/-! ### RECORD (R235) -/

def Device.iRecord (k c typ a : Nat) (b : Opnd) (d : Device) : Device :=
  d.onThread k c fun t d =>
    let len := t.opnd b
    let x := t.g a
    if len < 8 || 64 < len || len % 8 != 0 then d.trapHalt k c 6
    else match addrCause x 8 with
      | some h => d.trapHalt k c h
      | none =>
        if 64 ≤ (d.clus k).records.length then
          (d.modCl k (Cluster.bump RG_RECSTAT_DROPPED 1)).retireNext k c (Thread.setFlag 5 false)
        else match d.readWords k 0 8 (len / 8) x with
          | (d, ws, 0) =>
            let n := chanOf k c
            let r : Record := { kind := 0, typ := typ % 256, lcn := d.lcn n, idx := (d.chan n).get CH_STEPIDX_IDX, dt := d.dt,
                                data := ws.flatMap (toBytes 8) }
            (d.modCl k fun q => { q with records := q.records ++ [r] }).retireNext k c (Thread.setFlag 5 true)
          | (d', _, e) => d'.accessFails k c e d

/-! ### Streams (R306, R307) -/

def Device.iStrmCfg (k c dst a : Nat) (d : Device) : Device :=
  d.onThread k c fun t d =>
    match addrCause (t.g a) 8 with
    | some h => d.trapHalt k c h
    | none => match d.readWords k 0 4 8 (t.g a) with
      | (d, ws, 0) =>
        (match d.streamCfg (chanOf k c) ws with
        | (d, code) => d.retireNext k c fun u => (u.setG dst code).setFlag 5 (code == 0))
      | (d', _, e) => d'.accessFails k c e d

/-- The end of a segment write: P, or a halt when the ring was refused. -/
def Device.segStore (k c : Nat) (vs : List Nat) (d : Device) : Device :=
  let n := chanOf k c
  match d.ringStore n k ((d.chan n).get CH_STWR_IDX) vs with
  | (d, 0) => d.retireNext k c (Thread.setFlag 5 true)
  | (d', e) => d'.accessFails k c e d

def Device.iSeg (k c a : Nat) (d : Device) : Device :=
  d.onThread k c fun t d =>
    let h := t.g a
    if (d.chan (chanOf k c)).segOk h 0 then d.segStore k c [h]
    else d.retireNext k c (Thread.setFlag 5 false)

/-- SEG with COPY: header G[SRCA], `B` entries from G[DST] (R307). -/
def Device.iSegCopy (k c dst a : Nat) (b : Opnd) (d : Device) : Device :=
  d.onThread k c fun t d =>
    let h := t.g a
    let n := t.opnd b
    if n < 1 || 4096 < n || !(d.chan (chanOf k c)).segOk h n then d.retireNext k c (Thread.setFlag 5 false)
    else match addrCause (t.g dst) 8 with
      | some z => d.trapHalt k c z
      | none => match d.readWords k 0 8 n (t.g dst) with
        | (d', vs, 0) => d'.segStore k c (h :: vs)
        | (d', _, e) => d'.accessFails k c e d

/-! ### Motion and cell table (R332, R334 to R337) -/

/-- The cell-cache misses of an operation are taken by synchronous traps of the thread's cluster (R255, R321). -/
def Device.missTraps (k : Nat) (d old : Device) : Device :=
  d.modCl k (Cluster.bump MCE_TRAPCNT_SYNC (d.get CT_CNT_CCMISS - old.get CT_CNT_CCMISS))

/-- The end of a cell-table operation with memory error `e`: while it stalls nothing has happened. -/
def Device.cellEnds (k c e : Nat) (f : Thread → Thread) (d old : Device) : Device :=
  if e == 0 then (d.missTraps k old).retireNext k c f else d.accessFails k c e old

/-- MSORT (R334): the slot that INSTRUCTION_FETCH took for it, or one taken now. -/
def Device.iMsort (k c dst a : Nat) (d : Device) : Device :=
  d.onThread k c fun t d =>
    let n := chanOf k c
    match addrCause (t.g a) 8 with
    | some h => d.trapHalt k c h
    | none =>
      if d.on CT_STAT_RECOUNT then d
      else
        let own := d.mot.slots.find? fun s => s.owner == some n
        match own with
        | some s =>
          (match d.msortFinish n s with
          | (d', 0, v) => d'.cellEnds k c 0 (Thread.status dst v) d
          | (d', e, _) => d'.cellEnds k c e id d)
        | none =>
          match d.readWords k 0 8 8 (t.g a) with
          | (d1, ws, 0) =>
            let blk := ofBytes (ws.flatMap (toBytes 8))
            (match d1.msortStart n blk with
            | (d2, 0) =>
              (match d2.mot.slots.find? fun s => s.owner == some n with
              | some s =>
                (match d2.msortFinish n s with
                | (d3, 0, v) => d3.cellEnds k c 0 (Thread.status dst v) d
                | (d3, e, _) => d3.cellEnds k c e id d)
              | none => d2.retireNext k c (Thread.status dst 0))
            | (d2, st) => d2.retireNext k c (Thread.status dst st))
          | (d', _, e) => d'.accessFails k c e d

/-- The words of a 1,024-bit image as 8 B stores from `a` on. -/
def Device.storeImage (k : Nat) : Nat → Nat → Nat → Device → Device × Nat
  | 0, _, _, d => (d, 0)
  | n + 1, a, m, d =>
    match d.busWrite k a 8 (m % 2 ^ 64) with
    | (d, ⟨_, 0⟩) => Device.storeImage k n (a + 8) (m / 2 ^ 64) d
    | (d, ⟨_, e⟩) => (d, e)

/-- CTLOOK (R335) once the cell ID is known: the record goes to `dest`, its handle to G[DST + 1]. -/
def Device.lookUp (k c dst dest id : Nat) (d old : Device) : Device :=
  if badId id then d.cellEnds k c 0 (Thread.status dst stBadId) old
  else match d.ctFind id with
    | (d, 0, none) => d.cellEnds k c 0 (Thread.status dst stNotFound) old
    | (d, 0, some h) =>
      (match d.ctRead h with
      | (d, 0, m) =>
        (match d.storeImage k 16 dest m with
        | (d, 0) => d.cellEnds k c 0 (fun t => (t.setG ((dst + 1) % 16) h).status dst stOk) old
        | (d, e) => d.cellEnds k c e (fun t => t) old)
      | (d, e, _) => d.cellEnds k c e (fun t => t) old)
    | (d, e, _) => d.cellEnds k c e (fun t => t) old

def Device.iCtlook (k c dst a : Nat) (b : Opnd) (d : Device) : Device :=
  d.onThread k c fun t d =>
    match addrCause (t.opnd b) 8 with
    | some h => d.trapHalt k c h
    | none =>
      if d.on CT_STAT_RECOUNT then d
      else if !d.on CT_CTL_EN then d.retireNext k c (Thread.status dst stDisabled)
      else d.lookUp k c dst (t.opnd b) (t.g a) d

def Device.iCtlookCar (k c dst a : Nat) (b : Opnd) (d : Device) : Device :=
  d.onThread k c fun t d =>
    match addrCause (t.opnd b) 8 with
    | some h => d.trapHalt k c h
    | none =>
      if d.on CT_STAT_RECOUNT then d
      else if !d.on CT_CTL_EN then d.retireNext k c (Thread.status dst stDisabled)
      else match d.carrierCell (t.g a) with
        | (d', 0, some cell) => d'.lookUp k c dst (t.opnd b) cell d
        | (d', 0, none) => d'.cellEnds k c 0 (Thread.status dst stNoMap) d
        | (d', e, _) => d'.cellEnds k c e id d

/-- CTUPD: 0 UPDATE, 1 INSERT, 2 UPSERT, 3 RETIRE of the 128 B image at G[SRCA] (R336). -/
def Device.iCtupd (k c op dst a : Nat) (b : Opnd) (d : Device) : Device :=
  d.onThread k c fun t d =>
    match addrCause (t.g a) 8 with
    | some h => d.trapHalt k c h
    | none =>
      if d.on CT_STAT_RECOUNT then d
      else match d.readWords k 0 8 16 (t.g a) with
        | (d', ws, 0) =>
          (match d'.ctUpd op (ofBytes (ws.flatMap (toBytes 8))) (t.opnd b) with
          | (d', 0, st) => d'.cellEnds k c 0 (Thread.status dst st) d
          | (d', e, _) => d'.cellEnds k c e id d)
        | (d', _, e) => d'.accessFails k c e d

/-- CTSEAL (R337): drains while an MSORT accepted before is in progress; then closes the open batch. -/
def Device.iCtseal (k c dst : Nat) (d : Device) : Device :=
  d.onThread k c fun _ d =>
    if d.on CT_STAT_RECOUNT then d
    else if !d.on CT_CTL_EN then d.retireNext k c (Thread.status dst stDisabled)
    else if d.mot.slots.any fun s => s.owner.isSome then d
    else if !d.ct.leaves.isEmpty && 4 ≤ d.ct.closed.length then d
    else
      let n := d.get CT_BATCH_NUM
      let m := d.ct.leaves.length
      d.closeBatch.retireNext k c fun t => (t.setG ((dst + 1) % 16) n).status dst (m * 256)

end Sys2Proof.Machine
end

