-- ==== Sys2Proof/Machine/Engine.lean ====
section
/-! DEFINITION. Issue and the microcode engine of a cluster: fetch and dispatch, machine checks, save frames, asynchronous traps (R183, R188, R250 to R258, R434). -/

namespace Sys2Proof.Machine

/-! ### Machine checks (R257, R258) -/

/-- Fine steps of an hour. -/
def hourLen : Nat := 737280000000000

/-- A machine check of cluster `k` (R258, R434, R436): the first since the last reload is recorded; every thread halts, the channels are snuffed, LOADED falls, the cluster goes OUT; MCKLIM checks within MCKWIN hours bring the escalation reset. -/
def Device.machineCheck (k kind addr slices : Nat) (thr : Option Nat) (d : Device) : Device :=
  let d := if (d.clus k).on MCE_STAT_MCK then d else d.modCl k fun x =>
    (((((x.set MCE_MCKINFO_KIND kind).set MCE_MCKINFO_SLICE slices).set MCE_MCKINFO_ADDR addr).setB MCE_MCKTHR_VALID thr.isSome).set
      MCE_MCKTHR_THREAD (thr.getD 0)).set MCE_MCKDT_DT d.dt
  let d := d.stopCluster k 13
  let d := (d.modCl k (Cluster.setB MCE_STAT_MCK true)).raise (160 + k)
  let d := d.toOut k (d.on DEV_CTL_AUTOREJOIN)
  let win := max 1 (d.get DEV_RSTCFG_MCKWIN) * hourLen
  let ms := d.dt :: (d.clus k).mcks.filter fun t => d.dt < t + win
  let d := d.modCl k fun x => { x with mcks := ms }
  let lim := d.get DEV_RSTCFG_MCKLIM
  if lim != 0 && lim ≤ ms.length then d.escalate k else d

/-! ### Fetch and dispatch (R183, R188, R242, R250, R251) -/

/-- Does the routine of this word write the shadow set (R13): STEP, SETP, LIMIT, EXPECT, ENDC, IRANGE, FMT. -/
def writesShadow (w : Nat) : Bool :=
  let op := bits w 56 8
  op == 0x40 || op == 0x41 || op == 0x42 || (op == 0x43 && !bit w 39) || op == 0x44 || op == 0x45 || op == 0x4B

/-- An MSORT that has been issued takes its sort slot and creates its entries (R334). -/
def Device.sortIssued (k c w : Nat) (d : Device) : Device :=
  let g := (d.thread k c).g (bits w 48 4)
  if bits w 56 8 != 0x81 || (addrCause g 8).isSome || d.on CT_STAT_RECOUNT then d
  else match d.readWords k 0 8 8 g with
    | (d', ws, 0) => match d'.msortStart (64 * k + c) (ofBytes (ws.flatMap (toBytes 8))) with
      | (d'', 0) => d''
      | _ => d
    | _ => d

/-- Thread `c` issues word `w`: it is BUSY in the routine at `start`. -/
def Device.issue (k c w start : Nat) (own : Bool) (d : Device) : Device :=
  let d := d.modThr k c fun t =>
    { t.set SEQ_TSTAT_STATE 2 with issued := some w, budget := 0, micro := some { upc := start, own := own } }
  let d := d.modCl k fun x => { x with issued := x.issued + 1 }
  let d := if writesShadow w && !own then d.modChan (64 * k + c) (Chan.setB CH_RSTAT_STEP_TRANSITION true) else d
  if own then d else d.sortIssued k c w

/-- Row INSTRUCTION_FETCH (R183, R188, R251, R252, R259): a READY thread of a loaded cluster in service, with no asynchronous trap pending, fetches its next word; `mck` is a machine check that the engine finds at dispatch or in the first word: kind, address, slices. An opcode outside R189 runs the routine its dispatch entry names. -/
def Device.fetch (k c : Nat) (mck : Option (Nat × Nat × Nat)) (d : Device) : Device :=
  let x := d.clus k
  let t := d.thread k c
  if !x.on MCE_CTL_LOADED || d.clState k != 0 || t.state != 1 || t.issued.isSome || !t.traps.isEmpty then d
  else if x.get SEQ_PSIZE_WORDS ≤ t.pc then d.haltThread k c 3
  else match d.readMem k 3 (targetBase k + x.get SEQ_PBASE_BASE + 8 * t.pc) 8 with
    | (_, ⟨_, 3⟩) => d
    | (d', ⟨_, 2⟩) => d'.haltThread k c 7
    | (d', ⟨_, 1⟩) => d'.haltThread k c 5
    | (d', ⟨w, _⟩) =>
      let op := bits w 56 8
      let e := x.entry op
      match mck with
      | some (kind, addr, slices) => d'.machineCheck k kind addr slices (some c)
      | none =>
        if bit e 14 && !t.on SEQ_TCFG_PRIV then d'.haltThread k c 15
        else if !listedOp op && e % 8192 != 0x80 then d'.issue k c w (e % 8192) true
        else match decodeThread k c w with
          | none => d'.haltThread k c 2
          | some _ => d'.issue k c w (e % 8192) false

/-! ### Traps (R252 to R256) -/

/-- The save frame of thread `c` at trap level `lv` takes eight words (R254). -/
def Device.saveFrame (k c lv : Nat) (ws : List Nat) (d : Device) : Device :=
  let at_ := d.trapArea k + c * 0x100 + (lv - 1) * 0x40
  (ws.zipIdx.foldl (fun d e => (d.writeMem k 1 (at_ + 8 * e.2) 8 e.1 true).1) d)

/-- The words of a save frame (R254). -/
def frameWords (m : Micro) (restart boundary : Bool) (cause hook now : Nat) : List Nat :=
  let lo := m.upc % 8192 + b2n restart * 2 ^ 13 + b2n boundary * 2 ^ 14 + cause % 16 * 2 ^ 16 + m.locks % 256 * 2 ^ 24
  let hi := m.loop % 65536 + m.latch % 256 * 2 ^ 16 + hook % 256 * 2 ^ 24
  [lo + hi * 2 ^ 32, now, m.mt.getD 0 0, m.mt.getD 1 0, m.mt.getD 2 0, m.mt.getD 3 0, 0, 0]

/-- The context at the handler of `cause` (R253): latch and loop count 0, an empty micro-stack, the lock mask inherited. -/
def Micro.enterTrap (m : Micro) (cause : Nat) : Micro :=
  { m with
    upc := 8 * cause
    latch := 0
    loop := 0
    level := m.level + 1
    stack := []
    below := m.stack :: m.below
    inherited := m.locks :: m.inherited
    waitAt := none }

/-- Row ASYNC_TRAP (R252 to R254): the lowest pending cause of a thread is taken, with its frame. `point` is the safe point it is taken at, none at a routine's end: micro-PC, latch, loop count, lock mask, MT0 to MT7 of a routine that the instruction's row carries out. Where no command has written the vector's word the base handler acts as R252 says: BUDGET escalates, XREQ resumes; otherwise the handler's words run from the control store. -/
def Device.asyncTrap (k c : Nat) (point : Option (Nat × Nat × Nat × Nat × List Nat)) (d : Device) : Device :=
  let x := d.clus k
  let t := d.thread k c
  let cause := t.traps.foldl min 16
  let stored := x.csWritten (8 * cause)
  let inside := t.issued.isSome || t.wait.isSome || t.onStore
  if cause == 16 || t.state == 0 || !x.on MCE_CTL_LOADED || d.clState k != 0 || inside != point.isSome || (stored && t.wait.isSome) then d
  else if 4 ≤ t.level then d.machineCheck k 7 (match t.micro with | some m => m.upc | none => 0) 0 (some c)
  else
    let given := match point with | some (upc, latch, lc, locks, mt) => { upc := upc, latch := latch, loop := lc, locks := locks, mt := mt : Micro } | none => {}
    let m := match t.micro with | some m => if t.onStore then m else given | none => given
    let d := d.saveFrame k c (m.level + 1) (frameWords m false point.isNone cause 0 d.dt)
    let d := d.modCl k fun x =>
      let x := x.bump MCE_TRAPCNT_ASYNC 1
      if cause == 13 then x.set MCE_XREQ_MASK (setBit (x.get MCE_XREQ_MASK) c false) else x
    let d := d.modThr k c fun t => { t with traps := t.traps.filter fun i => decide (i ≠ cause) }
    if stored then
      d.modThr k c fun t =>
        let t := if t.state == 1 then t.set SEQ_TSTAT_STATE 2 else t
        { t with micro := some (m.enterTrap cause) }
    else if cause == 12 then d.useFree.machineCheck k 9 (d.freeVal % 8192) 0 (some c)
    else d

/-- Row BUDGET_EXCEEDED (R252): the routine in progress has executed more words than MCE_BUDGET allows; BUDGET is pending. -/
def Device.budgetExceeded (k c : Nat) (d : Device) : Device :=
  let t := d.thread k c
  if (d.clus k).on MCE_CTL_BUDGET_EN && t.active && !t.traps.contains 12 then
    d.modThr k c fun t => { t with traps := t.traps ++ [12] }
  else d

/-- Row ENGINE_WAIT_TIMEOUT (R248): an engine wait of the routine in progress, at word `addr`, has lasted 2 ms. -/
def Device.engineTimeout (k c addr : Nat) (d : Device) : Device :=
  if (d.thread k c).active && (d.clus k).on MCE_CTL_LOADED then d.machineCheck k 8 addr 0 (some c) else d

/-- Row CONTROL_STORE_SCRUB (R258): the scrubber has read the store; `bad` is a word whose parity fails: address, slices. -/
def Device.scrub (k : Nat) (bad : Option (Nat × Nat)) (d : Device) : Device :=
  let x := d.clus k
  match bad with
  | some (addr, slices) => if x.on MCE_CTL_LOADED && x.on MCE_CTL_SCRUB_EN then d.machineCheck k 10 addr slices none else d
  | none => d

end Sys2Proof.Machine
end

