-- ==== Sys2Proof/Machine/Micro.lean ====
section
/-! DEFINITION. Microwords that run from the control store: the fields of a word, its order of action, sequencing, conditions, waits, locks, synchronous traps and the return from a trap (R242 to R249, R252, R253, R255, R256). Routines of listed opcodes act as their instructions' rows say and do not run here. -/

namespace Sys2Proof.Machine

/-- A field of a microword (R244): `w` bits from bit `lo` on. -/
def mf (word lo w : Nat) : Nat := bits word lo w

/-! ### Operands (R244, R245 step 4) -/

/-- Field of the instruction word in progress. -/
def Thread.iw (t : Thread) : Nat := t.issued.getD 0

/-- A register-file port read by its GRF code. -/
def Thread.port (t : Thread) (code konst now : Nat) : Nat :=
  let w := t.iw
  let dst := bits w 52 4
  match code with
  | 1 => t.g dst | 2 => t.g (bits w 48 4) | 3 => t.g (bits w 44 4) | 4 => t.g (dst + 1) | 5 => t.l dst
  | 6 => t.flags | 7 => t.pc | 8 => uns 64 (sgn 32 w) | 9 => w | 0xA => t.get SEQ_TWSTAMP_DT
  | 0xB => if t.get SEQ_TSP_DEPTH = 0 then 0 else t.get (SEQ_TSTK_PC (t.get SEQ_TSP_DEPTH - 1))
  | 0xC => konst | 0xD => now
  | _ => 0

/-- The GRF write port (R244). -/
def Thread.portSet (t : Thread) (code v : Nat) : Thread :=
  let dst := bits t.iw 52 4
  match code with
  | 1 => t.setG dst v | 2 => t.setG (bits t.iw 48 4) v | 3 => t.setG (bits t.iw 44 4) v | 4 => t.setG (dst + 1) v
  | 5 => t.setL dst (v % 2 ^ 32) | 6 => t.setFlags (v % 64) | 7 => t.setPc (v % 2 ^ 19) | 0xA => t.set SEQ_TWSTAMP_DT v
  | 0xB => if t.get SEQ_TSP_DEPTH = 0 then t else t.set (SEQ_TSTK_PC (t.get SEQ_TSP_DEPTH - 1)) v
  | _ => t

/-- Result, CY and OV of the ALU (R244). DIVSTEP has no result in the spec: `fv`. -/
def aluOp (op : Nat) (s w32 : Bool) (a b fv : Nat) : Nat × Bool × Bool :=
  let n := if w32 then 32 else 64
  let a := a % 2 ^ n
  let b := b % 2 ^ n
  let fits := fun i : Int => -(2 ^ (n - 1) : Int) ≤ i && i < (2 ^ (n - 1) : Int)
  let p : Int := if s then sgn n a * sgn n b else (a * b : Nat)
  match op with
  | 0 => (a, false, false)
  | 1 => ((a + b) % 2 ^ n, 2 ^ n ≤ a + b, !fits (sgn n a + sgn n b))
  | 2 => (uns n (a - b), a < b, !fits (sgn n a - sgn n b))
  | 3 => (band a b, false, false)
  | 4 => (bor a b, false, false)
  | 5 => (bxor a b, false, false)
  | 6 => (uns n p, false, !(if s then fits p else decide (p < (2 ^ n : Nat))))
  | 7 => (uns n (p / (2 ^ n : Nat)), false, false)
  | 8 => (fv % 2 ^ n, false, false)
  | 9 => (if (if s then sgn n a < sgn n b else a < b) then a else b, false, false)
  | 0xA => (if (if s then sgn n a < sgn n b else a < b) then b else a, false, false)
  | 0xB => (uns 64 (sat n (sgn 64 a)), false, false)
  | 0xC => (uns 64 (sgn n a), false, false)
  | _ => (uns n (a - b), a < b, !fits (sgn n a - sgn n b))

/-- The value that the base handler of OVFL gives an overflowed ADD, SUB, CMP or MULLO (R252): the nearest one that the width holds, unsigned for an unsigned product. -/
def saturated (op : Nat) (s w32 : Bool) (a b : Nat) : Nat :=
  let n := if w32 then 32 else 64
  let x := sgn n a
  let y := sgn n b
  if op == 6 && !s then 2 ^ n - 1
  else uns n (sat n (if op == 1 then x + y else if op == 6 then x * y else x - y))

/-- The shifter (R244). -/
def shiftOp (kind amt v b : Nat) : Nat :=
  let n := if amt = 0 then b % 64 else [0, 1, 2, 3, 4, 7, 8, 13, 16, 24, 30, 32, 40, 48, 56, 63].getD amt 0
  match kind with
  | 1 => v * 2 ^ n % 2 ^ 64
  | 2 => v / 2 ^ n
  | 3 => uns 64 (asr (sgn 64 v) n)
  | _ => v

/-- Is a field that the word uses at a reserved value (R244). -/
def reservedWord (w : Nat) : Bool :=
  0xE ≤ mf w 156 4 || ((mf w 156 4 == 2 || mf w 156 4 == 3) && 0x20 ≤ mf w 150 6) || 0xE ≤ mf w 131 4 || 0xE ≤ mf w 127 4 ||
    (mf w 123 4 == 8 || mf w 123 4 == 9 || 0xC ≤ mf w 123 4) || 0xE ≤ mf w 119 4 || mf w 106 3 == 7 ||
    (mf w 106 3 != 0 && (mf w 100 3 == 7 || 4 ≤ mf w 97 3)) || 0xC ≤ mf w 93 4 || mf w 87 2 == 3 || 6 ≤ mf w 66 3 ||
    9 ≤ mf w 43 4 || 9 ≤ mf w 39 4 || 9 ≤ mf w 0 4 || !(mf w 9 6 ≤ 6 || (0x20 ≤ mf w 9 6 && mf w 9 6 ≤ 0x25))

/-- The resources that the unit fields of a word name (R249). -/
def namedLocks (w : Nat) : Nat :=
  b2n (mf w 93 4 != 0) + 2 * b2n (mf w 87 2 != 0) + 4 * b2n (mf w 79 2 != 0) + 8 * b2n (mf w 73 2 != 0) + 16 * b2n (mf w 66 3 != 0) +
    32 * b2n (mf w 7 2 != 0) + 64 * b2n (mf w 0 4 != 0)

/-! ### Conditions (R247) -/

/-- REQ: a host request, a quiesce or a redirect is pending for the thread. -/
def Device.reqPending (k c : Nat) (d : Device) : Bool :=
  let t := d.thread k c
  t.haltReq.isSome || t.redirect.isSome || (d.clus k).on SEQ_CTL_QUIESCE

def Device.microCond (k c : Nat) (code : Nat) (m : Micro) (r : Nat) (d : Device) : Bool :=
  let t := d.thread k c
  let x := d.chan (chanOf k c)
  match code with
  | 0x00 => true
  | 0x01 => bit m.latch 0 | 0x02 => bit m.latch 1 | 0x03 => bit m.latch 2 | 0x04 => bit m.latch 3
  | 0x05 => bit m.latch 4 | 0x06 => bit m.latch 5 | 0x07 => m.loop == 0
  | 0x08 => t.flag 0 | 0x09 => t.flag 1 | 0x0A => t.flag 2 | 0x0B => t.flag 3 | 0x0C => t.flag 4 | 0x0D => t.flag 5
  | 0x0E => condOf t x (bits t.iw 48 8)
  | 0x10 => d.reqPending k c
  | 0x11 => d.reqPending k c || (!t.traps.isEmpty && !bit ((d.clus k).entry (bits t.iw 56 8)) 15)
  | 0x12 => x.on CH_RSTAT_PEND | 0x13 => x.on CH_RSTAT_ENDED | 0x14 => x.on CH_SNFSTAT_SNUFFED
  | 0x15 => x.on CH_PSCTL_BUSY | 0x16 => x.on CH_RSTAT_FROZEN | 0x17 => (d.capt (chanOf k c)).state != 0
  | 0x18 => x.avgV.isSome | 0x19 => x.avgI.isSome | 0x1A => x.on CH_ZSTAT_BUSY
  | 0x1B => t.get SEQ_TSP_DEPTH == 16 | 0x1C => t.get SEQ_TSP_DEPTH == 0 | 0x1D => t.on SEQ_TCFG_PRIV
  | 0x1E => decide (r ≤ d.dt) | 0x1F => 64 ≤ (d.clus k).records.length
  | _ => false

/-! ### Locks (R249) -/

/-- The lock mask of another context that stands in the way: channel resources never do, cluster resources of the same cluster, MOT of any. -/
def Device.lockedBy (k c : Nat) (d : Device) : Nat :=
  (List.range 16).foldl (fun a j =>
    (List.range 64).foldl (fun a i =>
      if j = k && i = c then a
      else match (d.thread j i).micro with
        | some m => bor a (band m.locks (if j = k then 0xF0 else 0x40))
        | none => a) a) 0

/-- Has an earlier request for one of these locks not been granted yet. -/
def Device.lockAhead (k c : Nat) (d : Device) : Bool :=
  match d.lockQ with
  | [] => false
  | e :: _ => e.1 == k && e.2 != c

/-! ### The units (R244, R245 step 7) -/

/-- The eight 4-byte words of a burst in MT0 to MT3. -/
def Micro.burst (m : Micro) : List Nat := (List.range 8).map fun i => bits (m.mt.getD (i / 2) 0) (32 * (i % 2)) 32

def Device.microShadow (n tgt idx r : Nat) (m : Micro) (d : Device) : Device :=
  let edit := fun (f : StepSet → StepSet) => d.modChan n (Chan.editShadow f)
  match tgt with
  | 1 => edit fun s => { s with regs := (fieldsAt setRegs 0).1.foldl (fun g f => if f.acc = .ro && f.lo = 31 then g else g.set f (bits r f.lo f.width)) s.regs }
  | 2 => edit fun s => if idx == 4 then s.putCtl r else if idx < 4 then { s with regs := s.regs.set (SET_SP_V idx) (r % 2 ^ 32) } else s
  | 3 => edit (StepSet.putLoop m.burst)
  | 4 => edit fun s => { s with regs := s.regs.set (SET_FW_W idx) (r % 2 ^ 32) }
  | 5 => edit fun s => { s with regs := (m.burst.zipIdx).foldl (fun g e => g.set (SET_FW_W e.2) e.1) s.regs }
  | 6 => edit fun s => { s with regs := s.regs.set SET_MODE_IRANGE (r % 2) }
  | 7 => d.modChan n (Chan.stage d.dt (idx % 4))
  | 8 => d.startRange n (r % 4) none
  | 9 => d.modChan n (Chan.set CH_PSCTL_SOFT (min r 65535))
  | 0xA => d.snuffCh 19 n
  | 0xB => (d.rearm n).1
  | _ => d

/-- The unit fields of word `w` act with result `r`; the data of a status read replace it. MOT has no operation that the spec numbers. -/
def Device.microUnits (k c w a r : Nat) (m : Micro) (d : Device) : Device × Nat :=
  let n := chanOf k c
  let d := d.microShadow n (mf w 93 4) (mf w 89 4) r m
  let d := match mf w 87 2 with
    | 1 => d.modChan n (Chan.armSlot (mf w 85 2) (mf w 83 2) r (r % 256) d.dt)
    | 2 => d.modChan n fun x => (x.set (CH_ESCTL_ACT (mf w 85 2)) 0).slotWritten (mf w 85 2) d.dt
    | _ => d
  let comp := mf w 77 2
  let d := match mf w 79 2 with
    | 1 => d.modChan n (Chan.editShadow fun s => { s with lim := setPad 6 comp 0 (r % 2 ^ 32) s.lim })
    | 2 => d.modChan n (Chan.editShadow fun s => { s with lim := setPad 6 (4 + comp / 2) 0 (r % 2 ^ 12) s.lim })
    | 3 => d.modChan n (Chan.editShadow (StepSet.putLim m.burst))
    | _ => d
  let e := bits (d.thread k c).iw 32 4
  let (d, r) := match mf w 73 2 with
    | 1 => (d.modChan n (Chan.editShadow fun s => { s with exps := setPad 16 e [] (setPad 6 (mf w 69 4) 0 r (s.exps.getD e [])) s.exps }), r)
    | 2 =>
      let b := m.burst
      let ent := [b.getD 0 0, b.getD 1 0, b.getD 2 0, b.getD 3 0, b.getD 4 0 + b.getD 5 0 * 2 ^ 32, b.getD 6 0 + b.getD 7 0 * 2 ^ 32]
      (d.modChan n (Chan.editShadow fun s => { s with exps := setPad 16 e [] ent s.exps }), r)
    | 3 => (d, (d.chan n).get CH_XSTAT_FAILED)
    | _ => (d, r)
  let (d, r) := match mf w 66 3 with
    | 1 => d.capArm n (r % 256)
    | 2 => (d.capDisarm n, r)
    | 3 => (d.forceCap n d.dt, r)
    | 4 => (d.capMark n (r % 2 ^ 32), r)
    | 5 => (d, (d.capt n).get CAP_STAT_STATE)
    | _ => (d, r)
  let d := match mf w 61 2 with
    | 1 => if reservedSource (r % 512) then d else d.raise (r % 512)
    | 2 => d.ring (r % 32) (a % 2 ^ 32)
    | _ => d
  let arg := mf w 47 5
  let (d, r) := match mf w 52 3 with
    | 3 => (d.modChan n fun x => { x with ai := 0 }, r)
    | 4 =>
      let q := accWhole (d.chan n).qtot
      let g := accWhole (d.chan n).etot
      (d.modChan n fun x => { x with qtot := x.qtot - q * (2 ^ 32 : Nat), etot := x.etot - g * (2 ^ 32 : Nat) }, uns 64 q)
    | 5 => (d.modChan n Chan.clearTotals, r)
    | 6 => ((d.impedRequest n (max 1 (r % 65536))).1, r)
    | 7 => (d.startAverage n (bit arg 0) (bit arg 1) (measCount r), r)
    | _ => (d, r)
  let u := mf w 4 3
  let d := match mf w 7 2 with
    | 1 => d.modSti k u (Sti.arm d.dt)
    | 2 => d.modSti k u Sti.disarm
    | 3 => d.modSti k u fun s => let s := s.disarm; { s with regs := writeWord s.regs (STI_CTL.fields []) false false 0 (r % 2 ^ 13) }
    | _ => d
  (d, r)

/-! ### The bank operation (R244, R245 step 6) -/

/-- The address formed from the ADDR field. -/
def Device.microAddr (k c w r : Nat) (m : Micro) (d : Device) : Nat :=
  let konst := mf w 23 16
  let base := match mf w 100 3 with
    | 0 => r
    | 1 => m.mt.getD (mf w 39 4 - 1) 0
    | 2 => targetBase k
    | 3 => targetBase k + (d.clus k).get SEQ_PBASE_BASE
    | 4 => 0x42080000 + 0x100000 * k + 0x800 * c
    | 5 => d.trapArea k + c * 0x100 + (m.level - 1) * 0x40
    | _ => 0x42000000 + 0x100000 * k
  let ofs : Int := match mf w 97 3 with
    | 1 => konst
    | 2 => (konst * c : Nat)
    | 3 => konst + sgn 32 (d.thread k c).iw
    | _ => 0
  uns 40 (base + ofs)

/-- The bank operation of a word: data, error (3 stalled), MT0 to MT7 after a burst. -/
def Device.microBank (k c w r b : Nat) (m : Micro) (d : Device) : Device × Nat × Nat × List Nat :=
  let a := d.microAddr k c w r m
  let n := accSize (mf w 104 2)
  let sext := bit w 103
  let frame := mf w 100 3 == 5
  let put := fun (a n v : Nat) (d : Device) => if targetOf a == some 21 then d.busWrite k a n v else d.writeMem k 1 a n v frame
  match mf w 106 3 with
  | 1 =>
    let (d', x) := if frame then (d, (⟨d.rd a n, 0⟩ : Ans)) else d.busRead k a n
    (d', extend n sext x.data, x.err, m.mt)
  | 2 => match put a n b d with | (d', x) => (d', r, x.err, m.mt)
  | 3 => match d.atomicMem k a n (· + b) with | (d', x) => (d', extend n sext x.data, x.err, m.mt)
  | 4 => match d.atomicMem k a n (fun _ => b) with | (d', x) => (d', extend n sext x.data, x.err, m.mt)
  | 5 => match d.readWords k 4 8 4 a with
    | (d', ws, e) => (d', r, e, if e == 0 then ws ++ m.mt.drop 4 else m.mt)
  | 6 => ((List.range 4).foldl (fun (x : Device × Nat × Nat × List Nat) i =>
      if x.2.2.1 != 0 then x else match x.1.writeMem k 5 (a + 8 * i) 8 (m.mt.getD i 0) frame with | (d', y) => (d', r, y.err, m.mt)) (d, r, 0, m.mt))
  | _ => (d, r, 0, m.mt)

/-! ### Synchronous traps and the return (R252 to R255) -/

def Device.setMicro (k c : Nat) (m : Micro) (d : Device) : Device := d.modThr k c fun t => { t with micro := some m }

/-- A synchronous trap whose vector a command has written: frame with RESTART, next level. -/
def Device.syncTrap (k c cause hook : Nat) (m : Micro) (d : Device) : Device :=
  if 4 ≤ m.level then d.machineCheck k 7 m.upc 0 (some c)
  else
    let d := d.saveFrame k c (m.level + 1) (frameWords m true false cause hook d.dt)
    (d.modCl k (Cluster.bump MCE_TRAPCNT_SYNC 1)).setMicro k c (m.enterTrap cause)

/-- The level falls to 0 at a routine's end: requests held until then act (R255). -/
def Device.levelZero (k c : Nat) (boundary : Bool) (d : Device) : Device :=
  if boundary then d.retire k c id else d

/-- TRAPRET (R253): the context comes back from the frame in memory. -/
def Device.trapReturn (k c : Nat) (m : Micro) (d : Device) : Device :=
  if m.level = 0 then d.machineCheck k 3 m.upc 0 (some c)
  else
    let at_ := d.trapArea k + c * 0x100 + (m.level - 1) * 0x40
    let lo := d.rd at_ 4
    let hi := d.rd (at_ + 4) 4
    let m' : Micro :=
      { m with
        upc := bits lo 0 13
        locks := bits lo 24 8
        loop := bits hi 0 16
        latch := bits hi 16 8
        mt := (List.range 4).map (fun i => d.rd (at_ + 0x10 + 8 * i) 8) ++ m.mt.drop 4
        level := m.level - 1
        stack := m.below.headD []
        below := m.below.drop 1
        inherited := m.inherited.drop 1
        waitAt := none
        waited := false }
    (d.setMicro k c m').levelZero k c (m'.level = 0 && bit lo 14)

/-! ### One word (R245, R246) -/

/-- Where SEQ sends the context of a word that has acted; the flag says that the turn goes on. -/
def Device.microNext (k c w r : Nat) (wrotePc : Bool) (m : Micro) (d : Device) : Device × Bool :=
  let br := mf w 137 13
  let next := (m.upc + 1) % 8192
  let cond := d.microCond k c (mf w 150 6) m r
  let go := fun (u : Nat) => (d.setMicro k c { m with upc := u }, true)
  let handler := 0 < m.level
  match mf w 156 4 with
  | 0 => go next
  | 1 => go br
  | 2 => go (if cond then br else next)
  | 3 => go (if cond then next else br)
  | 4 => if 2 ≤ m.stack.length then (d.machineCheck k 4 m.upc 0 (some c), false)
      else (d.setMicro k c { m with upc := br, stack := next :: m.stack }, true)
  | 5 => match m.stack with
    | [] => (d.machineCheck k 4 m.upc 0 (some c), false)
    | u :: st => (d.setMicro k c { m with upc := u, stack := st }, true)
  | 6 => if 1 < m.loop then (d.setMicro k c { m with upc := br, loop := m.loop - 1 }, true)
      else (d.setMicro k c { m with upc := next, loop := 0 }, true)
  | 7 => (d.setMicro k c { m with upc := next, loop := mf w 23 16 }, true)
  | 8 => go (bor br (r % 16))
  | 9 => if handler then (d.machineCheck k 3 m.upc 0 (some c), false)
      else (d.retire k c fun t => if wrotePc then t else t.setPc (t.pc + 1), false)
  | 0xA => if handler then (d.machineCheck k 3 m.upc 0 (some c), false)
      else if mf w 23 5 == 1 then ((d.modThr k c fun t => t.setPc (t.pc + 1)).haltThread k c 1, false)
      else (d.haltThread k c (mf w 23 5), false)
  | 0xB => if handler then (d.machineCheck k 3 m.upc 0 (some c), false) else (d.retire k c id, false)
  | 0xC => go next
  | _ => (d.trapReturn k c m, false)

/-- The condition of WAIT codes 0x01 to 0x06 (R248): accesses, events, captures and units of this model have ended with the word that made them. -/
def Device.engineReady (k c code : Nat) (d : Device) : Bool := code != 6 || !(d.chan (chanOf k c)).on CH_PSCTL_BUSY

/-- The instruction wait of WAIT codes 0x20 to 0x25 (R248). -/
def Device.microWait (w r : Nat) (m : Micro) (d : Device) : Option Wait :=
  let due := m.mt.getD 0 0
  match mf w 9 6 with
  | 0x20 => some ⟨.cond (mf w 23 4) r, if due = 0 then none else some due, d.dt⟩
  | 0x21 => some ⟨.until_, some due, d.dt⟩
  | 0x22 => some ⟨.sync (mf w 23 4) r, none, d.dt⟩
  | 0x23 => some ⟨.meas (bit w 23) 0, none, d.dt⟩
  | 0x24 => some ⟨.psEnd, none, d.dt⟩
  | 0x25 => some ⟨.imped, none, d.dt⟩
  | _ => none

/-- The word acts: ALU, bank, units, writes, next address (R245 steps 4 to 9). -/
def Device.microAct (k c w : Nat) (m : Micro) (d : Device) : Device × Bool :=
  let t := d.thread k c
  let konst := mf w 23 16
  let a := t.port (mf w 131 4) konst d.dt
  let b := if mf w 39 4 = 0 then t.port (mf w 127 4) konst d.dt else m.mt.getD (mf w 39 4 - 1) 0
  let op := mf w 119 4
  let (v, cy, ov) := aluOp op (bit w 118) (bit w 115) a b d.freeVal
  let d := if op == 8 then d.useFree else d
  let stored := fun (cause : Nat) => bit w 136 && (d.clus k).csWritten (8 * cause)
  if ov && bit w 117 && stored 4 then (d.syncTrap k c 4 0 m, false)
  else if mf w 156 4 == 0xC && stored 9 then (d.syncTrap k c 9 (mf w 23 8) m, false)
  else
    let v := if ov && bit w 117 && bit w 136 then saturated op (bit w 118) (bit w 115) a b else v
    let r := shiftOp (mf w 113 2) (mf w 109 4) v b
    let x := d.microAddr k c w r m
    if mf w 106 3 != 0 && targetOf x == some 20 && d.ddrFull x && stored 1 then (d.syncTrap k c 1 0 m, false)
    else
    match d.microBank k c w r b m with
    | (_, _, 3, _) => (d.setMicro k c { m with waitAt := some (m.waitAt.getD d.dt) }, false)
    | (d, r, e, mt) =>
      if mf w 61 2 == 3 then (d.machineCheck k 9 m.upc 0 (some c), false)
      else
        match d.microUnits k c w a r { m with mt := mt } with
        | (d, r) =>
          let flags := b2n (v % 2 ^ 64 == 0) + 2 * b2n (bit v (if bit w 115 then 31 else 63)) + 4 * b2n cy + 8 * b2n ov
          let latch := if bit w 117 then setBits m.latch 0 4 flags else m.latch
          let latch := if mf w 106 3 = 0 then latch else setBit (setBit latch 4 (e == 1)) 5 (e == 2)
          let mt := if mf w 43 4 = 0 then mt else mt.set (mf w 43 4 - 1) r
          let d := d.modThr k c fun t =>
            let t := if bit w 116 then t.setFlags (setBits t.flags 0 4 flags) else t
            if op == 0xD then t else t.portSet (mf w 123 4) (r % 2 ^ 64)
          let m := { m with mt := mt, latch := latch, locks := bor m.locks (mf w 15 8), waitAt := none, waited := false }
          d.microNext k c w r (mf w 123 4 == 7) m

/-- One word of the context of thread `c` (R243 to R249, R256). The flag says that the turn goes on. -/
def Device.microWord (k c : Nat) (d : Device) : Device × Bool :=
  let t := d.thread k c
  match t.micro with
  | none => (d, false)
  | some m =>
    let x := d.clus k
    let w := x.csAt m.upc
    let par := bxor (bits w 160 10) (wordParity (w % 2 ^ 160))
    let want := mf w 15 8
    let inh := m.inherited.headD 0
    let mine := band m.locks (bxor inh 0xFF)
    if par != 0 then (d.machineCheck k 1 m.upc par (some c), false)
    else if reservedWord w then (d.machineCheck k 3 m.upc 0 (some c), false)
    else if 0 < m.level && band (bor want (namedLocks w)) inh != 0 then (d.machineCheck k 6 m.upc 0 (some c), false)
    else if want != 0 && mine != 0 then (d.machineCheck k 5 m.upc 0 (some c), false)
    else if want != 0 && (band want (d.lockedBy k c) != 0 || d.lockAhead k c) then
      ({ d with lockQ := if d.lockQ.contains (k, c) then d.lockQ else d.lockQ ++ [(k, c)] }, false)
    else
      let d := { d with lockQ := d.lockQ.filter fun e => decide (e ≠ (k, c)) }
      let code := mf w 9 6
      let r := t.port (mf w 131 4) (mf w 23 16) d.dt
      match (if m.waited then none else d.microWait w r m) with
      | some wt =>
        (d.modThr k c fun t => { t.enter 3 with wait := some wt, micro := some { m with locks := bor m.locks want } }, false)
      | none =>
        if !d.engineReady k c code then
          let since := m.waitAt.getD d.dt
          if since + 2 * 204800000 ≤ d.dt then (d.machineCheck k 8 m.upc 0 (some c), false)
          else (d.setMicro k c { m with waitAt := some since }, false)
        else
          let long := bit (x.entry (bits t.iw 56 8)) 13 && m.own
          let n := if bit w 135 then 0 else m.safe + 1
          let lim := max 1 (x.get MCE_BUDGET_WORDS) * 64
          if long && 64 < n then (d.machineCheck k 11 m.upc 0 (some c), false)
          else
            let d := d.modThr k c fun t =>
              { t with
                budget := t.budget + 1
                traps := if lim < t.budget + 1 && x.on MCE_CTL_BUDGET_EN && !t.traps.contains 12 then t.traps ++ [12] else t.traps }
            d.microAct k c w { m with safe := n }

/-- One turn of a context: at most four words (R242). -/
def Device.microTurn (k c : Nat) : Nat → Device → Device
  | 0, d => d
  | n + 1, d =>
    if !(d.thread k c).onStore || (d.thread k c).wait.isSome then d
    else match d.microWord k c with
      | (d, true) => Device.microTurn k c n d
      | (d, false) => d

/-- One turn of every context whose words run from the control store (R242). -/
def Device.microTurns (d : Device) : Device :=
  (List.range 16).foldl (fun d k =>
    if !(d.clus k).on MCE_CTL_LOADED || !(d.clus k).thr.any Thread.onStore then d
    else (List.range 64).foldl (fun d c => d.microTurn k c 4) d) d

end Sys2Proof.Machine
end

