-- ==== Sys2Proof/Machine/State.lean ====
section
/-! DEFINITION. The state of the block: the commands that wait, first in first out, and the device; and how a step may stop. -/

namespace Sys2Proof.Machine

/-- The machine: the queue of the waiting commands, and the device with every register, memory and unit the spec gives it. -/
structure State where
  pending : List Instr := []
  dev : Device := {}
deriving DecidableEq, Repr

/-- Reasons to stop with a fault. The spec gives none: every access and event it calls an error has an effect of its own (an error response, a halted thread, an interrupt). -/
inductive Fault where
  /-- Raised by nothing: the queue's front is always a command with a meaning. Safe. -/
  | stuck
deriving DecidableEq, Repr

/-- Reasons to refuse. -/
inductive Refusal where
  /-- The command `mnemonic` has no meaning in this model. Raised only by an arm of `exec` that says so (none does); safe. -/
  | notModelled (mnemonic : String)
deriving DecidableEq, Repr

/-- The machine right after power-on reset (R468): no command waits; every register at its reset value, the part provisioned, the firmware about to boot. -/
def State.reset : State := { pending := [], dev := ({} : Device).setB SEC_STAT_PROV true }

end Sys2Proof.Machine
end

