-- ==== Sys2Proof/Machine/Ops.lean ====
section
/-! DEFINITION. How a command acts on the state, the addresses of the register map (R465, R469 to R471), register accesses as commands, and what one tick does while no command waits. -/

namespace Sys2Proof.Machine

/-! ### Commands on the state -/

/-- A change of the device that the capture engines watch (R275). -/
def State.apply (s : State) (f : Device → Device) : State := { s with dev := s.dev.watch (f s.dev) }

/-- A command of the core: it acts while the core is powered and out of DOZE (R41, R423, R427). -/
def State.run (s : State) (f : Device → Device) : Host.Outcome State Fault Refusal :=
  .next (if s.dev.pw.phase = 2 then s.apply f else s)

/-- A command that a power-fail sequence in progress shuts out as well (R45). -/
def State.runHost (s : State) (f : Device → Device) : Host.Outcome State Fault Refusal :=
  .next (if s.dev.pw.phase = 2 ∧ s.dev.pw.failAt = none then s.apply f else s)

/-- A command of the supplies or of the Pilot domain: the core need not be powered (R41, R439). -/
def State.runPower (s : State) (f : Device → Device) : Host.Outcome State Fault Refusal := .next (s.apply f)

/-! ### Addresses (R465, R469 to R471) -/

/-- Device blocks, AFE block `a`, cluster block `k`. -/
def devAddr (off : Nat) : Nat := 0x40000000 + off
def afeAddr (a off : Nat) : Nat := 0x41000000 + 0x10000 * a + off
def clAddr (k off : Nat) : Nat := 0x42000000 + 0x100000 * k + off
/-- Thread `c` of cluster `k`, capture and channel `n`, interval unit `u` of cluster `k`, drive-link group `g`. -/
def thrAddr (k c off : Nat) : Nat := clAddr k (0x1000 + 0x100 * c + off)
def capAddr (n off : Nat) : Nat := clAddr (n / 64) (0x21000 + 0x40 * (n % 64) + off)
def stiAddr (k u off : Nat) : Nat := clAddr k (0x30000 + 0x80 * u + off)
def grpAddr (g off : Nat) : Nat := clAddr (g / 8) (0x40000 + 0x1000 * (g % 8) + off)
def chAddr (n off : Nat) : Nat := clAddr (n / 64) (0x80000 + 0x800 * (n % 64) + off)

/-! ### Register accesses as commands -/

/-- Master `m` writes the 32-bit word `v` at `a` and receives the response (R2, R4, R346). -/
def Device.writeReg (m a v : Nat) (d : Device) : Device :=
  match d.busWrite m a 4 v with | (d, r) => { d with resp := [⟨m, a, [], r.err⟩] }

/-- Master `m` reads the 32-bit word at `a` and receives the response (R2, R4, R346). -/
def Device.readReg (m a : Nat) (d : Device) : Device :=
  match d.busRead m a 4 with | (d, r) => { d with resp := [⟨m, a, [r.data], r.err⟩] }

/-- The word at `a` with what its RW and RWL fields hold; every other field 0. -/
def Device.keptWord (a : Nat) (d : Device) : Nat :=
  match regLoc a with
  | some (u, off) =>
    let (fs, h, _) := fieldsOf u off
    wordOf (d.file u) (fs.filter fun f => f.acc == .rw || f.acc == .rwl) h
  | none => 0

/-- Master `m` writes `v` to bits [lo + w − 1 : lo] of the word at `a`; the other RW and RWL fields are written as they stand, and every other field is written 0. -/
def Device.writeField (m a lo w v : Nat) (d : Device) : Device := d.writeReg m a (setBits (d.keptWord a) lo w v)

/-! ### The tick -/

/-- The W1S command fields of channels and captures read 0 again (R472). -/
def Device.commandsDone (d : Device) : Device :=
  let d := d.setB DEV_SNFCMD_ALL false
  let d := d.mapChans (fun _ => true) fun c => ((c.setB CH_SNFCTL_SNUFF false).setB CH_SNFCTL_REARM false).setB CH_ACCCTL_CLRTOT false
  let cl := d.cl.map fun (x : Cluster) => { x with cap := x.cap.map fun u => u.setB CAP_FORCE_TRIG false }
  { d with cl := cl }

/-- What one tick does while no command waits: device time advances while it is valid and its oscillator is locked (R6, R50), the Pilot clock runs (R439), command fields clear, writes that the capture engines hold leave (R279), and each routine that runs from the control store takes its turn (R242). Without core power only the Pilot clock runs. -/
def Device.tick (d : Device) : Device :=
  if d.pw.phase = 2 then
    let d := if d.on TB_STAT_DT_VALID && bit (d.get TB_ISLOCK_LOCK) 0 then d.tickDt else d
    ((d.pilotRun 128).commandsDone).flushStages.microTurns
  else d.pilotTick

end Sys2Proof.Machine
end

