-- ==== Sys2Proof/Machine/RowsAfe.lean ====
section
/-! DEFINITION. The meanings of the rows of conversions, calibration, window comparators, averages and interval units (R77 to R121). -/

namespace Sys2Proof.Machine

/-- Row HALF_RAMP_START (R82). -/
def execHalfRampStart (a : Nat) (s : State) : Host.Outcome State Fault Refusal :=
  s.run fun d => d.halfRampStarts a

/-- Row HALF_RAMP_END (R87). -/
def execHalfRampEnd (a : Nat) (stamps : List Nat) (clips : List (Nat × Bool × Bool)) (s : State) : Host.Outcome State Fault Refusal :=
  s.run fun d => d.halfRampEnd a stamps clips

/-- Row CONVERSION (R88). -/
def execConversion (n : Nat) (isI : Bool) (falling : Bool) (merged : Bool) (stamp : Nat) (stamps : List Nat) (s : State) : Host.Outcome State Fault Refusal :=
  s.run fun d => d.conversion n isI falling merged stamp stamps

/-- Row TAPER_GRID_WRITE (R83). -/
def execTaperGridWrite (m : Nat) (a : Nat) (phase : Bool) (v : Nat) (s : State) : Host.Outcome State Fault Refusal :=
  s.run fun d => d.writeReg m (afeAddr a (if phase then 8 else 4)) v

/-- Row TAPER_RETIME (R83). -/
def execTaperRetime (a : Nat) (s : State) : Host.Outcome State Fault Refusal :=
  s.run fun d => d.retime a

/-- Row TAPER_EN_SET (R84). -/
def execTaperEnSet (m : Nat) (a : Nat) (s : State) : Host.Outcome State Fault Refusal :=
  s.run fun d => d.writeField m (afeAddr a 0) 0 1 1

/-- Row TAPER_EN_CLEAR (R84). -/
def execTaperEnClear (m : Nat) (a : Nat) (s : State) : Host.Outcome State Fault Refusal :=
  s.run fun d => d.writeField m (afeAddr a 0) 0 1 0

/-- Row TAPER_STOP (R84). -/
def execTaperStop (a : Nat) (s : State) : Host.Outcome State Fault Refusal :=
  s.run fun d => d.taperEnds a

/-- Row CAL_ROUND (R97). -/
def execCalRound (a : Nat) (s : State) : Host.Outcome State Fault Refusal :=
  s.run fun d => d.calRound a

/-- Row CAL_COEF_LOAD (R98). -/
def execCalCoefLoad (a : Nat) (ar : Int) (af : Int) (b : Int) (ar2 : Int) (af2 : Int) (b2 : Int) (s : State) : Host.Outcome State Fault Refusal :=
  s.run fun d => d.calCoefLoad a ar af b ar2 af2 b2

/-- Row CAL_OP_ROUND (R104). -/
def execCalOpRound (m : Nat) (a : Nat) (mask : Nat) (s : State) : Host.Outcome State Fault Refusal :=
  s.run fun d => d.writeReg m (afeAddr a 0x64) (1 + mask % 256 * 2 ^ 16)

/-- Row CAL_OP_TRACE_TAP (R100). -/
def execCalOpTraceTap (m : Nat) (a : Nat) (tap : Nat) (mask : Nat) (s : State) : Host.Outcome State Fault Refusal :=
  s.run fun d => d.writeReg m (afeAddr a 0x64) (2 + tap % 16 * 2 ^ 8 + mask % 256 * 2 ^ 16)

/-- Row CAL_OP_TRACE_ICAL_H (R100). -/
def execCalOpTraceIcalH (m : Nat) (a : Nat) (mask : Nat) (s : State) : Host.Outcome State Fault Refusal :=
  s.run fun d => d.writeReg m (afeAddr a 0x64) (3 + mask % 256 * 2 ^ 16)

/-- Row CAL_OP_TRACE_ICAL_L (R100). -/
def execCalOpTraceIcalL (m : Nat) (a : Nat) (mask : Nat) (s : State) : Host.Outcome State Fault Refusal :=
  s.run fun d => d.writeReg m (afeAddr a 0x64) (4 + mask % 256 * 2 ^ 16)

/-- Row CAL_OP_COMMIT (R100). -/
def execCalOpCommit (m : Nat) (a : Nat) (mask : Nat) (s : State) : Host.Outcome State Fault Refusal :=
  s.run fun d => d.writeReg m (afeAddr a 0x64) (5 + mask % 256 * 2 ^ 16)

/-- Row CAL_OP_DISCARD (R100). -/
def execCalOpDiscard (m : Nat) (a : Nat) (mask : Nat) (s : State) : Host.Outcome State Fault Refusal :=
  s.run fun d => d.writeReg m (afeAddr a 0x64) (6 + mask % 256 * 2 ^ 16)

/-- Row TRACE_DONE (R100). -/
def execTraceDone (a : Nat) (delta : Int) (outside : Bool) (sq : Nat) (s : State) : Host.Outcome State Fault Refusal :=
  s.run fun d => d.traceDone a delta outside sq

/-- Row CAL_CANDIDATE_EXPIRE (R100). -/
def execCalCandidateExpire (a : Nat) (s : State) : Host.Outcome State Fault Refusal :=
  s.run fun d => d.calExpire a

/-- Row CH_FLG_READ (R105). -/
def execChFlgRead (m : Nat) (n : Nat) (isI : Bool) (s : State) : Host.Outcome State Fault Refusal :=
  s.run fun d => d.readReg m (chAddr n (if isI then 0x120 else 0x110))

/-- Row WINDOW_TRANSITION (R109). -/
def execWindowTransition (n : Nat) (k : Nat) (into : Bool) (unc : Bool) (merged : Bool) (t : Nat) (s : State) : Host.Outcome State Fault Refusal :=
  s.run fun d => d.windowTransition n k into unc merged t

/-- Row WINDOW_MASK_END (R110). -/
def execWindowMaskEnd (n : Nat) (k : Nat) (now : Bool) (s : State) : Host.Outcome State Fault Refusal :=
  s.run fun d => d.windowMaskEnd n k now

/-- Row WFINFO_READ (R115). -/
def execWfinfoRead (m : Nat) (n : Nat) (s : State) : Host.Outcome State Fault Refusal :=
  s.run fun d => d.readReg m (chAddr n 0x1A0)

/-- Row STI_ARM (R119). -/
def execStiArm (m : Nat) (k : Nat) (u : Nat) (s : State) : Host.Outcome State Fault Refusal :=
  s.run fun d => d.writeReg m (stiAddr k u 0x10) 1

/-- Row STI_DISARM (R119). -/
def execStiDisarm (m : Nat) (k : Nat) (u : Nat) (s : State) : Host.Outcome State Fault Refusal :=
  s.run fun d => d.writeReg m (stiAddr k u 0x10) 2

/-- Row STI_DONE (R121). -/
def execStiDone (k : Nat) (u : Nat) (s : State) : Host.Outcome State Fault Refusal :=
  s.run fun d => d.stiDone k u

/-- Row STI_TIMEOUT (R121). -/
def execStiTimeout (k : Nat) (u : Nat) (s : State) : Host.Outcome State Fault Refusal :=
  s.run fun d => d.stiTimeout k u

/-- Row AFE_SKCMD_GO (R124). -/
def execAfeSkcmdGo (m : Nat) (a : Nat) (mask : Nat) (s : State) : Host.Outcome State Fault Refusal :=
  s.run fun d => d.writeReg m (afeAddr a 0x80) (1 + mask % 256 * 2 ^ 16)

/-- Row DESKEW_LOAD (R124). -/
def execDeskewLoad (n : Nat) (isI : Bool) (sum : Int) (s : State) : Host.Outcome State Fault Refusal :=
  s.run fun d => d.deskewLoad n isI sum

/-- Row AVERAGE_DONE (R229). -/
def execAverageDone (n : Nat) (isI : Bool) (s : State) : Host.Outcome State Fault Refusal :=
  s.run fun d => d.averageDone n isI

end Sys2Proof.Machine
end

