-- ==== Sys2Proof/Machine/RowsBus.lean ====
section
/-! DEFINITION. The meanings of the rows of register accesses by a master, and the lock (chapter 0). -/

namespace Sys2Proof.Machine

/-- Row REG_WRITE (R4). -/
def execRegWrite (m : Nat) (addr : Nat) (v : Nat) (s : State) : Host.Outcome State Fault Refusal :=
  s.run fun d => d.writeReg m addr v

/-- Row REG_PAIR_LOW_READ (R2). -/
def execRegPairLowRead (m : Nat) (addr : Nat) (s : State) : Host.Outcome State Fault Refusal :=
  s.run fun d => d.readReg m addr

/-- Row REG_PAIR_LOW_WRITE (R2). -/
def execRegPairLowWrite (m : Nat) (addr : Nat) (v : Nat) (s : State) : Host.Outcome State Fault Refusal :=
  s.run fun d => d.writeReg m addr v

/-- Row REG_PAIR_HIGH_WRITE (R2). -/
def execRegPairHighWrite (m : Nat) (addr : Nat) (v : Nat) (s : State) : Host.Outcome State Fault Refusal :=
  s.run fun d => d.writeReg m addr v

/-- Row REG_RC_READ (R4). -/
def execRegRcRead (m : Nat) (addr : Nat) (s : State) : Host.Outcome State Fault Refusal :=
  s.run fun d => d.readReg m addr

/-- Row LOCK_SET (R5). -/
def execLockSet (m : Nat) (s : State) : Host.Outcome State Fault Refusal :=
  s.run fun d => d.writeField m (devAddr 0x4) 0 1 1

end Sys2Proof.Machine
end

