-- ==== Sys2Proof/Machine/RowsData.lean ====
section
/-! DEFINITION. The meanings of the rows of the fail unit, captures and streams (R264 to R304). -/

namespace Sys2Proof.Machine

/-- Row FAIL_RECORD_WRITE (R266). -/
def execFailRecordWrite (s : State) : Host.Outcome State Fault Refusal :=
  s.run fun d => d.failRecordWrite

/-- Row FAIL_SPILL_MOVE (R268). -/
def execFailSpillMove (s : State) : Host.Outcome State Fault Refusal :=
  s.run fun d => d.failSpillMove

/-- Row FAIL_SPILL_MODE_WRITE (R268). -/
def execFailSpillModeWrite (m : Nat) (on_ : Bool) (s : State) : Host.Outcome State Fault Refusal :=
  s.run fun d => d.writeField m (devAddr 0xE0000) 1 1 (b2n on_)

/-- Row CAP_ARM_WRITE (R277). -/
def execCapArmWrite (m : Nat) (n : Nat) (i : Nat) (s : State) : Host.Outcome State Fault Refusal :=
  s.run fun d => d.writeReg m (capAddr n 0) (i % 256)

/-- Row CAP_DISARM_WRITE (R277). -/
def execCapDisarmWrite (m : Nat) (n : Nat) (s : State) : Host.Outcome State Fault Refusal :=
  s.run fun d => d.writeReg m (capAddr n 0) 256

/-- Row CAP_FORCE (R276). -/
def execCapForce (m : Nat) (n : Nat) (s : State) : Host.Outcome State Fault Refusal :=
  s.run fun d => d.writeReg m (capAddr n 0x10) (2 ^ (CAP_FORCE_TRIG).lo)

/-- Row CAPTURE_TRIGGER (R276). -/
def execCaptureTrigger (n : Nat) (s : State) : Host.Outcome State Fault Refusal :=
  s.run fun d => d.captureTrigger n

/-- Row CAPTURE_SAMPLE (R272). -/
def execCaptureSample (n : Nat) (s : State) : Host.Outcome State Fault Refusal :=
  s.run fun d => d.captureSample n

/-- Row CAPTURE_HOLDOFF_END (R284). -/
def execCaptureHoldoffEnd (n : Nat) (s : State) : Host.Outcome State Fault Refusal :=
  s.run fun d => d.captureHoldoffEnd n

/-- Row STREAM_SLOT (R297). -/
def execStreamSlot (n : Nat) (s : State) : Host.Outcome State Fault Refusal :=
  s.run fun d => d.streamSlot n

/-- Row STREAM_RESUME (R302). -/
def execStreamResume (n : Nat) (s : State) : Host.Outcome State Fault Refusal :=
  s.run fun d => d.streamResume n

/-- Row STREAM_WAIT_END (R301). -/
def execStreamWaitEnd (n : Nat) (s : State) : Host.Outcome State Fault Refusal :=
  s.run fun d => d.streamWaitEnd n

/-- Row STREAM_RING_READ (R296). -/
def execStreamRingRead (n : Nat) (s : State) : Host.Outcome State Fault Refusal :=
  s.run fun d => d.streamRingRead n

/-- Row STWR_WRITE (R295). -/
def execStwrWrite (m : Nat) (n : Nat) (v : Nat) (s : State) : Host.Outcome State Fault Refusal :=
  s.run fun d => d.writeReg m (chAddr n 0x5A0) v

/-- Row STCMD_JUMP (R300). -/
def execStcmdJump (m : Nat) (n : Nat) (seg : Nat) (passEnd : Bool) (s : State) : Host.Outcome State Fault Refusal :=
  s.run fun d => d.writeReg m (chAddr n 0x5AC) (4 + 8 * b2n passEnd + seg % 256 * 2 ^ 8)

/-- Row STCMD_GO (R301). -/
def execStcmdGo (m : Nat) (n : Nat) (s : State) : Host.Outcome State Fault Refusal :=
  s.run fun d => d.writeReg m (chAddr n 0x5AC) 1

end Sys2Proof.Machine
end

