-- ==== Sys2Proof/Machine/RowsDisplay.lean ====
section
/-! DEFINITION. The meanings of the rows of the display outputs (R447 to R464). -/

namespace Sys2Proof.Machine

/-- Row DSP_APPLY (R452). -/
def execDspApply (m : Nat) (o : Nat) (s : State) : Host.Outcome State Fault Refusal :=
  s.run fun d => d.writeReg m (devAddr (0x90020 + 4096 * o)) 1

/-- Row VBLANK_START (R460). -/
def execVblankStart (o : Nat) (s : State) : Host.Outcome State Fault Refusal :=
  s.run fun d => d.vblank o

/-- Row DP_TRAIN_DONE (R453). -/
def execDpTrainDone (o : Nat) (ok : Bool) (s : State) : Host.Outcome State Fault Refusal :=
  s.run fun d => d.trainDone o ok

/-- Row HPD_CHANGE (R454). -/
def execHpdChange (o : Nat) (present : Bool) (s : State) : Host.Outcome State Fault Refusal :=
  s.run fun d => d.hpdChange o present

/-- Row DP_LINE (R459). -/
def execDpLine (o : Nat) (n : Nat) (gone : List (Nat × Nat)) (urgent : Nat) (s : State) : Host.Outcome State Fault Refusal :=
  s.run fun d => d.dpLine o n gone urgent

end Sys2Proof.Machine
end

