-- ==== Sys2Proof/Machine/RowsDrive.lean ====
section
/-! DEFINITION. The meanings of the rows of step commits, regulation, edge slots, drive links, lanes, power-stage ranges and the snuffer (R122 to R181). -/

namespace Sys2Proof.Machine

/-- Row COMMIT (R131). -/
def execCommit (n : Nat) (s : State) : Host.Outcome State Fault Refusal :=
  s.run fun d => d.commit n

/-- Row LOOP_UPDATE (R136). -/
def execLoopUpdate (n : Nat) (s : State) : Host.Outcome State Fault Refusal :=
  s.run fun d => d.loopUpdateX n

/-- Row STEP_END_TIME (R142). -/
def execStepEndTime (n : Nat) (s : State) : Host.Outcome State Fault Refusal :=
  s.run fun d => d.stepEndTime n

/-- Row FORMAT_EDGE (R141). -/
def execFormatEdge (n : Nat) (s : State) : Host.Outcome State Fault Refusal :=
  s.run fun d => d.formatEdge n

/-- Row FORMAT_DONE (R141). -/
def execFormatDone (n : Nat) (s : State) : Host.Outcome State Fault Refusal :=
  s.run fun d => d.formatDone n

/-- Row STEP_ABORT_END (R142). -/
def execStepAbortEnd (n : Nat) (s : State) : Host.Outcome State Fault Refusal :=
  s.run fun d => d.stepAbortEnd n

/-- Row EDGE_SLOT_FIRE (R147). -/
def execEdgeSlotFire (n : Nat) (j : Nat) (s : State) : Host.Outcome State Fault Refusal :=
  s.run fun d => d.edgeSlotFire n j

/-- Row EDGE_SLOT_ARM (R147). -/
def execEdgeSlotArm (m : Nat) (n : Nat) (j : Nat) (act : Nat) (s : State) : Host.Outcome State Fault Refusal :=
  s.run fun d => d.writeField m (chAddr n (0x328 + 16 * j)) 0 2 act

/-- Row EDGE_SLOT_DISARM (R147). -/
def execEdgeSlotDisarm (m : Nat) (n : Nat) (j : Nat) (s : State) : Host.Outcome State Fault Refusal :=
  s.run fun d => d.writeField m (chAddr n (0x328 + 16 * j)) 0 2 0

/-- Row ACC_INTEGRATE (R145). -/
def execAccIntegrate (n : Nat) (s : State) : Host.Outcome State Fault Refusal :=
  s.run fun d => d.accIntegrate n

/-- Row CLRTOT (R146). -/
def execClrtot (m : Nat) (n : Nat) (s : State) : Host.Outcome State Fault Refusal :=
  s.run fun d => d.writeField m (chAddr n 0x3A8) (CH_ACCCTL_CLRTOT).lo 1 1

/-- Row SHADOW_READ (R132). -/
def execShadowRead (m : Nat) (n : Nat) (s : State) : Host.Outcome State Fault Refusal :=
  s.run fun d => d.readReg m (chAddr n 0x200)

/-- Row PSFS_WRITE (R135). -/
def execPsfsWrite (m : Nat) (n : Nat) (r : Nat) (v : Nat) (s : State) : Host.Outcome State Fault Refusal :=
  s.run fun d => d.writeReg m (chAddr n (0x304 + 8 * r)) v

/-- Row IMPED_WINDOW_START (R151). -/
def execImpedWindowStart (n : Nat) (s : State) : Host.Outcome State Fault Refusal :=
  s.run fun d => d.impedStart n

/-- Row IMPED_WINDOW_END (R152). -/
def execImpedWindowEnd (n : Nat) (s : State) : Host.Outcome State Fault Refusal :=
  s.run fun d => d.impedWindowEnd n

/-- Row DRIVE_FRAME (R157). -/
def execDriveFrame (g : Nat) (s : State) : Host.Outcome State Fault Refusal :=
  s.run fun d => d.driveFrame g

/-- Row STATUS_FRAME (R163). -/
def execStatusFrame (g : Nat) (fault : Nat) (range : Nat) (temp : Nat) (echo : Nat) (tag : Nat) (flags : Nat) (desc : Nat) (s : State) : Host.Outcome State Fault Refusal :=
  s.run fun d => d.statusFrame g fault range temp echo tag flags desc

/-- Row STATUS_FRAME_BAD (R163). -/
def execStatusFrameBad (g : Nat) (s : State) : Host.Outcome State Fault Refusal :=
  s.run fun d => d.statusBad g

/-- Row STATUS_LOCK_LOSS (R163). -/
def execStatusLockLoss (g : Nat) (s : State) : Host.Outcome State Fault Refusal :=
  s.run fun d => d.statusLockLoss g

/-- Row SETUP_ACK_TIMEOUT (R167). -/
def execSetupAckTimeout (n : Nat) (s : State) : Host.Outcome State Fault Refusal :=
  s.run fun d => d.ackTimeout n

/-- Row SETUP_REPEAT (R167). -/
def execSetupRepeat (n : Nat) (s : State) : Host.Outcome State Fault Refusal :=
  s.run fun d => d.setupRepeat n

/-- Row RANGE_RESUME (R167). -/
def execRangeResume (n : Nat) (s : State) : Host.Outcome State Fault Refusal :=
  s.run fun d => d.rangeResume n

/-- Row LANE_ENABLE (R165). -/
def execLaneEnable (m : Nat) (s : State) : Host.Outcome State Fault Refusal :=
  s.run fun d => d.writeField m (devAddr 0x4) 1 1 1

/-- Row LANES_IDLE (R165). -/
def execLanesIdle (s : State) : Host.Outcome State Fault Refusal :=
  s.run fun d => d.lanesIdle

/-- Row LANE_DISABLE (R166). -/
def execLaneDisable (m : Nat) (s : State) : Host.Outcome State Fault Refusal :=
  s.run fun d => d.writeField m (devAddr 0x4) 1 1 0

/-- Row LANES_OFF (R166). -/
def execLanesOff (s : State) : Host.Outcome State Fault Refusal :=
  s.run fun d => d.lanesOff

/-- Row IDENTIFY_ON (R179). -/
def execIdentifyOn (m : Nat) (g : Nat) (mask : Nat) (s : State) : Host.Outcome State Fault Refusal :=
  s.run fun d => d.writeReg m (grpAddr g 4) (mask % 256)

/-- Row IDENTIFY_OFF (R179). -/
def execIdentifyOff (m : Nat) (g : Nat) (mask : Nat) (s : State) : Host.Outcome State Fault Refusal :=
  s.run fun d => d.writeReg m (grpAddr g 4) (mask % 256 * 2 ^ 8)

/-- Row HOST_SNUFF (R180). -/
def execHostSnuff (m : Nat) (n : Nat) (s : State) : Host.Outcome State Fault Refusal :=
  s.run fun d => d.writeReg m (chAddr n 0x498) (2 ^ (CH_SNFCTL_SNUFF).lo)

/-- Row HOST_REARM (R172). -/
def execHostRearm (m : Nat) (n : Nat) (s : State) : Host.Outcome State Fault Refusal :=
  s.run fun d => d.writeReg m (chAddr n 0x498) (2 ^ (CH_SNFCTL_REARM).lo)

/-- Row SNUFF_ALL (R181). -/
def execSnuffAll (m : Nat) (s : State) : Host.Outcome State Fault Refusal :=
  s.run fun d => d.writeReg m (devAddr 0x304) (2 ^ (DEV_SNFCMD_ALL).lo)

/-- Row ILK_ESTOP_OPEN (R168). -/
def execIlkEstopOpen (s : State) : Host.Outcome State Fault Refusal :=
  s.runHost fun d => d.ilkOpened

/-- Row ILK_ESTOP_CLOSE (R178). -/
def execIlkEstopClose (s : State) : Host.Outcome State Fault Refusal :=
  s.runHost fun d => d.estopClose

end Sys2Proof.Machine
end

