-- ==== Sys2Proof/Machine/RowsIsa.lean ====
section
/-! DEFINITION. The meanings of the rows of the channel instructions of control, data and synchronisation (R189 to R207). -/

namespace Sys2Proof.Machine

/-- Row NOP (R193). -/
def execNop (k : Nat) (c : Nat) (s : State) : Host.Outcome State Fault Refusal :=
  s.run fun d => d.iNop k c

/-- Row HALT (R193). -/
def execHalt (k : Nat) (c : Nat) (a : Bool) (ucode : Nat) (s : State) : Host.Outcome State Fault Refusal :=
  s.run fun d => d.iHalt k c a ucode

/-- Row JMP (R193). -/
def execJmp (k : Nat) (c : Nat) (target : Nat) (s : State) : Host.Outcome State Fault Refusal :=
  s.run fun d => d.iJmp k c target

/-- Row JCC (R193). -/
def execJcc (k : Nat) (c : Nat) (cond : Nat) (target : Nat) (s : State) : Host.Outcome State Fault Refusal :=
  s.run fun d => d.iJcc k c cond target

/-- Row CALL (R193). -/
def execCall (k : Nat) (c : Nat) (cond : Nat) (target : Nat) (s : State) : Host.Outcome State Fault Refusal :=
  s.run fun d => d.iCall k c cond target

/-- Row RET (R193). -/
def execRet (k : Nat) (c : Nat) (cond : Nat) (s : State) : Host.Outcome State Fault Refusal :=
  s.run fun d => d.iRet k c cond

/-- Row LOOP (R193). -/
def execLoop (k : Nat) (c : Nat) (x : Nat) (target : Nat) (s : State) : Host.Outcome State Fault Refusal :=
  s.run fun d => d.iLoop k c x target

/-- Row WAITC (R195). -/
def execWaitc (k : Nat) (c : Nat) (cls : Nat) (reg : Nat) (timeout : Nat) (s : State) : Host.Outcome State Fault Refusal :=
  s.run fun d => d.iWaitc k c cls reg timeout

/-- Row WAITT (R198). -/
def execWaitt (k : Nat) (c : Nat) (base : Nat) (reg : Nat) (timeout : Nat) (s : State) : Host.Outcome State Fault Refusal :=
  s.run fun d => d.iWaitt k c base reg timeout

/-- Row SYNC (R200). -/
def execSync (k : Nat) (c : Nat) (b : Nat) (reg : Nat) (timeout : Nat) (s : State) : Host.Outcome State Fault Refusal :=
  s.run fun d => d.iSync k c b reg timeout

/-- Row YIELD (R193). -/
def execYield (k : Nat) (c : Nat) (s : State) : Host.Outcome State Fault Refusal :=
  s.run fun d => d.iYield k c

/-- Row SIGNAL (R193). -/
def execSignal (k : Nat) (c : Nat) (a : Nat) (b : Opnd) (s : State) : Host.Outcome State Fault Refusal :=
  s.run fun d => d.iSignal k c a b

/-- Row FENCE (R193). -/
def execFence (k : Nat) (c : Nat) (s : State) : Host.Outcome State Fault Refusal :=
  s.run fun d => d.iFence k c

/-- Row MOVI (R201). -/
def execMovi (k : Nat) (c : Nat) (dst : Nat) (cls : Nat) (hi : Bool) (imm : Int) (s : State) : Host.Outcome State Fault Refusal :=
  s.run fun d => d.iMovi k c dst cls hi imm

/-- Row MOV (R201). -/
def execMov (k : Nat) (c : Nat) (dst : Nat) (src : Nat) (dcls : Nat) (scls : Nat) (s : State) : Host.Outcome State Fault Refusal :=
  s.run fun d => d.iMov k c dst src dcls scls

/-- Row LD (R203). -/
def execLd (k : Nat) (c : Nat) (dst : Nat) (a : Nat) (ofs : Int) (sg : Bool) (sz : Nat) (s : State) : Host.Outcome State Fault Refusal :=
  s.run fun d => d.iLd k c dst a ofs sg sz

/-- Row ST (R203). -/
def execSt (k : Nat) (c : Nat) (a : Nat) (b : Nat) (ofs : Int) (sz : Nat) (s : State) : Host.Outcome State Fault Refusal :=
  s.run fun d => d.iSt k c a b ofs sz

/-- Row ADD (R201). -/
def execAdd (k : Nat) (c : Nat) (dst : Nat) (a : Nat) (b : Opnd) (s : State) : Host.Outcome State Fault Refusal :=
  s.run fun d => d.iAdd k c dst a b

/-- Row SUB (R201). -/
def execSub (k : Nat) (c : Nat) (dst : Nat) (a : Nat) (b : Opnd) (s : State) : Host.Outcome State Fault Refusal :=
  s.run fun d => d.iSub k c dst a b

/-- Row MUL (R201). -/
def execMul (k : Nat) (c : Nat) (dst : Nat) (a : Nat) (b : Opnd) (sg : Bool) (hi : Bool) (s : State) : Host.Outcome State Fault Refusal :=
  s.run fun d => d.iMul k c dst a b sg hi

/-- Row DIVQ (R202). -/
def execDivq (k : Nat) (c : Nat) (dst : Nat) (a : Nat) (b : Opnd) (sg : Bool) (rem : Bool) (s : State) : Host.Outcome State Fault Refusal :=
  s.run fun d => d.iDivq k c dst a b sg rem

/-- Row AND (R201). -/
def execAnd (k : Nat) (c : Nat) (dst : Nat) (a : Nat) (b : Opnd) (s : State) : Host.Outcome State Fault Refusal :=
  s.run fun d => d.iAnd k c dst a b

/-- Row OR (R201). -/
def execOr (k : Nat) (c : Nat) (dst : Nat) (a : Nat) (b : Opnd) (s : State) : Host.Outcome State Fault Refusal :=
  s.run fun d => d.iOr k c dst a b

/-- Row XOR (R201). -/
def execXor (k : Nat) (c : Nat) (dst : Nat) (a : Nat) (b : Opnd) (s : State) : Host.Outcome State Fault Refusal :=
  s.run fun d => d.iXor k c dst a b

/-- Row SHL (R201). -/
def execShl (k : Nat) (c : Nat) (dst : Nat) (a : Nat) (b : Opnd) (s : State) : Host.Outcome State Fault Refusal :=
  s.run fun d => d.iShl k c dst a b

/-- Row SHR (R201). -/
def execShr (k : Nat) (c : Nat) (dst : Nat) (a : Nat) (b : Opnd) (sg : Bool) (s : State) : Host.Outcome State Fault Refusal :=
  s.run fun d => d.iShr k c dst a b sg

/-- Row CMP (R201). -/
def execCmp (k : Nat) (c : Nat) (a : Nat) (b : Opnd) (s : State) : Host.Outcome State Fault Refusal :=
  s.run fun d => d.iCmp k c a b

/-- Row MIN (R201). -/
def execMin (k : Nat) (c : Nat) (dst : Nat) (a : Nat) (b : Opnd) (sg : Bool) (s : State) : Host.Outcome State Fault Refusal :=
  s.run fun d => d.iMin k c dst a b sg

/-- Row MAX (R201). -/
def execMax (k : Nat) (c : Nat) (dst : Nat) (a : Nat) (b : Opnd) (sg : Bool) (s : State) : Host.Outcome State Fault Refusal :=
  s.run fun d => d.iMax k c dst a b sg

/-- Row SEL (R201). -/
def execSel (k : Nat) (c : Nat) (dst : Nat) (a : Nat) (b : Opnd) (cond : Nat) (s : State) : Host.Outcome State Fault Refusal :=
  s.run fun d => d.iSel k c dst a b cond

/-- Row RDS (R206). -/
def execRds (k : Nat) (c : Nat) (dst : Nat) (item : Nat) (s : State) : Host.Outcome State Fault Refusal :=
  s.run fun d => d.iRds k c dst item

/-- Row TLU (R207). -/
def execTlu (k : Nat) (c : Nat) (dst : Nat) (a : Nat) (b : Opnd) (s : State) : Host.Outcome State Fault Refusal :=
  s.run fun d => d.iTlu k c dst a b

/-- Row ATADD (R204). -/
def execAtadd (k : Nat) (c : Nat) (dst : Nat) (a : Nat) (b : Opnd) (sg : Bool) (swp : Bool) (sz : Nat) (s : State) : Host.Outcome State Fault Refusal :=
  s.run fun d => d.iAtadd k c dst a b sg swp sz

end Sys2Proof.Machine
end

