-- ==== Sys2Proof/Machine/RowsIsaUnits.lean ====
section
/-! DEFINITION. The meanings of the rows of the channel instructions of step control, measurement, streams, motion and the cell table (R213 to R239, R304, R332 to R337). -/

namespace Sys2Proof.Machine

/-- Row STEP (R217). -/
def execStep (k : Nat) (c : Nat) (a : StepArgs) (s : State) : Host.Outcome State Fault Refusal :=
  s.run fun d => d.iStep k c a

/-- Row SETP (R218). -/
def execSetp (k : Nat) (c : Nat) (w : Nat) (b : Opnd) (s : State) : Host.Outcome State Fault Refusal :=
  s.run fun d => d.iSetp k c w b

/-- Row LIMIT (R220). -/
def execLimit (k : Nat) (c : Nat) (comp : Nat) (ctl : Bool) (b : Opnd) (s : State) : Host.Outcome State Fault Refusal :=
  s.run fun d => d.iLimit k c comp ctl b

/-- Row EXPECT (R221). -/
def execExpect (k : Nat) (c : Nat) (e : Nat) (w : Nat) (b : Opnd) (s : State) : Host.Outcome State Fault Refusal :=
  s.run fun d => d.iExpect k c e w b

/-- Row EXPECT_CHECK (R222). -/
def execExpectCheck (k : Nat) (c : Nat) (dst : Nat) (s : State) : Host.Outcome State Fault Refusal :=
  s.run fun d => d.iExpectCheck k c dst

/-- Row ENDC (R224). -/
def execEndc (k : Nat) (c : Nat) (e : Nat) (val : Bool) (b : Opnd) (s : State) : Host.Outcome State Fault Refusal :=
  s.run fun d => d.iEndc k c e val b

/-- Row IRANGE (R225). -/
def execIrange (k : Nat) (c : Nat) (r : Nat) (s : State) : Host.Outcome State Fault Refusal :=
  s.run fun d => d.iIrange k c r

/-- Row PSRANGE (R226). -/
def execPsrange (k : Nat) (c : Nat) (r : Nat) (w : Bool) (s : State) : Host.Outcome State Fault Refusal :=
  s.run fun d => d.iPsrange k c r w

/-- Row SOFT (R226). -/
def execSoft (k : Nat) (c : Nat) (b : Opnd) (s : State) : Host.Outcome State Fault Refusal :=
  s.run fun d => d.iSoft k c b

/-- Row SNUFF (R227). -/
def execSnuff (k : Nat) (c : Nat) (s : State) : Host.Outcome State Fault Refusal :=
  s.run fun d => d.iSnuff k c

/-- Row ENABLE (R227). -/
def execEnable (k : Nat) (c : Nat) (s : State) : Host.Outcome State Fault Refusal :=
  s.run fun d => d.iEnable k c

/-- Row LDTAB (R228). -/
def execLdtab (k : Nat) (c : Nat) (dst : Nat) (a : Nat) (b : Nat) (part : Nat) (s : State) : Host.Outcome State Fault Refusal :=
  s.run fun d => d.iLdtab k c dst a b part

/-- Row FMT (R218). -/
def execFmt (k : Nat) (c : Nat) (w : Nat) (b : Opnd) (s : State) : Host.Outcome State Fault Refusal :=
  s.run fun d => d.iFmt k c w b

/-- Row FMT_LOAD (R218). -/
def execFmtLoad (k : Nat) (c : Nat) (f : Nat) (s : State) : Host.Outcome State Fault Refusal :=
  s.run fun d => d.iFmtLoad k c f

/-- Row MEAS (R229). -/
def execMeas (k : Nat) (c : Nat) (dst : Nat) (isI : Bool) (align : Bool) (b : Opnd) (s : State) : Host.Outcome State Fault Refusal :=
  s.run fun d => d.iMeas k c dst isI align b

/-- Row MEAS_ASYNC (R229). -/
def execMeasAsync (k : Nat) (c : Nat) (isI : Bool) (align : Bool) (b : Opnd) (s : State) : Host.Outcome State Fault Refusal :=
  s.run fun d => d.iMeasAsync k c isI align b

/-- Row MEAS_COLLECT (R229). -/
def execMeasCollect (k : Nat) (c : Nat) (dst : Nat) (isI : Bool) (s : State) : Host.Outcome State Fault Refusal :=
  s.run fun d => d.iMeasCollect k c dst isI

/-- Row ACC_RC (R231). -/
def execAccRc (k : Nat) (c : Nat) (dst : Nat) (s : State) : Host.Outcome State Fault Refusal :=
  s.run fun d => d.iAccRc k c dst

/-- Row ACC_CLR (R231). -/
def execAccClr (k : Nat) (c : Nat) (s : State) : Host.Outcome State Fault Refusal :=
  s.run fun d => d.iAccClr k c

/-- Row ARM (R232). -/
def execArm (k : Nat) (c : Nat) (dst : Nat) (b : Opnd) (s : State) : Host.Outcome State Fault Refusal :=
  s.run fun d => d.iArm k c dst b

/-- Row ARM_DIS (R232). -/
def execArmDis (k : Nat) (c : Nat) (dst : Nat) (s : State) : Host.Outcome State Fault Refusal :=
  s.run fun d => d.iArmDis k c dst

/-- Row TRIG_EDGE (R233). -/
def execTrigEdge (k : Nat) (c : Nat) (j : Nat) (act : Nat) (a : Nat) (b : Opnd) (s : State) : Host.Outcome State Fault Refusal :=
  s.run fun d => d.iTrigEdge k c j act a b

/-- Row TRIG_CAPTURE (R233). -/
def execTrigCapture (k : Nat) (c : Nat) (s : State) : Host.Outcome State Fault Refusal :=
  s.run fun d => d.iTrigCapture k c

/-- Row TRIG_BEACON (R233). -/
def execTrigBeacon (k : Nat) (c : Nat) (sync : Bool) (b : Opnd) (s : State) : Host.Outcome State Fault Refusal :=
  s.run fun d => d.iTrigBeacon k c sync b

/-- Row MARK (R234). -/
def execMark (k : Nat) (c : Nat) (b : Opnd) (s : State) : Host.Outcome State Fault Refusal :=
  s.run fun d => d.iMark k c b

/-- Row MARK_STEP (R234). -/
def execMarkStep (k : Nat) (c : Nat) (b : Opnd) (s : State) : Host.Outcome State Fault Refusal :=
  s.run fun d => d.iMarkStep k c b

/-- Row RECORD (R235). -/
def execRecord (k : Nat) (c : Nat) (typ : Nat) (a : Nat) (b : Opnd) (s : State) : Host.Outcome State Fault Refusal :=
  s.run fun d => d.iRecord k c typ a b

/-- Row IMPED (R236). -/
def execImped (k : Nat) (c : Nat) (w : Bool) (b : Opnd) (s : State) : Host.Outcome State Fault Refusal :=
  s.run fun d => d.iImped k c w b

/-- Row STAMP_ARM (R237). -/
def execStampArm (k : Nat) (c : Nat) (u : Nat) (s : State) : Host.Outcome State Fault Refusal :=
  s.run fun d => d.iStampArm k c u

/-- Row STAMP_DIS (R237). -/
def execStampDis (k : Nat) (c : Nat) (u : Nat) (s : State) : Host.Outcome State Fault Refusal :=
  s.run fun d => d.iStampDis k c u

/-- Row STAMP_RD (R237). -/
def execStampRd (k : Nat) (c : Nat) (dst : Nat) (u : Nat) (s : State) : Host.Outcome State Fault Refusal :=
  s.run fun d => d.iStampRd k c dst u

/-- Row STAMP_CFG (R237). -/
def execStampCfg (k : Nat) (c : Nat) (u : Nat) (a : Nat) (b : Opnd) (s : State) : Host.Outcome State Fault Refusal :=
  s.run fun d => d.iStampCfg k c u a b

/-- Row STRM_CFG (R306). -/
def execStrmCfg (k : Nat) (c : Nat) (dst : Nat) (a : Nat) (s : State) : Host.Outcome State Fault Refusal :=
  s.run fun d => d.iStrmCfg k c dst a

/-- Row STRM_RESET (R306). -/
def execStrmReset (k : Nat) (c : Nat) (s : State) : Host.Outcome State Fault Refusal :=
  s.run fun d => d.iStrmReset k c

/-- Row STRM_GO (R306). -/
def execStrmGo (k : Nat) (c : Nat) (s : State) : Host.Outcome State Fault Refusal :=
  s.run fun d => d.iStrmGo k c

/-- Row STRM_STAT (R306). -/
def execStrmStat (k : Nat) (c : Nat) (dst : Nat) (s : State) : Host.Outcome State Fault Refusal :=
  s.run fun d => d.iStrmStat k c dst

/-- Row STRM_SLIP (R306). -/
def execStrmSlip (k : Nat) (c : Nat) (dst : Nat) (s : State) : Host.Outcome State Fault Refusal :=
  s.run fun d => d.iStrmSlip k c dst

/-- Row SEG (R307). -/
def execSeg (k : Nat) (c : Nat) (a : Nat) (s : State) : Host.Outcome State Fault Refusal :=
  s.run fun d => d.iSeg k c a

/-- Row SEG_COPY (R307). -/
def execSegCopy (k : Nat) (c : Nat) (dst : Nat) (a : Nat) (b : Opnd) (s : State) : Host.Outcome State Fault Refusal :=
  s.run fun d => d.iSegCopy k c dst a b

/-- Row SJMP (R308). -/
def execSjmp (k : Nat) (c : Nat) (passEnd : Bool) (b : Opnd) (s : State) : Host.Outcome State Fault Refusal :=
  s.run fun d => d.iSjmp k c passEnd b

/-- Row MWIN (R333). -/
def execMwin (k : Nat) (c : Nat) (dst : Nat) (a : Nat) (b : Opnd) (slot : Nat) (act : Nat) (guard : Bool) (cp : Nat) (s : State) : Host.Outcome State Fault Refusal :=
  s.run fun d => d.iMwin k c dst a b slot act guard cp

/-- Row MSORT (R334). -/
def execMsort (k : Nat) (c : Nat) (dst : Nat) (a : Nat) (s : State) : Host.Outcome State Fault Refusal :=
  s.run fun d => d.iMsort k c dst a

/-- Row CTLOOK (R335). -/
def execCtlook (k : Nat) (c : Nat) (dst : Nat) (a : Nat) (b : Opnd) (s : State) : Host.Outcome State Fault Refusal :=
  s.run fun d => d.iCtlook k c dst a b

/-- Row CTLOOK_CAR (R335). -/
def execCtlookCar (k : Nat) (c : Nat) (dst : Nat) (a : Nat) (b : Opnd) (s : State) : Host.Outcome State Fault Refusal :=
  s.run fun d => d.iCtlookCar k c dst a b

/-- Row CTUPD_UPDATE (R336). -/
def execCtupdUpdate (k : Nat) (c : Nat) (dst : Nat) (a : Nat) (b : Opnd) (s : State) : Host.Outcome State Fault Refusal :=
  s.run fun d => d.iCtupd k c 0 dst a b

/-- Row CTUPD_INSERT (R336). -/
def execCtupdInsert (k : Nat) (c : Nat) (dst : Nat) (a : Nat) (b : Opnd) (s : State) : Host.Outcome State Fault Refusal :=
  s.run fun d => d.iCtupd k c 1 dst a b

/-- Row CTUPD_UPSERT (R336). -/
def execCtupdUpsert (k : Nat) (c : Nat) (dst : Nat) (a : Nat) (b : Opnd) (s : State) : Host.Outcome State Fault Refusal :=
  s.run fun d => d.iCtupd k c 2 dst a b

/-- Row CTUPD_RETIRE (R336). -/
def execCtupdRetire (k : Nat) (c : Nat) (dst : Nat) (a : Nat) (b : Opnd) (s : State) : Host.Outcome State Fault Refusal :=
  s.run fun d => d.iCtupd k c 3 dst a b

/-- Row CTSEAL (R337). -/
def execCtseal (k : Nat) (c : Nat) (dst : Nat) (s : State) : Host.Outcome State Fault Refusal :=
  s.run fun d => d.iCtseal k c dst

end Sys2Proof.Machine
end

