-- ==== Sys2Proof/Machine/RowsLap.lean ====
section
/-! DEFINITION. The meanings of the rows of events, Lamplighter sessions, records and Fefitil messages (R384 to R401). -/

namespace Sys2Proof.Machine

/-- Row HOST_DOORBELL (R386). -/
def execHostDoorbell (m : Nat) (v : Nat) (s : State) : Host.Outcome State Fault Refusal :=
  s.run fun d => d.writeReg m (devAddr 0x4000C) v

/-- Row EVENT_COAL_TIMER (R388). -/
def execEventCoalTimer (s : State) : Host.Outcome State Fault Refusal :=
  s.runHost fun d => d.coalTimer

/-- Row LAP_READ (R392). -/
def execLapRead (p : Nat) (sid : Nat) (seq : Nat) (ack : Nat) (addr : Nat) (count : Nat) (s : State) : Host.Outcome State Fault Refusal :=
  s.runHost fun d => d.lapRequest p sid seq ack (.read addr count)

/-- Row LAP_WRITE (R392). -/
def execLapWrite (p : Nat) (sid : Nat) (seq : Nat) (ack : Nat) (addr : Nat) (data : List Nat) (s : State) : Host.Outcome State Fault Refusal :=
  s.runHost fun d => d.lapRequest p sid seq ack (.write addr data)

/-- Row LAP_BULK_READ (R392). -/
def execLapBulkRead (p : Nat) (sid : Nat) (seq : Nat) (ack : Nat) (addr : Nat) (len : Nat) (s : State) : Host.Outcome State Fault Refusal :=
  s.runHost fun d => d.lapRequest p sid seq ack (.bulkRead addr len)

/-- Row LAP_BULK_WRITE (R392). -/
def execLapBulkWrite (p : Nat) (sid : Nat) (seq : Nat) (ack : Nat) (addr : Nat) (len : Nat) (data : List Nat) (s : State) : Host.Outcome State Fault Refusal :=
  s.runHost fun d => d.lapRequest p sid seq ack (.bulkWrite addr len data)

/-- Row LAP_STREAM (R295). -/
def execLapStream (p : Nat) (sid : Nat) (seq : Nat) (ack : Nat) (lcn : Nat) (first : Nat) (entries : List Nat) (s : State) : Host.Outcome State Fault Refusal :=
  s.runHost fun d => d.lapRequest p sid seq ack (.stream lcn first entries)

/-- Row LAP_ACK (R393). -/
def execLapAck (p : Nat) (sid : Nat) (ack : Nat) (sack : Nat) (s : State) : Host.Outcome State Fault Refusal :=
  s.runHost fun d => d.lapAck p sid ack sack

/-- Row LAP_DISCARD (R391). -/
def execLapDiscard (s : State) : Host.Outcome State Fault Refusal :=
  s.runHost fun d => d.lapDiscard

/-- Row LAP_ACK_TIMER (R393). -/
def execLapAckTimer (i : Nat) (s : State) : Host.Outcome State Fault Refusal :=
  s.runHost fun d => d.ackTimer i

/-- Row LAP_RETRANSMIT (R393). -/
def execLapRetransmit (i : Nat) (s : State) : Host.Outcome State Fault Refusal :=
  s.runHost fun d => d.retransmit i

/-- Row LAP_SESSION_IDLE (R390). -/
def execLapSessionIdle (i : Nat) (s : State) : Host.Outcome State Fault Refusal :=
  s.runHost fun d => d.sessionIdle i

/-- Row LAP_SESSION_END (R390). -/
def execLapSessionEnd (m : Nat) (i : Nat) (s : State) : Host.Outcome State Fault Refusal :=
  s.runHost fun d => d.writeReg m (devAddr (0x50100 + 16 * i)) 8

/-- Row RECORD_SEND (R392). -/
def execRecordSend (q : Nat) (count : Nat) (s : State) : Host.Outcome State Fault Refusal :=
  s.runHost fun d => d.recordSend q count

/-- Row ETH_LINK_CHANGE (R395). -/
def execEthLinkChange (p : Nat) (up : Bool) (speed : Nat) (s : State) : Host.Outcome State Fault Refusal :=
  s.run fun d => d.ethLink p up speed

/-- Row FEF_EVREL (R397). -/
def execFefEvrel (l : Nat) (kind : Nat) (num : Nat) (hops : Nat) (origin : Nat) (oseq : Nat) (at_ : Nat) (s : State) : Host.Outcome State Fault Refusal :=
  s.run fun d => d.evrel l kind num hops origin oseq at_

/-- Row FEF_ACK (R396). -/
def execFefAck (l : Nat) (ack : Nat) (s : State) : Host.Outcome State Fault Refusal :=
  s.run fun d => d.fefAck l ack

/-- Row FEF_FRAME_BAD (R396). -/
def execFefFrameBad (l : Nat) (s : State) : Host.Outcome State Fault Refusal :=
  s.run fun d => d.fefBad l

/-- Row FEF_RETRANSMIT (R396). -/
def execFefRetransmit (l : Nat) (s : State) : Host.Outcome State Fault Refusal :=
  s.run fun d => d.fefRetransmit l

end Sys2Proof.Machine
end

