-- ==== Sys2Proof/Machine/Bank.lean ====
section
/-! DEFINITION. The banks: arrival slots, collisions, write-back and the background test (R348 to R356). -/

namespace Sys2Proof.Machine

/-- The bank an on-chip address lies in. -/
def bankOf (a : Nat) : Nat := (targetOf a).getD 31

/-- The owner of bank `b` (R342). -/
def ownerOf (b : Nat) : Nat := if b < 16 then b else 16 + b

/-- Rank of a request (R348). -/
def reqRank (b : Nat) (r : BankReq) : Nat :=
  let m := r.master
  if m == ownerOf b then 1 else if m == 34 && r.urgent then 2 else if m == 32 then 3
  else if 16 ≤ m && m < 32 then 4 else if m == 33 then 5 else if m < 16 then 6
  else if m == 35 then 7 else if m == 34 then 8 else if m == 36 then 9 else 10

def reqBefore (b : Nat) (x y : BankReq) : Bool :=
  reqRank b x < reqRank b y || (reqRank b x == reqRank b y && x.master ≤ y.master)

def putReq (b : Nat) (x : BankReq) : List BankReq → List BankReq
  | [] => [x]
  | y :: t => if reqBefore b y x then y :: putReq b x t else x :: y :: t

/-- Writes and atomics in rank order, then reads in rank order (R348, R349). -/
def serveOrder (b : Nat) (rs : List BankReq) : List BankReq :=
  let o := rs.foldl (fun l x => putReq b x l) []
  (o.filter fun r => r.kind == 1 || r.kind == 2 || r.kind == 5 || r.kind == 6) ++
    o.filter fun r => !(r.kind == 1 || r.kind == 2 || r.kind == 5 || r.kind == 6)

/-- The ECC state that a request finds in its word (R351, R352). -/
def Device.upset (u e : Nat) (d : Device) : Device :=
  match e with
  | 1 => if d.bad.contains u || d.soft.any fun x => x.1 == u then d else { d with soft := (u, 0) :: d.soft }
  | 2 => if d.bad.contains u then d else { d with bad := u :: d.bad }
  | _ => d

def Device.respond (m a v e : Nat) (d : Device) : Device := { d with resp := d.resp ++ [⟨m, a, [v], e⟩] }

/-- One request is served. An atomic on an address that is not aligned, or of a size other than 4 or 8, is refused. -/
def Device.serve (r : BankReq) (d : Device) : Device :=
  let d := d.upset (r.addr / 8 * 8) r.ecc
  let atomic := fun (f : Nat → Nat) =>
    if (r.size == 4 || r.size == 8) && r.addr % r.size == 0 then d.atomicMem r.master r.addr r.size f
    else (d.refuse r.master (bankOf r.addr) 2 r.addr, ⟨0, 1⟩)
  let (d, x) := match r.kind with
    | 0 => d.readMem r.master 0 r.addr r.size
    | 3 => d.readMem r.master 3 r.addr r.size
    | 4 => d.readMem r.master 4 (r.addr / 32 * 32) 32
    | 1 => d.writeMem r.master 1 r.addr r.size r.value false
    | 5 => d.writeMem r.master 5 (r.addr / 32 * 32) 32 r.value false
    | 2 => atomic fun v => v + r.value
    | _ => atomic fun _ => r.value
  if x.err == 3 then d else d.respond r.master r.addr x.data x.err

/-- Does the request write, and the words it touches. -/
def reqWrites (r : BankReq) : Bool := r.kind == 1 || r.kind == 2 || r.kind == 5 || r.kind == 6
def reqWords (r : BankReq) : List Nat :=
  if r.kind == 4 || r.kind == 5 then unitsOf 0 (r.addr / 32 * 32) 32 else unitsOf 0 r.addr r.size

/-- Serves the slot; `seen` are the words written so far. An access that writes a word written before in the slot counts as a collision (R349), a refused one does not. -/
def Device.serveAll (b : Nat) : List BankReq → List Nat → Device → Device
  | [], _, d => d
  | r :: t, seen, d =>
    let n := d.resp.length
    let d := d.serve r
    let wrote := reqWrites r && (d.resp.drop n).any fun x => x.err != 1
    let d := if wrote && (reqWords r).any fun w => seen.contains w then d.bump (MEM_COLLIDE_CNT b) 1 else d
    d.serveAll b t (if wrote then reqWords r ++ seen else seen)

/-- Row BANK_ACCESS: one arrival slot of bank `b` (R348 to R352). Requests to another bank do not belong to the slot. -/
def Device.bankAccess (b : Nat) (rs : List BankReq) (d : Device) : Device :=
  ({ d with resp := [] } : Device).serveAll b (serveOrder b (rs.filter fun r => bankOf r.addr == b)) []

/-- Row ECC_WRITEBACK (R351): the bank writes back the first corrected word that waits. -/
def Device.eccWriteback (b : Nat) (d : Device) : Device :=
  match d.wback.find? fun u => bankOf u == b with
  | some u => d.rewritten [u]
  | none => d

/-! ### The background test (R354, R355) -/

/-- Does slice `s` overlap an enabled PINNED region of any master. -/
def Device.pinned (s : Nat) (d : Device) : Bool :=
  let t := bankOf (s * 4096)
  (List.range 38).any fun m => (List.range 8).any fun i => (d.region m t i).pinned && (d.region m t i).covers s

def countAt (b : Nat) : List (Nat × Nat) → List (Nat × Nat)
  | [] => [(b, 1)]
  | x :: t => if x.1 = b then (b, x.2 + 1) :: t else x :: countAt b t
def countOf (b : Nat) (xs : List (Nat × Nat)) : Nat := ((xs.find? fun x => x.1 == b).map (·.2)).getD 0

/-- A pass ends (R355): coverage, PASSES, event 197. -/
def Device.btPassEnd (d : Device) : Device :=
  let d := (List.range 20).foldl (fun d b =>
    (d.set (MEM_BTCOV_TESTED b) (countOf b d.btTested)).set (MEM_BTCOV_SKIPPED b) (countOf b d.btSkipped)) d
  ({ d.set MEM_BTSTAT_PASSES (d.get MEM_BTSTAT_PASSES + 1) with btNext := 0, btTested := [], btSkipped := [] } : Device).raise 197

/-- The next slice to borrow, passing over masked banks and skipping pinned slices; at most one whole pass is walked. -/
def Device.btSeek : Nat → Device → Device × Option Nat
  | 0, d => (d, none)
  | n + 1, d =>
    if 16384 ≤ d.btNext then d.btPassEnd.btSeek n
    else
      let s := d.btNext
      let b := bankOf (s * 4096)
      if !bit (d.get MEM_BTMASK_BANKS) b then { d with btNext := s + 1 }.btSeek n
      else if d.pinned s then { d with btNext := s + 1, btSkipped := countAt b d.btSkipped }.btSeek n
      else (d, some s)

/-- Row BT_BORROW (R354). -/
def Device.btBorrow (d : Device) : Device :=
  if !d.on MEM_CTL_BT_EN || d.on MEM_BTSTAT_BORROWED || d.dt < d.btAt + max 1 (d.get MEM_BTCFG_GAP) * usLen then d
  else match d.btSeek 16386 with
    | (d, some s) => (d.setB MEM_BTSTAT_BORROWED true).set MEM_BTCUR_SLICE s
    | (d, none) => d

/-- Row BT_RETURN (R354, R355): `fault` is the first address and bit at which the march failed, `cut` a march cut short at 25 µs. An uncorrectable word found by the copy is reported and the march omitted. -/
def Device.btReturn (fault : Option (Nat × Nat)) (cut : Bool) (d : Device) : Device :=
  if !d.on MEM_BTSTAT_BORROWED then d
  else
    let s := d.get MEM_BTCUR_SLICE
    let b := bankOf (s * 4096)
    let d := { d.setB MEM_BTSTAT_BORROWED false with btAt := d.dt, btNext := s + 1 }
    let d := match d.bad.find? fun u => u / 4096 == s with
      | some u => d.uncorrectable 37 b u
      | none =>
        let d := if cut then (d.setB MEM_BTSTAT_ABORT true).raise 198 else { d with btTested := countAt b d.btTested }
        match fault with
        | some (a, i) =>
          let d := (d.setB MEM_BTSTAT_FAULT true).raise 196
          if d.on MEM_BTFADDR_VALID then d
          else ((d.setB MEM_BTFADDR_VALID true).set MEM_BTFADDR_ADDR a).set MEM_BTFADDR_BIT i
        | none => d
    if d.btNext == 16384 then d.btPassEnd else d

end Sys2Proof.Machine
end

