-- ==== Sys2Proof/Machine/RowsMem.lean ====
section
/-! DEFINITION. The meanings of the rows of banks, regions and the DDR5 controller (R342 to R383). -/

namespace Sys2Proof.Machine

/-- Row BANK_ACCESS (R348). -/
def execBankAccess (b : Nat) (reqs : List BankReq) (s : State) : Host.Outcome State Fault Refusal :=
  s.run fun d => d.bankAccess b reqs

/-- Row ECC_WRITEBACK (R351). -/
def execEccWriteback (b : Nat) (s : State) : Host.Outcome State Fault Refusal :=
  s.run fun d => d.eccWriteback b

/-- Row BT_BORROW (R354). -/
def execBtBorrow (s : State) : Host.Outcome State Fault Refusal :=
  s.run fun d => d.btBorrow

/-- Row BT_RETURN (R354). -/
def execBtReturn (fault : Option (Nat × Nat)) (cut : Bool) (s : State) : Host.Outcome State Fault Refusal :=
  s.run fun d => d.btReturn fault cut

/-- Row REGION_WRITE (R347). -/
def execRegionWrite (m : Nat) (mast : Nat) (t : Nat) (i : Nat) (hi : Bool) (v : Nat) (s : State) : Host.Outcome State Fault Refusal :=
  s.run fun d => d.writeReg m (devAddr (0xC2000 + 1408 * mast + 64 * t + 8 * i + 4 * b2n hi)) v

/-- Row DDR_TRAINING_DONE (R363). -/
def execDdrTrainingDone (err : Nat) (arr : Nat) (ranks2 : Bool) (dens32 : Bool) (drfm : Bool) (s : State) : Host.Outcome State Fault Refusal :=
  s.run fun d => d.ddrTrained err arr ranks2 dens32 drfm

/-- Row DDR_COMMAND_SLOT (R366). -/
def execDdrCommandSlot (x : Nat) (s : State) : Host.Outcome State Fault Refusal :=
  s.run fun d => d.ddrSlot x

/-- Row DDR_REFRESH_INTERVAL (R369). -/
def execDdrRefreshInterval (x : Nat) (r : Nat) (s : State) : Host.Outcome State Fault Refusal :=
  s.run fun d => d.refreshInterval x r

/-- Row DDR_MR4_POLL (R371). -/
def execDdrMr4Poll (x : Nat) (r : Nat) (code : Nat) (s : State) : Host.Outcome State Fault Refusal :=
  s.run fun d => d.mr4Poll x r code

/-- Row DDR_RH_TABLE_CLEAR (R372). -/
def execDdrRhTableClear (x : Nat) (r : Nat) (s : State) : Host.Outcome State Fault Refusal :=
  s.run fun d => d.rhClear x r

/-- Row DDR_PATROL_SCRUB (R377). -/
def execDdrPatrolScrub (n : Nat) (s : State) : Host.Outcome State Fault Refusal :=
  s.run fun d => d.patrol n

/-- Row DDR_SR_ENTRY (R378). -/
def execDdrSrEntry (x : Nat) (s : State) : Host.Outcome State Fault Refusal :=
  s.run fun d => d.srEntry x

/-- Row DDR_SR_EXIT (R379). -/
def execDdrSrExit (x : Nat) (s : State) : Host.Outcome State Fault Refusal :=
  s.run fun d => d.srExit x

end Sys2Proof.Machine
end

