-- ==== Sys2Proof/Machine/RowsMotion.lean ====
section
/-! DEFINITION. The meanings of the rows of the motion encoder, the position schedule, gate outputs and the cell table (R305 to R341). -/

namespace Sys2Proof.Machine

/-- Row MOT_COUNT (R310). -/
def execMotCount (a : Bool) (b : Bool) (t : Nat) (held : Nat) (s : State) : Host.Outcome State Fault Refusal :=
  s.run fun d => d.motCount a b t held

/-- Row MOT_Z_EDGE (R311). -/
def execMotZEdge (rising : Bool) (t : Nat) (s : State) : Host.Outcome State Fault Refusal :=
  s.run fun d => d.motZ rising t

/-- Row MOT_XG_EDGE (R119). -/
def execMotXgEdge (rising : Bool) (t : Nat) (s : State) : Host.Outcome State Fault Refusal :=
  s.run fun d => d.motXg rising t

/-- Row MOT_CP_EDGE (R317). -/
def execMotCpEdge (k : Nat) (rising : Bool) (t : Nat) (s : State) : Host.Outcome State Fault Refusal :=
  s.run fun d => d.motCp k rising t

/-- Row MOT_COAST_EDGE (R330). -/
def execMotCoastEdge (high : Bool) (t : Nat) (s : State) : Host.Outcome State Fault Refusal :=
  s.run fun d => d.motCoastEdge high t

/-- Row SCHED_GUARD (R313). -/
def execSchedGuard (s : State) : Host.Outcome State Fault Refusal :=
  s.run fun d => d.schedGuard

/-- Row SCHED_WCLOSE (R316). -/
def execSchedWclose (s : State) : Host.Outcome State Fault Refusal :=
  s.run fun d => d.schedWclose

/-- Row SCHED_DEADLINE (R329). -/
def execSchedDeadline (s : State) : Host.Outcome State Fault Refusal :=
  s.run fun d => d.schedDeadline

/-- Row SCHED_GATE (R328). -/
def execSchedGate (s : State) : Host.Outcome State Fault Refusal :=
  s.run fun d => d.schedGate

/-- Row SCHED_WOPEN (R316). -/
def execSchedWopen (s : State) : Host.Outcome State Fault Refusal :=
  s.run fun d => d.schedWopen

/-- Row SCHED_EVENT (R313). -/
def execSchedEvent (s : State) : Host.Outcome State Fault Refusal :=
  s.run fun d => d.schedEvent

/-- Row GATE_PULSE_END (R313). -/
def execGatePulseEnd (k : Nat) (s : State) : Host.Outcome State Fault Refusal :=
  s.run fun d => d.gatePulseEnd k

/-- Row HOST_SCHEDULE_ADD (R339). -/
def execHostScheduleAdd (m : Nat) (act : Nat) (arg : Nat) (s : State) : Host.Outcome State Fault Refusal :=
  s.run fun d => d.writeReg m (devAddr 0xA0068) (act % 256 + arg % 2 ^ 16 * 2 ^ 16)

/-- Row MOT_COAST_CMD (R330). -/
def execMotCoastCmd (m : Nat) (s : State) : Host.Outcome State Fault Refusal :=
  s.run fun d => d.writeReg m (devAddr 0xA0044) 1

/-- Row MOT_RESUME (R331). -/
def execMotResume (m : Nat) (s : State) : Host.Outcome State Fault Refusal :=
  s.run fun d => d.writeReg m (devAddr 0xA0044) 2

/-- Row MOT_SCHCLR (R331). -/
def execMotSchclr (m : Nat) (s : State) : Host.Outcome State Fault Refusal :=
  s.run fun d => d.writeReg m (devAddr 0xA0044) 4

/-- Row MOT_VEL_UPDATE (R310). -/
def execMotVelUpdate (s : State) : Host.Outcome State Fault Refusal :=
  s.run fun d => d.motVel

/-- Row CT_SEAL_CMD (R322). -/
def execCtSealCmd (m : Nat) (s : State) : Host.Outcome State Fault Refusal :=
  s.run fun d => d.writeReg m (devAddr 0xB0030) 2

/-- Row CT_FLUSH (R321). -/
def execCtFlush (m : Nat) (s : State) : Host.Outcome State Fault Refusal :=
  s.run fun d => d.writeReg m (devAddr 0xB0030) 1

/-- Row CT_FLUSH_DONE (R321). -/
def execCtFlushDone (s : State) : Host.Outcome State Fault Refusal :=
  s.run fun d => d.ctFlushDone

/-- Row CT_ENABLE (R321). -/
def execCtEnable (m : Nat) (s : State) : Host.Outcome State Fault Refusal :=
  s.run fun d => d.writeField m (devAddr 0xB0000) 0 1 1

/-- Row CT_RECOUNT_DONE (R321). -/
def execCtRecountDone (s : State) : Host.Outcome State Fault Refusal :=
  s.run fun d => d.ctRecountDone

/-- Row BATCH_AGE_CLOSE (R322). -/
def execBatchAgeClose (s : State) : Host.Outcome State Fault Refusal :=
  s.run fun d => d.batchAgeClose

/-- Row BATCH_SIGNED (R322). -/
def execBatchSigned (sig : List Nat) (s : State) : Host.Outcome State Fault Refusal :=
  s.run fun d => d.batchSigned sig

/-- Row FEF_CELLREC (R324). -/
def execFefCellrec (l : Nat) (img : Nat) (car : Nat) (lcn : Nat) (upd : Nat) (map : Bool) (s : State) : Host.Outcome State Fault Refusal :=
  s.run fun d => d.cellRec l img car lcn upd map

end Sys2Proof.Machine
end

