-- ==== Sys2Proof/Machine/RowsPower.lean ====
section
/-! DEFINITION. The meanings of the rows of supplies, resets, power commands, clusters leaving and entering service, the Pilot comparators, health and wear (R41 to R49, R423 to R446). -/

namespace Sys2Proof.Machine

/-- Row POWER_ON (R43). -/
def execPowerOn (fell : Bool) (s : State) : Host.Outcome State Fault Refusal :=
  s.runPower fun d => d.powerOn fell

/-- Row RESET_N (R432). -/
def execResetN (inRange : Bool) (s : State) : Host.Outcome State Fault Refusal :=
  s.runPower fun d => d.resetN inRange

/-- Row POWER_FAIL (R44). -/
def execPowerFail (high : Bool) (s : State) : Host.Outcome State Fault Refusal :=
  s.runPower fun d => d.powerFail (if high then 2 else 1)

/-- Row POWERFAIL_LANES_OFF (R44). -/
def execPowerfailLanesOff (s : State) : Host.Outcome State Fault Refusal :=
  s.runPower fun d => d.powerfailLanesOff

/-- Row POWER_ON_AFTER_OVERVOLTAGE (R473). -/
def execPowerOnAfterOvervoltage (s : State) : Host.Outcome State Fault Refusal :=
  s.runPower fun d => d.powerOnAfterOv

/-- Row SUPPLY_MEASURE (R46). -/
def execSupplyMeasure (vmain : Nat) (vpilot : Nat) (s : State) : Host.Outcome State Fault Refusal :=
  s.run fun d => d.supplyMeasure vmain vpilot

/-- Row JUNCTION_SAMPLE (R48). -/
def execJunctionSample (temps : List Int) (s : State) : Host.Outcome State Fault Refusal :=
  s.run fun d => d.junctionSample temps

/-- Row CM_RANGE (R39). -/
def execCmRange (n : Nat) (isI : Bool) (s : State) : Host.Outcome State Fault Refusal :=
  s.run fun d => d.cmRange n isI

/-- Row BOOT_READY (R402). -/
def execBootReady (idBad : Bool) (calBad : Bool) (bad : List Nat) (s : State) : Host.Outcome State Fault Refusal :=
  s.run fun d => d.bootReady idBad calBad bad

/-- Row PCMD_HOLD (R426). -/
def execPcmdHold (m : Nat) (s : State) : Host.Outcome State Fault Refusal :=
  s.run fun d => d.writeReg m (devAddr 0xC) 1

/-- Row PCMD_RUN (R424). -/
def execPcmdRun (m : Nat) (s : State) : Host.Outcome State Fault Refusal :=
  s.run fun d => d.writeReg m (devAddr 0xC) 2

/-- Row PCMD_DOZE (R427). -/
def execPcmdDoze (m : Nat) (key : Nat) (s : State) : Host.Outcome State Fault Refusal :=
  s.run fun d => d.writeReg m (devAddr 0xC) (3 + key % 256 * 2 ^ 24)

/-- Row DOZE_ENTRY_COMPLETE (R427). -/
def execDozeEntryComplete (fp : Nat) (s : State) : Host.Outcome State Fault Refusal :=
  s.run fun d => d.dozeEntered fp

/-- Row PCMD_WAKE (R428). -/
def execPcmdWake (p : Nat) (i : Nat) (s : State) : Host.Outcome State Fault Refusal :=
  s.runPower fun d => d.pcmdWake p i

/-- Row WAKE_TIMER (R428). -/
def execWakeTimer (s : State) : Host.Outcome State Fault Refusal :=
  s.runPower fun d => d.wakeTimer

/-- Row WAKE_COMPLETE (R429). -/
def execWakeComplete (s : State) : Host.Outcome State Fault Refusal :=
  s.runPower fun d => d.wakeComplete

/-- Row PCMD_RESET (R432). -/
def execPcmdReset (m : Nat) (key : Nat) (s : State) : Host.Outcome State Fault Refusal :=
  s.run fun d => d.writeReg m (devAddr 0xC) (5 + key % 256 * 2 ^ 24)

/-- Row PCMD_RELOAD (R436). -/
def execPcmdReload (m : Nat) (k : Nat) (s : State) : Host.Outcome State Fault Refusal :=
  s.run fun d => d.writeReg m (devAddr 0xC) (6 + k % 256 * 2 ^ 8 + 0xA5 * 2 ^ 24)

/-- Row PCMD_OUT (R435). -/
def execPcmdOut (m : Nat) (k : Nat) (s : State) : Host.Outcome State Fault Refusal :=
  s.run fun d => d.writeReg m (devAddr 0xC) (7 + k % 256 * 2 ^ 8 + 0xA5 * 2 ^ 24)

/-- Row PCMD_RETRAIN (R438). -/
def execPcmdRetrain (m : Nat) (l : Nat) (s : State) : Host.Outcome State Fault Refusal :=
  s.run fun d => d.writeReg m (devAddr 0xC) (8 + l % 256 * 2 ^ 8 + 0xA5 * 2 ^ 24)

/-- Row WATCHDOG_RESET (R432). -/
def execWatchdogReset (s : State) : Host.Outcome State Fault Refusal :=
  s.run fun d => d.watchdog

/-- Row CLUSTER_LOAD_DONE (R436). -/
def execClusterLoadDone (k : Nat) (same : Bool) (s : State) : Host.Outcome State Fault Refusal :=
  s.run fun d => d.clusterLoadDone k same

/-- Row CLUSTER_REJOIN (R436). -/
def execClusterRejoin (k : Nat) (s : State) : Host.Outcome State Fault Refusal :=
  s.run fun d => d.clusterRejoin k

/-- Row PILOT_CMP_TRIP (R440). -/
def execPilotCmpTrip (j : Nat) (s : State) : Host.Outcome State Fault Refusal :=
  s.runPower fun d => d.cmpTrip j

/-- Row PILOT_CMP_RELEASE (R440). -/
def execPilotCmpRelease (j : Nat) (s : State) : Host.Outcome State Fault Refusal :=
  s.runPower fun d => d.cmpRelease j

/-- Row SAFE_PERMIT (R441). -/
def execSafePermit (m : Nat) (s : State) : Host.Outcome State Fault Refusal :=
  s.run fun d => d.writeField m (devAddr 0x80040) 0 1 1

/-- Row HEALTH_EVAL (R446). -/
def execHealthEval (raws : List (Nat × Nat)) (s : State) : Host.Outcome State Fault Refusal :=
  s.run fun d => d.healthEval raws

/-- Row WEAR_SAVE (R444). -/
def execWearSave (s : State) : Host.Outcome State Fault Refusal :=
  s.run fun d => d.wearSave

/-- Row CONTACT_COUNT_CMD (R443). -/
def execContactCountCmd (m : Nat) (count : Nat) (ch : Nat) (rst : Bool) (s : State) : Host.Outcome State Fault Refusal :=
  s.run fun d => d.writeReg m (devAddr 0x70028) (ch % 1024 + b2n rst * 2 ^ 15 + count % 2 ^ 16 * 2 ^ 16)

/-- Row OVEN_SETTLED (R431). -/
def execOvenSettled (duty : Nat) (s : State) : Host.Outcome State Fault Refusal :=
  s.run fun d => d.ovenSettled duty

/-- Row CM_RANGE_END (R168). -/
def execCmRangeEnd (n : Nat) (isI : Bool) (s : State) : Host.Outcome State Fault Refusal :=
  s.run fun d => d.cmEnd n isI

/-- Row RESET_N_RELEASE (R43). -/
def execResetNRelease (s : State) : Host.Outcome State Fault Refusal :=
  s.runPower fun d => d.resetNRelease

/-- Row REFERENCE_REGAINED (R52). -/
def execReferenceRegained (s : State) : Host.Outcome State Fault Refusal :=
  s.run fun d => d.refRegained

/-- Row FEF_LINK_CHANGE (R74). -/
def execFefLinkChange (l : Nat) (up : Bool) (s : State) : Host.Outcome State Fault Refusal :=
  s.run fun d => d.fefLink l up

/-- Row TDC_LOCK_CHANGE (R86). -/
def execTdcLockChange (a : Nat) (locked : Bool) (s : State) : Host.Outcome State Fault Refusal :=
  s.run fun d => d.tdcLock a locked

/-- Row PILOT_DOMAIN_START (R439). -/
def execPilotDomainStart (s : State) : Host.Outcome State Fault Refusal :=
  s.runPower fun d => d.pilotDomainStart

/-- Row PILOT_DOMAIN_LOSS (R41). -/
def execPilotDomainLoss (s : State) : Host.Outcome State Fault Refusal :=
  s.runPower fun d => d.pilotDomainLoss

/-- Row OVENOK_LOST (R431). -/
def execOvenokLost (s : State) : Host.Outcome State Fault Refusal :=
  s.run fun d => d.ovenLost

end Sys2Proof.Machine
end

