-- ==== Sys2Proof/Machine/RowsSec.lean ====
section
/-! DEFINITION. The meanings of the rows of the security engine and session set-up (R402 to R420). -/

namespace Sys2Proof.Machine

/-- Row SEC_PROGRAM (R407). -/
def execSecProgram (m : Nat) (s : State) : Host.Outcome State Fault Refusal :=
  s.run fun d => d.writeReg m (devAddr 0x60004) 1

/-- Row SEC_STORE (R409). -/
def execSecStore (m : Nat) (s : State) : Host.Outcome State Fault Refusal :=
  s.run fun d => d.writeReg m (devAddr 0x60004) 2

/-- Row SEC_CONFIRM (R407). -/
def execSecConfirm (m : Nat) (s : State) : Host.Outcome State Fault Refusal :=
  s.run fun d => d.writeReg m (devAddr 0x60004) 3

/-- Row SEC_ATTEST (R411). -/
def execSecAttest (m : Nat) (s : State) : Host.Outcome State Fault Refusal :=
  s.run fun d => d.writeReg m (devAddr 0x60004) 4

/-- Row SEC_CALCERT (R418). -/
def execSecCalcert (m : Nat) (s : State) : Host.Outcome State Fault Refusal :=
  s.run fun d => d.writeReg m (devAddr 0x60004) 5

/-- Row SEC_SAVEKEYS (R414). -/
def execSecSavekeys (m : Nat) (s : State) : Host.Outcome State Fault Refusal :=
  s.run fun d => d.writeReg m (devAddr 0x60004) 6

/-- Row FLASH_OP_DONE (R407). -/
def execFlashOpDone (ok : Bool) (s : State) : Host.Outcome State Fault Refusal :=
  s.run fun d => d.flashDone ok

/-- Row ATTEST_DONE (R411). -/
def execAttestDone (rom : List Nat) (image : List Nat) (mc : List Nat) (cal : List Nat) (mismatch : Bool) (patches : List (List Nat × Nat)) (sig : List Nat) (s : State) : Host.Outcome State Fault Refusal :=
  s.run fun d => d.attestDone rom image mc cal mismatch patches sig

/-- Row CALCERT_DONE (R418). -/
def execCalcertDone (sig : List Nat) (s : State) : Host.Outcome State Fault Refusal :=
  s.run fun d => d.calcertDone sig

/-- Row SW_BEGIN (R412). -/
def execSwBegin (m : Nat) (s : State) : Host.Outcome State Fault Refusal :=
  s.run fun d => d.writeReg m (devAddr 0x60200) 1

/-- Row SW_BEGIN_READY (R412). -/
def execSwBeginReady (nd : List Nat) (ek : List Nat) (sig : List Nat) (s : State) : Host.Outcome State Fault Refusal :=
  s.run fun d => d.swBeginReady nd ek sig

/-- Row SW_FINISH (R412). -/
def execSwFinish (m : Nat) (s : State) : Host.Outcome State Fault Refusal :=
  s.run fun d => d.writeReg m (devAddr 0x60200) 2

/-- Row SW_CERT (R412). -/
def execSwCert (m : Nat) (s : State) : Host.Outcome State Fault Refusal :=
  s.run fun d => d.writeReg m (devAddr 0x60200) 3

/-- Row SW_ABORT (R412). -/
def execSwAbort (m : Nat) (s : State) : Host.Outcome State Fault Refusal :=
  s.run fun d => d.writeReg m (devAddr 0x60200) 4

/-- Row SW_SETUP_IDLE (R413). -/
def execSwSetupIdle (s : State) : Host.Outcome State Fault Refusal :=
  s.run fun d => d.swIdle

/-- Row RECOVERY_PROGRAM (R420). -/
def execRecoveryProgram (s : State) : Host.Outcome State Fault Refusal :=
  s.run fun d => d.recoveryProgram

end Sys2Proof.Machine
end

