-- ==== Sys2Proof/Machine/RowsThread.lean ====
section
/-! DEFINITION. The meanings of the rows of issue, waits, host control of threads, traps and the control store (R182 to R263). -/

namespace Sys2Proof.Machine

/-- Row INSTRUCTION_FETCH (R183). -/
def execInstructionFetch (k : Nat) (c : Nat) (mck : Option (Nat × Nat × Nat)) (s : State) : Host.Outcome State Fault Refusal :=
  s.run fun d => d.fetch k c mck

/-- Row WAIT_CONDITION_MET (R196). -/
def execWaitConditionMet (k : Nat) (c : Nat) (s : State) : Host.Outcome State Fault Refusal :=
  s.run fun d => d.waitMet k c

/-- Row WAIT_TIMEOUT (R196). -/
def execWaitTimeout (k : Nat) (c : Nat) (s : State) : Host.Outcome State Fault Refusal :=
  s.run fun d => d.waitTimeout k c

/-- Row WAITT_DEADLINE (R198). -/
def execWaittDeadline (k : Nat) (c : Nat) (s : State) : Host.Outcome State Fault Refusal :=
  s.run fun d => d.waittDeadline k c

/-- Row THREAD_RUN (R210). -/
def execThreadRun (m : Nat) (k : Nat) (c : Nat) (s : State) : Host.Outcome State Fault Refusal :=
  s.run fun d => d.writeReg m (thrAddr k c 0) 1

/-- Row HOST_HALT (R210). -/
def execHostHalt (m : Nat) (k : Nat) (c : Nat) (s : State) : Host.Outcome State Fault Refusal :=
  s.run fun d => d.writeReg m (thrAddr k c 0) 2

/-- Row HOST_ABORT (R210). -/
def execHostAbort (m : Nat) (k : Nat) (c : Nat) (s : State) : Host.Outcome State Fault Refusal :=
  s.run fun d => d.writeReg m (thrAddr k c 0) 4

/-- Row RUNMASK_WRITE (R211). -/
def execRunmaskWrite (m : Nat) (k : Nat) (v : Nat) (s : State) : Host.Outcome State Fault Refusal :=
  s.run fun d => d.writeReg m (clAddr k 0x24) v

/-- Row HALTREQ_WRITE (R211). -/
def execHaltreqWrite (m : Nat) (k : Nat) (v : Nat) (s : State) : Host.Outcome State Fault Refusal :=
  s.run fun d => d.writeReg m (clAddr k 0x2C) v

/-- Row QUIESCE (R210). -/
def execQuiesce (m : Nat) (k : Nat) (s : State) : Host.Outcome State Fault Refusal :=
  s.run fun d => d.writeField m (clAddr k 0) 0 1 1

/-- Row QUIESCE_RELEASE (R210). -/
def execQuiesceRelease (m : Nat) (k : Nat) (s : State) : Host.Outcome State Fault Refusal :=
  s.run fun d => d.writeField m (clAddr k 0) 0 1 0

/-- Row THREAD_STATE_WRITE (R185). -/
def execThreadStateWrite (m : Nat) (k : Nat) (c : Nat) (off : Nat) (v : Nat) (s : State) : Host.Outcome State Fault Refusal :=
  s.run fun d => d.writeReg m (thrAddr k c off) v

/-- Row PROGRAM_REGION_WRITE (R185). -/
def execProgramRegionWrite (m : Nat) (k : Nat) (size : Bool) (v : Nat) (s : State) : Host.Outcome State Fault Refusal :=
  s.run fun d => d.writeReg m (clAddr k (if size then 0xC else 8)) v

/-- Row REDIRECT (R223). -/
def execRedirect (k : Nat) (c : Nat) (s : State) : Host.Outcome State Fault Refusal :=
  s.run fun d => d.redirectThread k c

/-- Row ASYNC_TRAP (R252). -/
def execAsyncTrap (k : Nat) (c : Nat) (point : Option (Nat × Nat × Nat × Nat × List Nat)) (s : State) : Host.Outcome State Fault Refusal :=
  s.run fun d => d.asyncTrap k c point

/-- Row BUDGET_EXCEEDED (R252). -/
def execBudgetExceeded (k : Nat) (c : Nat) (s : State) : Host.Outcome State Fault Refusal :=
  s.run fun d => d.budgetExceeded k c

/-- Row ENGINE_WAIT_TIMEOUT (R248). -/
def execEngineWaitTimeout (k : Nat) (c : Nat) (addr : Nat) (s : State) : Host.Outcome State Fault Refusal :=
  s.run fun d => d.engineTimeout k c addr

/-- Row CONTROL_STORE_SCRUB (R258). -/
def execControlStoreScrub (k : Nat) (bad : Option (Nat × Nat)) (s : State) : Host.Outcome State Fault Refusal :=
  s.run fun d => d.scrub k bad

/-- Row MCE_CS_WRITE (R259). -/
def execMceCsWrite (m : Nat) (k : Nat) (bcast : Bool) (s : State) : Host.Outcome State Fault Refusal :=
  s.run fun d => d.writeReg m (clAddr k 0x10034) (2 + 4 * b2n bcast)

/-- Row MCE_CS_READ (R259). -/
def execMceCsRead (m : Nat) (k : Nat) (s : State) : Host.Outcome State Fault Refusal :=
  s.run fun d => d.writeReg m (clAddr k 0x10034) 1

/-- Row MCE_DISP_WRITE (R263). -/
def execMceDispWrite (m : Nat) (k : Nat) (op : Nat) (v : Nat) (s : State) : Host.Outcome State Fault Refusal :=
  s.run fun d => d.writeReg m (clAddr k (0x10400 + 4 * op)) v

/-- Row MCE_LOADED_SET (R260). -/
def execMceLoadedSet (m : Nat) (k : Nat) (s : State) : Host.Outcome State Fault Refusal :=
  s.run fun d => d.writeField m (clAddr k 0x10000) 0 1 1

/-- Row MCE_XREQ_SET (R262). -/
def execMceXreqSet (m : Nat) (k : Nat) (c : Nat) (s : State) : Host.Outcome State Fault Refusal :=
  s.run fun d => d.writeReg m (clAddr k (0x10028 + 4 * (c / 32))) (2 ^ (c % 32))

end Sys2Proof.Machine
end

