-- ==== Sys2Proof/Machine/RowsTime.lean ====
section
/-! DEFINITION. The meanings of the rows of the timebase, islands, pace windows, the Beacon and time transfer (R17 to R27, R50 to R76). -/

namespace Sys2Proof.Machine

/-- Row REF_LOSS (R52). -/
def execRefLoss (s : State) : Host.Outcome State Fault Refusal :=
  s.run fun d => d.refLoss

/-- Row REF_QUALIFY (R51). -/
def execRefQualify (src : Nat) (f100 : Bool) (ofs : Int) (amp : Int) (s : State) : Host.Outcome State Fault Refusal :=
  s.run fun d => d.refQualify src f100 ofs amp

/-- Row TB_LOCK (R54). -/
def execTbLock (s : State) : Host.Outcome State Fault Refusal :=
  s.run fun d => d.tbLock

/-- Row TB_FREERUN (R52). -/
def execTbFreerun (s : State) : Host.Outcome State Fault Refusal :=
  s.run fun d => d.freerun

/-- Row TB_DTSET (R56). -/
def execTbDtset (m : Nat) (v : Nat) (s : State) : Host.Outcome State Fault Refusal :=
  s.run fun d => d.writeReg m (devAddr 0x10014) v

/-- Row ISLAND_UNLOCK (R58). -/
def execIslandUnlock (i : Nat) (s : State) : Host.Outcome State Fault Refusal :=
  s.run fun d => d.islandUnlock i

/-- Row ISLAND_RELOCK (R58). -/
def execIslandRelock (i : Nat) (s : State) : Host.Outcome State Fault Refusal :=
  s.run fun d => d.islandRelock i

/-- Row PACE_WINDOW (R26). -/
def execPaceWindow (k : Nat) (s : State) : Host.Outcome State Fault Refusal :=
  s.run fun d => d.paceWindow k

/-- Row ROLE_DECIDE (R60). -/
def execRoleDecide (clk : Bool) (term : Bool) (s : State) : Host.Outcome State Fault Refusal :=
  s.run fun d => d.roleDecide clk term

/-- Row ROLE_REQ_WRITE (R60). -/
def execRoleReqWrite (m : Nat) (v : Nat) (s : State) : Host.Outcome State Fault Refusal :=
  s.run fun d => d.writeField m (devAddr 0x20000) 0 2 v

/-- Row ROLE_REQ_SAVE (R60). -/
def execRoleReqSave (s : State) : Host.Outcome State Fault Refusal :=
  s.run fun d => d.roleSave

/-- Row BEACON_CYCLE (R61). -/
def execBeaconCycle (s : State) : Host.Outcome State Fault Refusal :=
  s.runHost fun d => d.beaconCycle

/-- Row BEACON_IDLE (R63). -/
def execBeaconIdle (s : State) : Host.Outcome State Fault Refusal :=
  s.runHost fun d => d.beaconIdle

/-- Row BEACON_FRAME_BAD (R63). -/
def execBeaconFrameBad (s : State) : Host.Outcome State Fault Refusal :=
  s.runHost fun d => d.beaconBad

/-- Row BEACON_ENUM (R66). -/
def execBeaconEnum (p : Nat) (s : State) : Host.Outcome State Fault Refusal :=
  s.runHost fun d => d.beaconEnum p

/-- Row BEACON_DREQ (R67). -/
def execBeaconDreq (dest : Nat) (t2 : Nat) (s : State) : Host.Outcome State Fault Refusal :=
  s.runHost fun d => d.beaconDreq dest t2

/-- Row BEACON_OFFSET (R67). -/
def execBeaconOffset (dest : Nat) (dp : Nat) (s : State) : Host.Outcome State Fault Refusal :=
  s.runHost fun d => d.beaconOffset dest dp

/-- Row BEACON_EPOCH (R68). -/
def execBeaconEpoch (execAt : Nat) (arr : Nat) (set_ : Bool) (force : Bool) (s : State) : Host.Outcome State Fault Refusal :=
  s.runHost fun d => d.beaconEpoch execAt arr set_ force

/-- Row BEACON_TRIG (R69). -/
def execBeaconTrig (num : Nat) (origin : Nat) (execAt : Nat) (s : State) : Host.Outcome State Fault Refusal :=
  s.runHost fun d => d.beaconAct 0 num origin execAt

/-- Row BEACON_SYNC (R69). -/
def execBeaconSync (num : Nat) (origin : Nat) (execAt : Nat) (s : State) : Host.Outcome State Fault Refusal :=
  s.runHost fun d => d.beaconAct 1 num origin execAt

/-- Row BEACON_ESTOP (R69). -/
def execBeaconEstop (num : Nat) (origin : Nat) (execAt : Nat) (s : State) : Host.Outcome State Fault Refusal :=
  s.runHost fun d => d.beaconEstop num origin execAt

/-- Row BEACON_ENUM_ACK (R66). -/
def execBeaconEnumAck (s : State) : Host.Outcome State Fault Refusal :=
  s.runHost fun d => d.beaconEnumAck

/-- Row BEACON_DRSP (R67). -/
def execBeaconDrsp (t4 : Nat) (turn : Nat) (s : State) : Host.Outcome State Fault Refusal :=
  s.runHost fun d => d.beaconDrsp t4 turn

/-- Row BEACON_TRIG_REQ (R70). -/
def execBeaconTrigReq (num : Nat) (origin : Nat) (s : State) : Host.Outcome State Fault Refusal :=
  s.runHost fun d => d.beaconReq 0 num origin

/-- Row BEACON_SYNC_REQ (R70). -/
def execBeaconSyncReq (num : Nat) (origin : Nat) (s : State) : Host.Outcome State Fault Refusal :=
  s.runHost fun d => d.beaconReq 1 num origin

/-- Row BEACON_ESTOP_UP (R70). -/
def execBeaconEstopUp (origin : Nat) (s : State) : Host.Outcome State Fault Refusal :=
  s.runHost fun d => d.beaconEstopUp origin

/-- Row BEACON_UPSTREAM_SEND (R61). -/
def execBeaconUpstreamSend (which : Nat) (s : State) : Host.Outcome State Fault Refusal :=
  s.runHost fun d => d.beaconUp which

/-- Row BEACON_TRIG_EXEC (R69). -/
def execBeaconTrigExec (s : State) : Host.Outcome State Fault Refusal :=
  s.runHost fun d => d.trigExec

/-- Row BEACON_SYNC_EXEC (R69). -/
def execBeaconSyncExec (s : State) : Host.Outcome State Fault Refusal :=
  s.runHost fun d => d.syncExec

/-- Row BEACON_ESTOP_EXEC (R69). -/
def execBeaconEstopExec (s : State) : Host.Outcome State Fault Refusal :=
  s.runHost fun d => d.estopExec

/-- Row ENUM_TIMEOUT (R66). -/
def execEnumTimeout (s : State) : Host.Outcome State Fault Refusal :=
  s.runHost fun d => d.enumTimeout

/-- Row BCN_ENUM (R66). -/
def execBcnEnum (m : Nat) (s : State) : Host.Outcome State Fault Refusal :=
  s.run fun d => d.writeReg m (devAddr 0x2000C) 1

/-- Row BCN_RECAL (R67). -/
def execBcnRecal (m : Nat) (s : State) : Host.Outcome State Fault Refusal :=
  s.run fun d => d.writeReg m (devAddr 0x2000C) 2

/-- Row BCN_SET_EPOCH (R68). -/
def execBcnSetEpoch (m : Nat) (s : State) : Host.Outcome State Fault Refusal :=
  s.run fun d => d.writeReg m (devAddr 0x2000C) 4

/-- Row BCN_SEND (R80). -/
def execBcnSend (m : Nat) (sync : Bool) (num : Nat) (s : State) : Host.Outcome State Fault Refusal :=
  s.run fun d => d.writeReg m (devAddr 0x20020) (b2n sync * 2 ^ 16 + num % 256)

/-- Row EPOCH_TIMER (R68). -/
def execEpochTimer (s : State) : Host.Outcome State Fault Refusal :=
  s.runHost fun d => d.epochTimer

/-- Row BEACON_MSG_LOSS (R71). -/
def execBeaconMsgLoss (s : State) : Host.Outcome State Fault Refusal :=
  s.runHost fun d => d.msgLoss

/-- Row BEACON_CLK_LOSS (R71). -/
def execBeaconClkLoss (s : State) : Host.Outcome State Fault Refusal :=
  s.runHost fun d => d.clkLoss

/-- Row FEF_TIMING_SEND (R73). -/
def execFefTimingSend (l : Nat) (s : State) : Host.Outcome State Fault Refusal :=
  s.run fun d => d.fefSend l

/-- Row FEF_TIMING_FRAME (R73). -/
def execFefTimingFrame (l : Nat) (t1 : Nat) (t2 : Nat) (t3 : Nat) (t4 : Nat) (crcOk : Bool) (unc : Bool) (s : State) : Host.Outcome State Fault Refusal :=
  s.run fun d => d.fefFrame l t1 t2 t3 t4 crcOk unc

/-- Row PTP_EVENT_MESSAGE (R76). -/
def execPtpEventMessage (tai : Nat) (unc : Nat) (changed : Bool) (s : State) : Host.Outcome State Fault Refusal :=
  s.run fun d => d.ptp tai unc changed

end Sys2Proof.Machine
end

