-- ==== Sys2Proof/Machine/Dispatch.lean ====
section
/-! DEFINITION. One arm per command. -/

namespace Sys2Proof.Machine

def exec (i : Instr) (s : State) : Host.Outcome State Fault Refusal :=
  match i with
  | .regWrite m addr v => Sys2Proof.Machine.execRegWrite m addr v s
  | .regPairLowRead m addr => Sys2Proof.Machine.execRegPairLowRead m addr s
  | .regPairLowWrite m addr v => Sys2Proof.Machine.execRegPairLowWrite m addr v s
  | .regPairHighWrite m addr v => Sys2Proof.Machine.execRegPairHighWrite m addr v s
  | .regRcRead m addr => Sys2Proof.Machine.execRegRcRead m addr s
  | .lockSet m => Sys2Proof.Machine.execLockSet m s
  | .powerOn fell => Sys2Proof.Machine.execPowerOn fell s
  | .resetN inRange => Sys2Proof.Machine.execResetN inRange s
  | .powerFail high => Sys2Proof.Machine.execPowerFail high s
  | .powerfailLanesOff => Sys2Proof.Machine.execPowerfailLanesOff s
  | .powerOnAfterOvervoltage => Sys2Proof.Machine.execPowerOnAfterOvervoltage s
  | .supplyMeasure vmain vpilot => Sys2Proof.Machine.execSupplyMeasure vmain vpilot s
  | .junctionSample temps => Sys2Proof.Machine.execJunctionSample temps s
  | .cmRange n isI => Sys2Proof.Machine.execCmRange n isI s
  | .bootReady idBad calBad bad => Sys2Proof.Machine.execBootReady idBad calBad bad s
  | .refLoss => Sys2Proof.Machine.execRefLoss s
  | .refQualify src f100 ofs amp => Sys2Proof.Machine.execRefQualify src f100 ofs amp s
  | .tbLock => Sys2Proof.Machine.execTbLock s
  | .tbFreerun => Sys2Proof.Machine.execTbFreerun s
  | .tbDtset m v => Sys2Proof.Machine.execTbDtset m v s
  | .islandUnlock i_ => Sys2Proof.Machine.execIslandUnlock i_ s
  | .islandRelock i_ => Sys2Proof.Machine.execIslandRelock i_ s
  | .paceWindow k => Sys2Proof.Machine.execPaceWindow k s
  | .roleDecide clk term => Sys2Proof.Machine.execRoleDecide clk term s
  | .roleReqWrite m v => Sys2Proof.Machine.execRoleReqWrite m v s
  | .roleReqSave => Sys2Proof.Machine.execRoleReqSave s
  | .beaconCycle => Sys2Proof.Machine.execBeaconCycle s
  | .beaconIdle => Sys2Proof.Machine.execBeaconIdle s
  | .beaconFrameBad => Sys2Proof.Machine.execBeaconFrameBad s
  | .beaconEnum p => Sys2Proof.Machine.execBeaconEnum p s
  | .beaconDreq dest t2 => Sys2Proof.Machine.execBeaconDreq dest t2 s
  | .beaconOffset dest dp => Sys2Proof.Machine.execBeaconOffset dest dp s
  | .beaconEpoch execAt arr set_ force => Sys2Proof.Machine.execBeaconEpoch execAt arr set_ force s
  | .beaconTrig num origin execAt => Sys2Proof.Machine.execBeaconTrig num origin execAt s
  | .beaconSync num origin execAt => Sys2Proof.Machine.execBeaconSync num origin execAt s
  | .beaconEstop num origin execAt => Sys2Proof.Machine.execBeaconEstop num origin execAt s
  | .beaconEnumAck => Sys2Proof.Machine.execBeaconEnumAck s
  | .beaconDrsp t4 turn => Sys2Proof.Machine.execBeaconDrsp t4 turn s
  | .beaconTrigReq num origin => Sys2Proof.Machine.execBeaconTrigReq num origin s
  | .beaconSyncReq num origin => Sys2Proof.Machine.execBeaconSyncReq num origin s
  | .beaconEstopUp origin => Sys2Proof.Machine.execBeaconEstopUp origin s
  | .beaconUpstreamSend which => Sys2Proof.Machine.execBeaconUpstreamSend which s
  | .beaconTrigExec => Sys2Proof.Machine.execBeaconTrigExec s
  | .beaconSyncExec => Sys2Proof.Machine.execBeaconSyncExec s
  | .beaconEstopExec => Sys2Proof.Machine.execBeaconEstopExec s
  | .enumTimeout => Sys2Proof.Machine.execEnumTimeout s
  | .bcnEnum m => Sys2Proof.Machine.execBcnEnum m s
  | .bcnRecal m => Sys2Proof.Machine.execBcnRecal m s
  | .bcnSetEpoch m => Sys2Proof.Machine.execBcnSetEpoch m s
  | .bcnSend m sync num => Sys2Proof.Machine.execBcnSend m sync num s
  | .epochTimer => Sys2Proof.Machine.execEpochTimer s
  | .beaconMsgLoss => Sys2Proof.Machine.execBeaconMsgLoss s
  | .beaconClkLoss => Sys2Proof.Machine.execBeaconClkLoss s
  | .fefTimingSend l => Sys2Proof.Machine.execFefTimingSend l s
  | .fefTimingFrame l t1 t2 t3 t4 crcOk unc => Sys2Proof.Machine.execFefTimingFrame l t1 t2 t3 t4 crcOk unc s
  | .ptpEventMessage tai unc changed => Sys2Proof.Machine.execPtpEventMessage tai unc changed s
  | .halfRampStart a => Sys2Proof.Machine.execHalfRampStart a s
  | .halfRampEnd a stamps clips => Sys2Proof.Machine.execHalfRampEnd a stamps clips s
  | .conversion n isI falling merged stamp stamps => Sys2Proof.Machine.execConversion n isI falling merged stamp stamps s
  | .taperGridWrite m a phase v => Sys2Proof.Machine.execTaperGridWrite m a phase v s
  | .taperRetime a => Sys2Proof.Machine.execTaperRetime a s
  | .taperEnSet m a => Sys2Proof.Machine.execTaperEnSet m a s
  | .taperEnClear m a => Sys2Proof.Machine.execTaperEnClear m a s
  | .taperStop a => Sys2Proof.Machine.execTaperStop a s
  | .calRound a => Sys2Proof.Machine.execCalRound a s
  | .calCoefLoad a ar af b ar2 af2 b2 => Sys2Proof.Machine.execCalCoefLoad a ar af b ar2 af2 b2 s
  | .calOpRound m a mask => Sys2Proof.Machine.execCalOpRound m a mask s
  | .calOpTraceTap m a tap mask => Sys2Proof.Machine.execCalOpTraceTap m a tap mask s
  | .calOpTraceIcalH m a mask => Sys2Proof.Machine.execCalOpTraceIcalH m a mask s
  | .calOpTraceIcalL m a mask => Sys2Proof.Machine.execCalOpTraceIcalL m a mask s
  | .calOpCommit m a mask => Sys2Proof.Machine.execCalOpCommit m a mask s
  | .calOpDiscard m a mask => Sys2Proof.Machine.execCalOpDiscard m a mask s
  | .traceDone a delta outside sq => Sys2Proof.Machine.execTraceDone a delta outside sq s
  | .calCandidateExpire a => Sys2Proof.Machine.execCalCandidateExpire a s
  | .chFlgRead m n isI => Sys2Proof.Machine.execChFlgRead m n isI s
  | .windowTransition n k into unc merged t => Sys2Proof.Machine.execWindowTransition n k into unc merged t s
  | .windowMaskEnd n k now => Sys2Proof.Machine.execWindowMaskEnd n k now s
  | .wfinfoRead m n => Sys2Proof.Machine.execWfinfoRead m n s
  | .stiArm m k u => Sys2Proof.Machine.execStiArm m k u s
  | .stiDisarm m k u => Sys2Proof.Machine.execStiDisarm m k u s
  | .stiDone k u => Sys2Proof.Machine.execStiDone k u s
  | .stiTimeout k u => Sys2Proof.Machine.execStiTimeout k u s
  | .afeSkcmdGo m a mask => Sys2Proof.Machine.execAfeSkcmdGo m a mask s
  | .deskewLoad n isI sum => Sys2Proof.Machine.execDeskewLoad n isI sum s
  | .motCount a b t held => Sys2Proof.Machine.execMotCount a b t held s
  | .motZEdge rising t => Sys2Proof.Machine.execMotZEdge rising t s
  | .motXgEdge rising t => Sys2Proof.Machine.execMotXgEdge rising t s
  | .motCpEdge k rising t => Sys2Proof.Machine.execMotCpEdge k rising t s
  | .motCoastEdge high t => Sys2Proof.Machine.execMotCoastEdge high t s
  | .commit n => Sys2Proof.Machine.execCommit n s
  | .loopUpdate n => Sys2Proof.Machine.execLoopUpdate n s
  | .stepEndTime n => Sys2Proof.Machine.execStepEndTime n s
  | .formatEdge n => Sys2Proof.Machine.execFormatEdge n s
  | .formatDone n => Sys2Proof.Machine.execFormatDone n s
  | .stepAbortEnd n => Sys2Proof.Machine.execStepAbortEnd n s
  | .edgeSlotFire n j => Sys2Proof.Machine.execEdgeSlotFire n j s
  | .edgeSlotArm m n j act => Sys2Proof.Machine.execEdgeSlotArm m n j act s
  | .edgeSlotDisarm m n j => Sys2Proof.Machine.execEdgeSlotDisarm m n j s
  | .accIntegrate n => Sys2Proof.Machine.execAccIntegrate n s
  | .clrtot m n => Sys2Proof.Machine.execClrtot m n s
  | .shadowRead m n => Sys2Proof.Machine.execShadowRead m n s
  | .psfsWrite m n r v => Sys2Proof.Machine.execPsfsWrite m n r v s
  | .impedWindowStart n => Sys2Proof.Machine.execImpedWindowStart n s
  | .impedWindowEnd n => Sys2Proof.Machine.execImpedWindowEnd n s
  | .driveFrame g => Sys2Proof.Machine.execDriveFrame g s
  | .statusFrame g fault range temp echo tag flags desc => Sys2Proof.Machine.execStatusFrame g fault range temp echo tag flags desc s
  | .statusFrameBad g => Sys2Proof.Machine.execStatusFrameBad g s
  | .statusLockLoss g => Sys2Proof.Machine.execStatusLockLoss g s
  | .setupAckTimeout n => Sys2Proof.Machine.execSetupAckTimeout n s
  | .setupRepeat n => Sys2Proof.Machine.execSetupRepeat n s
  | .rangeResume n => Sys2Proof.Machine.execRangeResume n s
  | .laneEnable m => Sys2Proof.Machine.execLaneEnable m s
  | .lanesIdle => Sys2Proof.Machine.execLanesIdle s
  | .laneDisable m => Sys2Proof.Machine.execLaneDisable m s
  | .lanesOff => Sys2Proof.Machine.execLanesOff s
  | .identifyOn m g mask => Sys2Proof.Machine.execIdentifyOn m g mask s
  | .identifyOff m g mask => Sys2Proof.Machine.execIdentifyOff m g mask s
  | .hostSnuff m n => Sys2Proof.Machine.execHostSnuff m n s
  | .hostRearm m n => Sys2Proof.Machine.execHostRearm m n s
  | .snuffAll m => Sys2Proof.Machine.execSnuffAll m s
  | .ilkEstopOpen => Sys2Proof.Machine.execIlkEstopOpen s
  | .ilkEstopClose => Sys2Proof.Machine.execIlkEstopClose s
  | .instructionFetch k c mck => Sys2Proof.Machine.execInstructionFetch k c mck s
  | .nop k c => Sys2Proof.Machine.execNop k c s
  | .halt k c a ucode => Sys2Proof.Machine.execHalt k c a ucode s
  | .jmp k c target => Sys2Proof.Machine.execJmp k c target s
  | .jcc k c cond target => Sys2Proof.Machine.execJcc k c cond target s
  | .call k c cond target => Sys2Proof.Machine.execCall k c cond target s
  | .ret k c cond => Sys2Proof.Machine.execRet k c cond s
  | .loop k c x target => Sys2Proof.Machine.execLoop k c x target s
  | .waitc k c cls reg timeout => Sys2Proof.Machine.execWaitc k c cls reg timeout s
  | .waitt k c base reg timeout => Sys2Proof.Machine.execWaitt k c base reg timeout s
  | .sync k c b reg timeout => Sys2Proof.Machine.execSync k c b reg timeout s
  | .yield k c => Sys2Proof.Machine.execYield k c s
  | .signal k c a b => Sys2Proof.Machine.execSignal k c a b s
  | .fence k c => Sys2Proof.Machine.execFence k c s
  | .movi k c dst cls hi imm => Sys2Proof.Machine.execMovi k c dst cls hi imm s
  | .mov k c dst src dcls scls => Sys2Proof.Machine.execMov k c dst src dcls scls s
  | .ld k c dst a ofs sg sz => Sys2Proof.Machine.execLd k c dst a ofs sg sz s
  | .st k c a b ofs sz => Sys2Proof.Machine.execSt k c a b ofs sz s
  | .add k c dst a b => Sys2Proof.Machine.execAdd k c dst a b s
  | .sub k c dst a b => Sys2Proof.Machine.execSub k c dst a b s
  | .mul k c dst a b sg hi => Sys2Proof.Machine.execMul k c dst a b sg hi s
  | .divq k c dst a b sg rem => Sys2Proof.Machine.execDivq k c dst a b sg rem s
  | .and k c dst a b => Sys2Proof.Machine.execAnd k c dst a b s
  | .or k c dst a b => Sys2Proof.Machine.execOr k c dst a b s
  | .xor k c dst a b => Sys2Proof.Machine.execXor k c dst a b s
  | .shl k c dst a b => Sys2Proof.Machine.execShl k c dst a b s
  | .shr k c dst a b sg => Sys2Proof.Machine.execShr k c dst a b sg s
  | .cmp k c a b => Sys2Proof.Machine.execCmp k c a b s
  | .min k c dst a b sg => Sys2Proof.Machine.execMin k c dst a b sg s
  | .max k c dst a b sg => Sys2Proof.Machine.execMax k c dst a b sg s
  | .sel k c dst a b cond => Sys2Proof.Machine.execSel k c dst a b cond s
  | .rds k c dst item => Sys2Proof.Machine.execRds k c dst item s
  | .tlu k c dst a b => Sys2Proof.Machine.execTlu k c dst a b s
  | .atadd k c dst a b sg swp sz => Sys2Proof.Machine.execAtadd k c dst a b sg swp sz s
  | .waitConditionMet k c => Sys2Proof.Machine.execWaitConditionMet k c s
  | .waitTimeout k c => Sys2Proof.Machine.execWaitTimeout k c s
  | .waittDeadline k c => Sys2Proof.Machine.execWaittDeadline k c s
  | .threadRun m k c => Sys2Proof.Machine.execThreadRun m k c s
  | .hostHalt m k c => Sys2Proof.Machine.execHostHalt m k c s
  | .hostAbort m k c => Sys2Proof.Machine.execHostAbort m k c s
  | .runmaskWrite m k v => Sys2Proof.Machine.execRunmaskWrite m k v s
  | .haltreqWrite m k v => Sys2Proof.Machine.execHaltreqWrite m k v s
  | .quiesce m k => Sys2Proof.Machine.execQuiesce m k s
  | .quiesceRelease m k => Sys2Proof.Machine.execQuiesceRelease m k s
  | .threadStateWrite m k c off v => Sys2Proof.Machine.execThreadStateWrite m k c off v s
  | .programRegionWrite m k size v => Sys2Proof.Machine.execProgramRegionWrite m k size v s
  | .step k c a => Sys2Proof.Machine.execStep k c a s
  | .setp k c w b => Sys2Proof.Machine.execSetp k c w b s
  | .limit k c comp ctl b => Sys2Proof.Machine.execLimit k c comp ctl b s
  | .expect k c e w b => Sys2Proof.Machine.execExpect k c e w b s
  | .expectCheck k c dst => Sys2Proof.Machine.execExpectCheck k c dst s
  | .endc k c e val b => Sys2Proof.Machine.execEndc k c e val b s
  | .irange k c r => Sys2Proof.Machine.execIrange k c r s
  | .psrange k c r w => Sys2Proof.Machine.execPsrange k c r w s
  | .soft k c b => Sys2Proof.Machine.execSoft k c b s
  | .snuff k c => Sys2Proof.Machine.execSnuff k c s
  | .enable k c => Sys2Proof.Machine.execEnable k c s
  | .ldtab k c dst a b part => Sys2Proof.Machine.execLdtab k c dst a b part s
  | .fmt k c w b => Sys2Proof.Machine.execFmt k c w b s
  | .fmtLoad k c f => Sys2Proof.Machine.execFmtLoad k c f s
  | .meas k c dst isI align b => Sys2Proof.Machine.execMeas k c dst isI align b s
  | .measAsync k c isI align b => Sys2Proof.Machine.execMeasAsync k c isI align b s
  | .measCollect k c dst isI => Sys2Proof.Machine.execMeasCollect k c dst isI s
  | .averageDone n isI => Sys2Proof.Machine.execAverageDone n isI s
  | .accRc k c dst => Sys2Proof.Machine.execAccRc k c dst s
  | .accClr k c => Sys2Proof.Machine.execAccClr k c s
  | .arm k c dst b => Sys2Proof.Machine.execArm k c dst b s
  | .armDis k c dst => Sys2Proof.Machine.execArmDis k c dst s
  | .trigEdge k c j act a b => Sys2Proof.Machine.execTrigEdge k c j act a b s
  | .trigCapture k c => Sys2Proof.Machine.execTrigCapture k c s
  | .trigBeacon k c sync b => Sys2Proof.Machine.execTrigBeacon k c sync b s
  | .mark k c b => Sys2Proof.Machine.execMark k c b s
  | .markStep k c b => Sys2Proof.Machine.execMarkStep k c b s
  | .record k c typ a b => Sys2Proof.Machine.execRecord k c typ a b s
  | .imped k c w b => Sys2Proof.Machine.execImped k c w b s
  | .stampArm k c u => Sys2Proof.Machine.execStampArm k c u s
  | .stampDis k c u => Sys2Proof.Machine.execStampDis k c u s
  | .stampRd k c dst u => Sys2Proof.Machine.execStampRd k c dst u s
  | .stampCfg k c u a b => Sys2Proof.Machine.execStampCfg k c u a b s
  | .redirect k c => Sys2Proof.Machine.execRedirect k c s
  | .asyncTrap k c point => Sys2Proof.Machine.execAsyncTrap k c point s
  | .budgetExceeded k c => Sys2Proof.Machine.execBudgetExceeded k c s
  | .engineWaitTimeout k c addr => Sys2Proof.Machine.execEngineWaitTimeout k c addr s
  | .controlStoreScrub k bad => Sys2Proof.Machine.execControlStoreScrub k bad s
  | .mceCsWrite m k bcast => Sys2Proof.Machine.execMceCsWrite m k bcast s
  | .mceCsRead m k => Sys2Proof.Machine.execMceCsRead m k s
  | .mceDispWrite m k op v => Sys2Proof.Machine.execMceDispWrite m k op v s
  | .mceLoadedSet m k => Sys2Proof.Machine.execMceLoadedSet m k s
  | .mceXreqSet m k c => Sys2Proof.Machine.execMceXreqSet m k c s
  | .failRecordWrite => Sys2Proof.Machine.execFailRecordWrite s
  | .failSpillMove => Sys2Proof.Machine.execFailSpillMove s
  | .failSpillModeWrite m on_ => Sys2Proof.Machine.execFailSpillModeWrite m on_ s
  | .capArmWrite m n i_ => Sys2Proof.Machine.execCapArmWrite m n i_ s
  | .capDisarmWrite m n => Sys2Proof.Machine.execCapDisarmWrite m n s
  | .capForce m n => Sys2Proof.Machine.execCapForce m n s
  | .captureTrigger n => Sys2Proof.Machine.execCaptureTrigger n s
  | .captureSample n => Sys2Proof.Machine.execCaptureSample n s
  | .captureHoldoffEnd n => Sys2Proof.Machine.execCaptureHoldoffEnd n s
  | .streamSlot n => Sys2Proof.Machine.execStreamSlot n s
  | .streamResume n => Sys2Proof.Machine.execStreamResume n s
  | .streamWaitEnd n => Sys2Proof.Machine.execStreamWaitEnd n s
  | .streamRingRead n => Sys2Proof.Machine.execStreamRingRead n s
  | .stwrWrite m n v => Sys2Proof.Machine.execStwrWrite m n v s
  | .stcmdJump m n seg passEnd => Sys2Proof.Machine.execStcmdJump m n seg passEnd s
  | .stcmdGo m n => Sys2Proof.Machine.execStcmdGo m n s
  | .strmCfg k c dst a => Sys2Proof.Machine.execStrmCfg k c dst a s
  | .strmReset k c => Sys2Proof.Machine.execStrmReset k c s
  | .strmGo k c => Sys2Proof.Machine.execStrmGo k c s
  | .strmStat k c dst => Sys2Proof.Machine.execStrmStat k c dst s
  | .strmSlip k c dst => Sys2Proof.Machine.execStrmSlip k c dst s
  | .seg k c a => Sys2Proof.Machine.execSeg k c a s
  | .segCopy k c dst a b => Sys2Proof.Machine.execSegCopy k c dst a b s
  | .sjmp k c passEnd b => Sys2Proof.Machine.execSjmp k c passEnd b s
  | .schedGuard => Sys2Proof.Machine.execSchedGuard s
  | .schedWclose => Sys2Proof.Machine.execSchedWclose s
  | .schedDeadline => Sys2Proof.Machine.execSchedDeadline s
  | .schedGate => Sys2Proof.Machine.execSchedGate s
  | .schedWopen => Sys2Proof.Machine.execSchedWopen s
  | .schedEvent => Sys2Proof.Machine.execSchedEvent s
  | .gatePulseEnd k => Sys2Proof.Machine.execGatePulseEnd k s
  | .hostScheduleAdd m act arg => Sys2Proof.Machine.execHostScheduleAdd m act arg s
  | .motCoastCmd m => Sys2Proof.Machine.execMotCoastCmd m s
  | .motResume m => Sys2Proof.Machine.execMotResume m s
  | .motSchclr m => Sys2Proof.Machine.execMotSchclr m s
  | .motVelUpdate => Sys2Proof.Machine.execMotVelUpdate s
  | .mwin k c dst a b slot act guard cp => Sys2Proof.Machine.execMwin k c dst a b slot act guard cp s
  | .msort k c dst a => Sys2Proof.Machine.execMsort k c dst a s
  | .ctlook k c dst a b => Sys2Proof.Machine.execCtlook k c dst a b s
  | .ctlookCar k c dst a b => Sys2Proof.Machine.execCtlookCar k c dst a b s
  | .ctupdUpdate k c dst a b => Sys2Proof.Machine.execCtupdUpdate k c dst a b s
  | .ctupdInsert k c dst a b => Sys2Proof.Machine.execCtupdInsert k c dst a b s
  | .ctupdUpsert k c dst a b => Sys2Proof.Machine.execCtupdUpsert k c dst a b s
  | .ctupdRetire k c dst a b => Sys2Proof.Machine.execCtupdRetire k c dst a b s
  | .ctseal k c dst => Sys2Proof.Machine.execCtseal k c dst s
  | .ctSealCmd m => Sys2Proof.Machine.execCtSealCmd m s
  | .ctFlush m => Sys2Proof.Machine.execCtFlush m s
  | .ctFlushDone => Sys2Proof.Machine.execCtFlushDone s
  | .ctEnable m => Sys2Proof.Machine.execCtEnable m s
  | .ctRecountDone => Sys2Proof.Machine.execCtRecountDone s
  | .batchAgeClose => Sys2Proof.Machine.execBatchAgeClose s
  | .batchSigned sig => Sys2Proof.Machine.execBatchSigned sig s
  | .fefCellrec l img car lcn upd map => Sys2Proof.Machine.execFefCellrec l img car lcn upd map s
  | .bankAccess b reqs => Sys2Proof.Machine.execBankAccess b reqs s
  | .eccWriteback b => Sys2Proof.Machine.execEccWriteback b s
  | .btBorrow => Sys2Proof.Machine.execBtBorrow s
  | .btReturn fault cut => Sys2Proof.Machine.execBtReturn fault cut s
  | .regionWrite m mast t i_ hi v => Sys2Proof.Machine.execRegionWrite m mast t i_ hi v s
  | .ddrTrainingDone err arr ranks2 dens32 drfm => Sys2Proof.Machine.execDdrTrainingDone err arr ranks2 dens32 drfm s
  | .ddrCommandSlot x => Sys2Proof.Machine.execDdrCommandSlot x s
  | .ddrRefreshInterval x r => Sys2Proof.Machine.execDdrRefreshInterval x r s
  | .ddrMr4Poll x r code => Sys2Proof.Machine.execDdrMr4Poll x r code s
  | .ddrRhTableClear x r => Sys2Proof.Machine.execDdrRhTableClear x r s
  | .ddrPatrolScrub n => Sys2Proof.Machine.execDdrPatrolScrub n s
  | .ddrSrEntry x => Sys2Proof.Machine.execDdrSrEntry x s
  | .ddrSrExit x => Sys2Proof.Machine.execDdrSrExit x s
  | .hostDoorbell m v => Sys2Proof.Machine.execHostDoorbell m v s
  | .eventCoalTimer => Sys2Proof.Machine.execEventCoalTimer s
  | .lapRead p sid seq ack addr count => Sys2Proof.Machine.execLapRead p sid seq ack addr count s
  | .lapWrite p sid seq ack addr data => Sys2Proof.Machine.execLapWrite p sid seq ack addr data s
  | .lapBulkRead p sid seq ack addr len => Sys2Proof.Machine.execLapBulkRead p sid seq ack addr len s
  | .lapBulkWrite p sid seq ack addr len data => Sys2Proof.Machine.execLapBulkWrite p sid seq ack addr len data s
  | .lapStream p sid seq ack lcn first entries => Sys2Proof.Machine.execLapStream p sid seq ack lcn first entries s
  | .lapAck p sid ack sack => Sys2Proof.Machine.execLapAck p sid ack sack s
  | .lapDiscard => Sys2Proof.Machine.execLapDiscard s
  | .lapAckTimer i_ => Sys2Proof.Machine.execLapAckTimer i_ s
  | .lapRetransmit i_ => Sys2Proof.Machine.execLapRetransmit i_ s
  | .lapSessionIdle i_ => Sys2Proof.Machine.execLapSessionIdle i_ s
  | .lapSessionEnd m i_ => Sys2Proof.Machine.execLapSessionEnd m i_ s
  | .recordSend q count => Sys2Proof.Machine.execRecordSend q count s
  | .ethLinkChange p up speed => Sys2Proof.Machine.execEthLinkChange p up speed s
  | .fefEvrel l kind num hops origin oseq at_ => Sys2Proof.Machine.execFefEvrel l kind num hops origin oseq at_ s
  | .fefAck l ack => Sys2Proof.Machine.execFefAck l ack s
  | .fefFrameBad l => Sys2Proof.Machine.execFefFrameBad l s
  | .fefRetransmit l => Sys2Proof.Machine.execFefRetransmit l s
  | .secProgram m => Sys2Proof.Machine.execSecProgram m s
  | .secStore m => Sys2Proof.Machine.execSecStore m s
  | .secConfirm m => Sys2Proof.Machine.execSecConfirm m s
  | .secAttest m => Sys2Proof.Machine.execSecAttest m s
  | .secCalcert m => Sys2Proof.Machine.execSecCalcert m s
  | .secSavekeys m => Sys2Proof.Machine.execSecSavekeys m s
  | .flashOpDone ok => Sys2Proof.Machine.execFlashOpDone ok s
  | .attestDone rom image mc cal mismatch patches sig => Sys2Proof.Machine.execAttestDone rom image mc cal mismatch patches sig s
  | .calcertDone sig => Sys2Proof.Machine.execCalcertDone sig s
  | .swBegin m => Sys2Proof.Machine.execSwBegin m s
  | .swBeginReady nd ek sig => Sys2Proof.Machine.execSwBeginReady nd ek sig s
  | .swFinish m => Sys2Proof.Machine.execSwFinish m s
  | .swCert m => Sys2Proof.Machine.execSwCert m s
  | .swAbort m => Sys2Proof.Machine.execSwAbort m s
  | .swSetupIdle => Sys2Proof.Machine.execSwSetupIdle s
  | .recoveryProgram => Sys2Proof.Machine.execRecoveryProgram s
  | .pcmdHold m => Sys2Proof.Machine.execPcmdHold m s
  | .pcmdRun m => Sys2Proof.Machine.execPcmdRun m s
  | .pcmdDoze m key => Sys2Proof.Machine.execPcmdDoze m key s
  | .dozeEntryComplete fp => Sys2Proof.Machine.execDozeEntryComplete fp s
  | .pcmdWake p i_ => Sys2Proof.Machine.execPcmdWake p i_ s
  | .wakeTimer => Sys2Proof.Machine.execWakeTimer s
  | .wakeComplete => Sys2Proof.Machine.execWakeComplete s
  | .pcmdReset m key => Sys2Proof.Machine.execPcmdReset m key s
  | .pcmdReload m k => Sys2Proof.Machine.execPcmdReload m k s
  | .pcmdOut m k => Sys2Proof.Machine.execPcmdOut m k s
  | .pcmdRetrain m l => Sys2Proof.Machine.execPcmdRetrain m l s
  | .watchdogReset => Sys2Proof.Machine.execWatchdogReset s
  | .clusterLoadDone k same => Sys2Proof.Machine.execClusterLoadDone k same s
  | .clusterRejoin k => Sys2Proof.Machine.execClusterRejoin k s
  | .pilotCmpTrip j => Sys2Proof.Machine.execPilotCmpTrip j s
  | .pilotCmpRelease j => Sys2Proof.Machine.execPilotCmpRelease j s
  | .safePermit m => Sys2Proof.Machine.execSafePermit m s
  | .healthEval raws => Sys2Proof.Machine.execHealthEval raws s
  | .wearSave => Sys2Proof.Machine.execWearSave s
  | .contactCountCmd m count ch rst => Sys2Proof.Machine.execContactCountCmd m count ch rst s
  | .ovenSettled duty => Sys2Proof.Machine.execOvenSettled duty s
  | .dspApply m o => Sys2Proof.Machine.execDspApply m o s
  | .vblankStart o => Sys2Proof.Machine.execVblankStart o s
  | .dpTrainDone o ok => Sys2Proof.Machine.execDpTrainDone o ok s
  | .hpdChange o present => Sys2Proof.Machine.execHpdChange o present s
  | .dpLine o n gone urgent => Sys2Proof.Machine.execDpLine o n gone urgent s
  | .cmRangeEnd n isI => Sys2Proof.Machine.execCmRangeEnd n isI s
  | .resetNRelease => Sys2Proof.Machine.execResetNRelease s
  | .referenceRegained => Sys2Proof.Machine.execReferenceRegained s
  | .fefLinkChange l up => Sys2Proof.Machine.execFefLinkChange l up s
  | .tdcLockChange a locked => Sys2Proof.Machine.execTdcLockChange a locked s
  | .pilotDomainStart => Sys2Proof.Machine.execPilotDomainStart s
  | .pilotDomainLoss => Sys2Proof.Machine.execPilotDomainLoss s
  | .ovenokLost => Sys2Proof.Machine.execOvenokLost s

end Sys2Proof.Machine
end

