-- ==== Sys2Proof/Safety.lean ====
section
/-! DEFINITION. The terms that the statements use: when a command may act, and what it leaves as it was. -/

namespace Sys2Proof.Machine

/-- The core is powered and out of DOZE. -/
def State.powered (s : State) : Prop := s.dev.pw.phase = 2

/-- The core is powered and no power-fail sequence is in progress (R45). -/
def State.served (s : State) : Prop := s.dev.pw.phase = 2 ∧ s.dev.pw.failAt = none

/-- Thread `c` of cluster `k` may execute its instruction (R208), and neither a redirect, a host request nor a quiesce waits for the boundary after it (R210, R223). -/
structure Turn (s : State) (k c : Nat) : Prop where
  powered : s.powered
  cluster : k < 16
  thread : c < 64
  runs : (s.dev.thread k c).runnable = true
  noRedirect : (s.dev.thread k c).redirect = none
  noHalt : (s.dev.thread k c).haltReq = none
  noQuiesce : (s.dev.clus k).on SEQ_CTL_QUIESCE = false

/-- Every register and every byte outside the threads, and every thread but `c` of cluster `k`, is as before. -/
structure OnlyThread (k c : Nat) (d e : Device) : Prop where
  mem : e.mem = d.mem
  time : e.dt = d.dt
  device : e.regs = d.regs
  chips : ∀ a, e.chip a = d.chip a
  groups : ∀ g, e.group g = d.group g
  chans : ∀ n, e.chan n = d.chan n
  clusters : ∀ j, (e.clus j).regs = (d.clus j).regs
  intervals : ∀ j u, e.sti j u = d.sti j u
  captures : ∀ n, (e.capt n).regs = (d.capt n).regs
  threads : ∀ j i, (j, i) ≠ (k, c) → e.thread j i = d.thread j i

/-- The registers of a thread beside G, L, the flags, the PC and STATE. -/
def threadRest : List Fld :=
  [SEQ_TSTAT_UCODE, SEQ_TSTAT_CAUSE, SEQ_TSTAT_WREJ, SEQ_TSTAT_OVR, SEQ_TLATE_TICKS, SEQ_TSP_DEPTH, SEQ_TCFG_PRIV, SEQ_TOVCNT_CNT, SEQ_TWSTAMP_DT] ++
    (List.range 16).map SEQ_TSTK_PC

/-- From `t` to `u` a thread has gone on to `pc` and is READY; no other register of it has changed. -/
structure Moved (t u : Thread) (pc : Nat) : Prop where
  pc : u.pc = pc % 2 ^ 32
  ready : u.state = 1
  general : ∀ i, u.g i = t.g i
  loops : ∀ i, u.l i = t.l i
  flags : u.flags = t.flags
  rest : ∀ f ∈ threadRest, u.get f = t.get f

/-- From `t` to `u` a thread holds `v` in L[x] and has gone on to `pc`; no flag and no other register has changed. -/
structure Counted (t u : Thread) (x v pc : Nat) : Prop where
  value : u.l x = v
  pc : u.pc = pc % 2 ^ 32
  ready : u.state = 1
  others : ∀ i, i < 4 → i ≠ x → u.l i = t.l i
  general : ∀ i, u.g i = t.g i
  flags : u.flags = t.flags
  rest : ∀ f ∈ threadRest, u.get f = t.get f

/-- From `t` to `u` a thread has taken `v` as its flags and gone on; no other register has changed. -/
structure Flagged (t u : Thread) (v : Nat) : Prop where
  value : u.flags = v
  pc : u.pc = (t.pc + 1) % 2 ^ 32
  ready : u.state = 1
  general : ∀ i, u.g i = t.g i
  loops : ∀ i, u.l i = t.l i
  rest : ∀ f ∈ threadRest, u.get f = t.get f

/-- From `t` to `u` a thread has received `v` in G[dst] and gone on; no flag and no other register has changed. -/
structure Loaded (t u : Thread) (dst v : Nat) : Prop where
  value : u.g dst = v
  pc : u.pc = (t.pc + 1) % 2 ^ 32
  ready : u.state = 1
  others : ∀ i, i < 16 → i ≠ dst → u.g i = t.g i
  loops : ∀ i, u.l i = t.l i
  flags : u.flags = t.flags
  rest : ∀ f ∈ threadRest, u.get f = t.get f

/-- From `t` to `u` a thread has received `v` in G[dst] with its Z and N, CY and OV are as given, and it has gone on; no other register has changed. -/
structure Wrote (t u : Thread) (dst v : Nat) (cy ov : Bool) : Prop where
  value : u.g dst = v
  zero : u.flag 0 = decide (v = 0)
  negative : u.flag 1 = decide (2 ^ 63 ≤ v)
  carry : u.flag 2 = cy
  overflow : u.flag 3 = ov
  others : ∀ i, i < 16 → i ≠ dst → u.g i = t.g i
  loops : ∀ i, u.l i = t.l i
  waitFlags : u.flag 4 = t.flag 4 ∧ u.flag 5 = t.flag 5
  pc : u.pc = (t.pc + 1) % 2 ^ 32
  ready : u.state = 1
  rest : ∀ f ∈ threadRest, u.get f = t.get f

/-- From `t` to `u` a thread has halted with `cause`; its PC, its other registers and its flags have not changed (R203, R209). -/
structure Halted (t u : Thread) (cause : Nat) : Prop where
  state : u.state = 0
  cause : u.get SEQ_TSTAT_CAUSE = cause
  pc : u.pc = t.pc
  general : ∀ i, u.g i = t.g i
  loops : ∀ i, u.l i = t.l i
  flags : u.flags = t.flags
  wait : u.wait = none

/-- From `t` to `u` a thread has begun the wait `w`; no register but STATE has changed (R195, R208). -/
structure Waits (t u : Thread) (w : Wait) : Prop where
  state : u.state = 3
  wait : u.wait = some w
  pc : u.pc = t.pc
  general : ∀ i, u.g i = t.g i
  loops : ∀ i, u.l i = t.l i
  flags : u.flags = t.flags
  rest : ∀ f ∈ threadRest, u.get f = t.get f

/-- From `t` to `u` a wait has ended: T as given, the wait stamp, the PC past the instruction, READY; no other register has changed (R196). -/
structure Woke (t u : Thread) (tf : Bool) (stamp : Nat) : Prop where
  state : u.state = 1
  wait : u.wait = none
  pc : u.pc = (t.pc + 1) % 2 ^ 32
  stamp : u.get SEQ_TWSTAMP_DT = stamp % 2 ^ 64
  timeout : u.flag 4 = tf
  flags : ∀ i, i < 6 → i ≠ 4 → u.flag i = t.flag i
  general : ∀ i, u.g i = t.g i
  loops : ∀ i, u.l i = t.l i

/-- A thread that is WAITING in `w`, not in a handler and with no quiesce holding it. -/
structure InWait (s : State) (k c : Nat) (w : Wait) : Prop where
  powered : s.powered
  cluster : k < 16
  thread : c < 64
  state : (s.dev.thread k c).state = 3
  wait : (s.dev.thread k c).wait = some w
  open_ : (s.dev.thread k c).held = none
  base : (s.dev.thread k c).onStore = false

/-- `exec` answers a next state in which thread `c` of cluster `k` has gone on to the next instruction, its channel has changed as `p` says of it before and after, and memory, the registers of the device and of the other units, the other channels and the other threads are as before. -/
def Edits (i : Instr) (s : State) (k c : Nat) (p : Chan → Chan → Prop) : Prop :=
  ∃ r, exec i s = .next r ∧ r.pending = s.pending ∧ Moved (s.dev.thread k c) (r.dev.thread k c) ((s.dev.thread k c).pc + 1) ∧
    p (s.dev.chan (64 * k + c)) (r.dev.chan (64 * k + c)) ∧ (∀ m, m ≠ 64 * k + c → r.dev.chan m = s.dev.chan m) ∧
    r.dev.mem = s.dev.mem ∧ r.dev.regs = s.dev.regs ∧ (∀ g, r.dev.group g = s.dev.group g) ∧ (∀ a, r.dev.chip a = s.dev.chip a) ∧
    ∀ j e, (j, e) ≠ (k, c) → r.dev.thread j e = s.dev.thread j e

/-- From `x` to `y` a shadow set has been edited: UNC stands and STEP_TRANSITION is clear (R130, R132, R214); the active set and every word of the shadow set but those of `f` and of the lists are as before. -/
structure ShadowEdit (f : List Fld) (x y : Chan) : Prop where
  unc : y.sh.regs.on SET_MODE_UNC = true
  transition : y.on CH_RSTAT_STEP_TRANSITION = false
  active : y.ac = x.ac
  rest : ∀ g, g.key ≠ SET_MODE_UNC.key → (∀ h ∈ f, g.key ≠ h.key) → y.sh.regs.get g = x.sh.regs.get g

/-- Master `m` may read (kind 0) or write (kind 1) the register at `a`: the core runs, the regions grant it and its block is in service (R344, R435, R466). -/
def Granted (s : State) (m kind a : Nat) : Prop := s.powered ∧ targetOf a = some 21 ∧ s.dev.regRefused m kind a = false

/-- An access of `n` bytes at `a` by master `m` (kind 0 read, 1 write, 2 atomic) is one that a bank performs: the regions allow it, the background test has not borrowed its slice, and no word it touches holds an uncorrectable error (R343, R344, R352, R356). -/
structure BankOpen (d : Device) (m kind a n t : Nat) : Prop where
  target : targetOf a = some t
  bank : t < 20
  first : d.allowed m t kind (a / 4096) false = true
  last : d.allowed m t kind ((a + max n 1 - 1) / 4096) false = true
  free : d.stalled a n = false
  clean : ∀ u ∈ unitsOf t a n, d.bad.contains u = false

/-- Every byte outside [a, a + n) reads as before. -/
def KeepsOutside (a n : Nat) (d e : Device) : Prop := ∀ x, x < a ∨ a + n ≤ x → memGet x e.mem = memGet x d.mem

/-- `exec` answers a next state in which thread `c` of cluster `k` is as `p` says and nothing outside it has changed. -/
def Runs (i : Instr) (s : State) (k c : Nat) (p : Thread → Prop) : Prop :=
  ∃ t, exec i s = .next t ∧ t.pending = s.pending ∧ OnlyThread k c s.dev t.dev ∧ p (t.dev.thread k c)

/-- `exec` answers a next state in which thread `c` of cluster `k` has halted with `cause`, memory and the channels are as before and no command is taken or added (R209). -/
def Halts (i : Instr) (s : State) (k c cause : Nat) : Prop :=
  ∃ t, exec i s = .next t ∧ t.pending = s.pending ∧ Halted (s.dev.thread k c) (t.dev.thread k c) cause ∧
    t.dev.mem = s.dev.mem ∧ ∀ n, t.dev.chan n = s.dev.chan n

/-- `exec` answers a next state with the same queue, whose device is as `p` says. -/
def Answers (i : Instr) (s : State) (p : Device → Prop) : Prop := ∃ r, exec i s = .next r ∧ r.pending = s.pending ∧ p r.dev

/-- Memory, chiplets, drive-link groups, channels, threads, interval units and the registers of the clusters are as before. -/
structure UnitsKept (d e : Device) : Prop where
  mem : e.mem = d.mem
  chips : e.afe = d.afe
  groups : e.grp = d.grp
  chans : e.ch = d.ch
  clusters : ∀ k, (e.clus k).regs = (d.clus k).regs
  threads : ∀ k c, e.thread k c = d.thread k c
  intervals : ∀ k u, e.sti k u = d.sti k u

/-- Memory, device time, every channel but `n` and every thread are as before. -/
structure OnlyChan (n : Nat) (d e : Device) : Prop where
  mem : e.mem = d.mem
  time : e.dt = d.dt
  chans : ∀ m, m ≠ n → e.chan m = d.chan m
  threads : ∀ k c, e.thread k c = d.thread k c

/-- From `d` to `e` cluster `k` has taken a machine check of `kind` at `addr` in `slices`, and the escalation limit was not reached (R258, R434, R436). -/
structure MachineChecked (k kind addr slices : Nat) (d e : Device) : Prop where
  threads : ∀ c, c < 64 → (e.thread k c).state = 0
  elsewhere : ∀ j c, j ≠ k → e.thread j c = d.thread j c
  snuffed : ∀ n, n < 1024 → n / 64 = k → (e.chan n).on CH_SNFSTAT_SNUFFED = true ∧ bit ((e.chan n).get CH_SNFCAUSE_CAUSE) 18 = true
  chans : ∀ n, n < 1024 → n / 64 ≠ k → e.chan n = d.chan n
  loaded : (e.clus k).on MCE_CTL_LOADED = false ∧ (e.clus k).on MCE_STAT_LOADED = false
  out : e.clState k = 1
  check : (e.clus k).on MCE_STAT_MCK = true
  event : e.on (EVT_SRC_PENDING (160 + k)) = true ∧ e.on (EVT_SRC_PENDING 373) = true
  record : (d.clus k).on MCE_STAT_MCK = false → (e.clus k).get MCE_MCKINFO_KIND = kind % 16 ∧ (e.clus k).get MCE_MCKINFO_ADDR = addr % 8192 ∧
    (e.clus k).get MCE_MCKINFO_SLICE = slices % 1024 ∧ (e.clus k).get MCE_MCKDT_DT = d.dt % 2 ^ 64
  mem : e.mem = d.mem

/-- Every field of a device register but those of `fs` and the event sources is as before. -/
def RegsKept (fs : List Fld) (d e : Device) : Prop :=
  ∀ f : Fld, f.lo < 64 → (f.off < 0x41000 ∨ 0x41800 ≤ f.off) → (∀ g ∈ fs, f.key ≠ g.key) → e.get f = d.get f

/-- Nothing but the fields `fs` of device registers, the event sources and what events set in motion has changed. -/
structure RegsOnly (fs : List Fld) (d e : Device) : Prop where
  units : UnitsKept d e
  regs : RegsKept fs d e
  time : e.dt = d.dt
  lanes : e.lanes = d.lanes
  power : e.pw = d.pw

/-- From `x` to `y` a channel has been snuffed by `cause` in the frame with boundary `bnd` (R169, R171). -/
structure Snuffed (x y : Chan) (cause bnd : Nat) : Prop where
  snuffed : y.on CH_SNFSTAT_SNUFFED = true
  cause_set : bit (y.get CH_SNFCAUSE_CAUSE) cause = true
  first : x.on CH_SNFSTAT_SNUFFED = false → y.get CH_SNFFIRST_CAUSE = cause ∧ y.get CH_SNFDT_DT = bnd % 2 ^ 64
  enable : y.enWant = false
  stopped : y.running = false
  loop : y.ai = 0 ∧ y.lterm = 0

/-- What a reset of a kind of R432 leaves (0 power-on, 1 RESET_N, 2 watchdog, 3 host, 4 MCK escalation): R432, R433. -/
structure Rebooted (kind : Nat) (d e : Device) : Prop where
  time : e.dt = if kind = 0 then 0 else d.dt
  boot : e.get SEC_BOOT_STATE = 1 ∨ e.get SEC_BOOT_STATE = 15
  cause_set : bit (e.get DEV_RSTCAUSE_CAUSE) kind = true
  lanes : e.lanes = 0
  safeOff : bit (e.get PIL_SAFECTL_FORCE) 0 = true ∧ e.on PIL_SAFECTL_CONDUCT = false
  lock : e.on DEV_CTL_LOCK = (decide (2 ≤ kind) && d.on DEV_CTL_LOCK)
  threads : ∀ k c, (e.thread k c).state = 0
  banks : ∀ a, a < 0x1000000000 → memGet a e.mem = 0
  ddr : ∀ a, 0x1000000000 ≤ a → memGet a e.mem = if 2 ≤ kind then memGet a d.mem else 0
  pilot : ∀ f : Fld, 0x80000 ≤ f.off → f.off < 0x90000 → f.off ≠ 0x80010 → f.off ≠ 0x80040 → f.lo < 64 → e.get f = d.get f

end Sys2Proof.Machine
end

