-- ==== Sys2Proof/WellFormed.lean ====
section
/-! DEFINITION. Which commands name things the device has: register numbers, threads, channels, groups, chiplets, and the ranges of the encodings' fields (R186 to R188). -/

namespace Sys2Proof

/-- Thread `c` of cluster `k` (R19, R182). -/
def thrOk (k c : Nat) : Bool := k < 16 && c < 64

/-- A signed 32-bit literal (R186). -/
def immOk (v : Int) : Bool := -(2 ^ 31) ≤ v && v < 2 ^ 31

/-- Operand B: a general register or a signed 32-bit literal (R187). -/
def opndOk : Opnd → Bool
  | .reg n => n < 16
  | .imm v => immOk v

/-- A class of MOV and its index: general register, loop counter, flags (R201). -/
def classOk (cls i : Nat) : Bool := (cls == 0 && i < 16) || (cls == 1 && i < 4) || (cls == 2 && i == 0)

/-- Fields of STEP (R216, R217). -/
def stepOk (x : StepArgs) : Bool :=
  x.mode < 16 && x.fmt < 16 && x.lset < 16 && x.xset < 16 && x.eset < 16 && x.trig < 3 && x.s < 2 ^ 32 &&
    (!x.keepsp || x.s == 0) && (!x.keepfmt || x.fmt == 0) &&
    (!(x.mode ≤ 5 || x.mode == 10) || (x.fmt == 0 && !x.keepfmt))

/-- A well-formed command. -/
def Instr.wf : Instr → Bool
  | .nop k c => thrOk k c
  | .halt k c _ ucode => thrOk k c && ucode < 256
  | .jmp k c target => thrOk k c && target < 2 ^ 32
  | .jcc k c cond target => thrOk k c && cond < 0x17 && target < 2 ^ 32
  | .call k c cond target => thrOk k c && cond < 0x17 && target < 2 ^ 32
  | .ret k c cond => thrOk k c && cond < 0x17
  | .loop k c x target => thrOk k c && x < 4 && target < 2 ^ 32
  | .waitc k c cls reg timeout => thrOk k c && cls < 12 && reg < 16 && timeout < 2 ^ 48
  | .waitt k c base reg timeout => thrOk k c && base < 3 && reg < 16 && timeout < 2 ^ 48
  | .sync k c b reg timeout => thrOk k c && b < 16 && reg < 16 && timeout < 2 ^ 48
  | .yield k c => thrOk k c
  | .signal k c a b => thrOk k c && a < 16 && opndOk b
  | .fence k c => thrOk k c
  | .movi k c dst cls hi imm => thrOk k c && dst < 16 && immOk imm && (cls == 0 || (cls == 1 && !hi && dst < 4))
  | .mov k c dst src dcls scls => thrOk k c && dst < 16 && src < 16 && classOk dcls dst && classOk scls src
  | .ld k c dst a ofs _ sz => thrOk k c && dst < 16 && a < 16 && immOk ofs && sz < 4
  | .st k c a b ofs sz => thrOk k c && a < 16 && immOk ofs && sz < 4 && b < 16
  | .add k c dst a b => thrOk k c && dst < 16 && a < 16 && opndOk b
  | .sub k c dst a b => thrOk k c && dst < 16 && a < 16 && opndOk b
  | .mul k c dst a b _ _ => thrOk k c && dst < 16 && a < 16 && opndOk b
  | .divq k c dst a b _ _ => thrOk k c && dst < 16 && a < 16 && opndOk b
  | .and k c dst a b => thrOk k c && dst < 16 && a < 16 && opndOk b
  | .or k c dst a b => thrOk k c && dst < 16 && a < 16 && opndOk b
  | .xor k c dst a b => thrOk k c && dst < 16 && a < 16 && opndOk b
  | .shl k c dst a b => thrOk k c && dst < 16 && a < 16 && opndOk b
  | .shr k c dst a b _ => thrOk k c && dst < 16 && a < 16 && opndOk b
  | .cmp k c a b => thrOk k c && a < 16 && opndOk b
  | .min k c dst a b _ => thrOk k c && dst < 16 && a < 16 && opndOk b
  | .max k c dst a b _ => thrOk k c && dst < 16 && a < 16 && opndOk b
  | .sel k c dst a b cond => thrOk k c && dst < 16 && a < 16 && opndOk b && cond < 0x17
  | .rds k c dst item => thrOk k c && dst < 16 && rdsItems.contains item
  | .tlu k c dst a b => thrOk k c && dst < 16 && a < 16 && opndOk b
  | .atadd k c dst a b _ _ sz => thrOk k c && dst < 16 && a < 16 && opndOk b && sz < 2
  | .step k c a => thrOk k c && stepOk a
  | .setp k c w b => thrOk k c && opndOk b && w < 5
  | .limit k c comp _ b => thrOk k c && opndOk b && comp < 4
  | .expect k c e w b => thrOk k c && opndOk b && e < 16 && w < 6
  | .expectCheck k c dst => thrOk k c && dst < 16
  | .endc k c e _ b => thrOk k c && opndOk b && e < 16
  | .irange k c r => thrOk k c && r < 2
  | .psrange k c r _ => thrOk k c && r < 4
  | .soft k c b => thrOk k c && opndOk b
  | .snuff k c => thrOk k c
  | .enable k c => thrOk k c
  | .ldtab k c dst a b _ => thrOk k c && dst < 16 && a < 16 && b < 16
  | .fmt k c w b => thrOk k c && opndOk b && w < 16
  | .fmtLoad k c f => thrOk k c && f < 16
  | .meas k c dst _ _ b => thrOk k c && dst < 16 && opndOk b
  | .measAsync k c _ _ b => thrOk k c && opndOk b
  | .measCollect k c dst _ => thrOk k c && dst < 16
  | .accRc k c dst => thrOk k c && dst < 16
  | .accClr k c => thrOk k c
  | .arm k c dst b => thrOk k c && dst < 16 && opndOk b
  | .armDis k c dst => thrOk k c && dst < 16
  | .trigEdge k c j act a b => thrOk k c && a < 16 && opndOk b && j < 4 && act < 4 && (act != 3 || a == 0)
  | .trigCapture k c => thrOk k c
  | .trigBeacon k c _ b => thrOk k c && opndOk b
  | .mark k c b => thrOk k c && opndOk b
  | .markStep k c b => thrOk k c && opndOk b
  | .record k c typ a b => thrOk k c && a < 16 && opndOk b && typ < 256
  | .imped k c _ b => thrOk k c && opndOk b
  | .stampArm k c u => thrOk k c && u < 8
  | .stampDis k c u => thrOk k c && u < 8
  | .stampRd k c dst u => thrOk k c && dst < 16 && u < 8
  | .stampCfg k c u a b => thrOk k c && a < 16 && opndOk b && u < 8
  | .strmCfg k c dst a => thrOk k c && dst < 16 && a < 16
  | .strmReset k c => thrOk k c
  | .strmGo k c => thrOk k c
  | .strmStat k c dst => thrOk k c && dst < 16
  | .strmSlip k c dst => thrOk k c && dst < 16
  | .seg k c a => thrOk k c && a < 16
  | .segCopy k c dst a b => thrOk k c && dst < 16 && a < 16 && opndOk b
  | .sjmp k c _ b => thrOk k c && opndOk b
  | .mwin k c dst a b slot act _ cp => thrOk k c && dst < 16 && a < 16 && opndOk b && slot < 4 && act < 3 && cp < 5
  | .msort k c dst a => thrOk k c && dst < 16 && a < 16
  | .ctlook k c dst a b => thrOk k c && dst < 16 && a < 16 && opndOk b
  | .ctlookCar k c dst a b => thrOk k c && dst < 16 && a < 16 && opndOk b
  | .ctupdUpdate k c dst a b => thrOk k c && dst < 16 && a < 16 && opndOk b
  | .ctupdInsert k c dst a b => thrOk k c && dst < 16 && a < 16 && opndOk b
  | .ctupdUpsert k c dst a b => thrOk k c && dst < 16 && a < 16 && opndOk b
  | .ctupdRetire k c dst a b => thrOk k c && dst < 16 && a < 16 && opndOk b
  | .ctseal k c dst => thrOk k c && dst < 16
  | .regWrite m addr v => m < 64 && addr % 4 == 0 && v < 2 ^ 32
  | .regPairLowRead m addr => m < 64 && addr % 4 == 0
  | .regPairLowWrite m addr v => m < 64 && addr % 4 == 0 && v < 2 ^ 32
  | .regPairHighWrite m addr v => m < 64 && addr % 4 == 0 && v < 2 ^ 32
  | .regRcRead m addr => m < 64 && addr % 4 == 0
  | .lockSet m => m < 64
  | .powerOn _ => true
  | .resetN _ => true
  | .powerFail _ => true
  | .powerfailLanesOff => true
  | .powerOnAfterOvervoltage => true
  | .supplyMeasure _ _ => true
  | .junctionSample _ => true
  | .cmRange n _ => n < 1024
  | .bootReady _ _ _ => true
  | .refLoss => true
  | .refQualify _ _ _ _ => true
  | .tbLock => true
  | .tbFreerun => true
  | .tbDtset m v => m < 64 && v < 2 ^ 32
  | .islandUnlock i => i < 10
  | .islandRelock i => i < 10
  | .paceWindow k => k < 16
  | .roleDecide _ _ => true
  | .roleReqWrite m v => m < 64 && v < 2 ^ 32
  | .roleReqSave => true
  | .beaconCycle => true
  | .beaconIdle => true
  | .beaconFrameBad => true
  | .beaconEnum _ => true
  | .beaconDreq _ _ => true
  | .beaconOffset _ _ => true
  | .beaconEpoch _ _ _ _ => true
  | .beaconTrig num _ _ => num < 256
  | .beaconSync num _ _ => num < 256
  | .beaconEstop num _ _ => num < 256
  | .beaconEnumAck => true
  | .beaconDrsp _ _ => true
  | .beaconTrigReq num _ => num < 256
  | .beaconSyncReq num _ => num < 256
  | .beaconEstopUp _ => true
  | .beaconUpstreamSend _ => true
  | .beaconTrigExec => true
  | .beaconSyncExec => true
  | .beaconEstopExec => true
  | .enumTimeout => true
  | .bcnEnum m => m < 64
  | .bcnRecal m => m < 64
  | .bcnSetEpoch m => m < 64
  | .bcnSend m _ num => m < 64 && num < 256
  | .epochTimer => true
  | .beaconMsgLoss => true
  | .beaconClkLoss => true
  | .fefTimingSend l => l < 4
  | .fefTimingFrame l _ _ _ _ _ _ => l < 4
  | .ptpEventMessage _ _ _ => true
  | .halfRampStart a => a < 8
  | .halfRampEnd a _ _ => a < 8
  | .conversion n _ _ _ _ _ => n < 1024
  | .taperGridWrite m a _ v => m < 64 && a < 8 && v < 2 ^ 32
  | .taperRetime a => a < 8
  | .taperEnSet m a => m < 64 && a < 8
  | .taperEnClear m a => m < 64 && a < 8
  | .taperStop a => a < 8
  | .calRound a => a < 8
  | .calCoefLoad a _ _ _ _ _ _ => a < 8
  | .calOpRound m a mask => m < 64 && a < 8 && mask < 256
  | .calOpTraceTap m a _ mask => m < 64 && a < 8 && mask < 256
  | .calOpTraceIcalH m a mask => m < 64 && a < 8 && mask < 256
  | .calOpTraceIcalL m a mask => m < 64 && a < 8 && mask < 256
  | .calOpCommit m a mask => m < 64 && a < 8 && mask < 256
  | .calOpDiscard m a mask => m < 64 && a < 8 && mask < 256
  | .traceDone a _ _ _ => a < 8
  | .calCandidateExpire a => a < 8
  | .chFlgRead m n _ => m < 64 && n < 1024
  | .windowTransition n k _ _ _ _ => n < 1024 && k < 4
  | .windowMaskEnd n k _ => n < 1024 && k < 4
  | .wfinfoRead m n => m < 64 && n < 1024
  | .stiArm m k u => m < 64 && k < 16 && u < 8
  | .stiDisarm m k u => m < 64 && k < 16 && u < 8
  | .stiDone k u => k < 16 && u < 8
  | .stiTimeout k u => k < 16 && u < 8
  | .afeSkcmdGo m a mask => m < 64 && a < 8 && mask < 256
  | .deskewLoad n _ _ => n < 1024
  | .motCount _ _ _ _ => true
  | .motZEdge _ _ => true
  | .motXgEdge _ _ => true
  | .motCpEdge k _ _ => k < 4
  | .motCoastEdge _ _ => true
  | .commit n => n < 1024
  | .loopUpdate n => n < 1024
  | .stepEndTime n => n < 1024
  | .formatEdge n => n < 1024
  | .formatDone n => n < 1024
  | .stepAbortEnd n => n < 1024
  | .edgeSlotFire n j => n < 1024 && j < 4
  | .edgeSlotArm m n j act => m < 64 && n < 1024 && j < 4 && 1 ≤ act && act < 4
  | .edgeSlotDisarm m n j => m < 64 && n < 1024 && j < 4
  | .accIntegrate n => n < 1024
  | .clrtot m n => m < 64 && n < 1024
  | .shadowRead m n => m < 64 && n < 1024
  | .psfsWrite m n r v => m < 64 && n < 1024 && r < 4 && v < 2 ^ 32
  | .impedWindowStart n => n < 1024
  | .impedWindowEnd n => n < 1024
  | .driveFrame g => g < 128
  | .statusFrame g _ _ _ _ _ _ _ => g < 128
  | .statusFrameBad g => g < 128
  | .statusLockLoss g => g < 128
  | .setupAckTimeout n => n < 1024
  | .setupRepeat n => n < 1024
  | .rangeResume n => n < 1024
  | .laneEnable m => m < 64
  | .lanesIdle => true
  | .laneDisable m => m < 64
  | .lanesOff => true
  | .identifyOn m g mask => m < 64 && g < 128 && mask < 256
  | .identifyOff m g mask => m < 64 && g < 128 && mask < 256
  | .hostSnuff m n => m < 64 && n < 1024
  | .hostRearm m n => m < 64 && n < 1024
  | .snuffAll m => m < 64
  | .ilkEstopOpen => true
  | .ilkEstopClose => true
  | .instructionFetch k c _ => k < 16 && c < 64
  | .waitConditionMet k c => k < 16 && c < 64
  | .waitTimeout k c => k < 16 && c < 64
  | .waittDeadline k c => k < 16 && c < 64
  | .threadRun m k c => m < 64 && k < 16 && c < 64
  | .hostHalt m k c => m < 64 && k < 16 && c < 64
  | .hostAbort m k c => m < 64 && k < 16 && c < 64
  | .runmaskWrite m k v => m < 64 && k < 16 && v < 2 ^ 32
  | .haltreqWrite m k v => m < 64 && k < 16 && v < 2 ^ 32
  | .quiesce m k => m < 64 && k < 16
  | .quiesceRelease m k => m < 64 && k < 16
  | .threadStateWrite m k c off v => m < 64 && k < 16 && c < 64 && off % 4 == 0 && off < 0x100 && v < 2 ^ 32
  | .programRegionWrite m k _ v => m < 64 && k < 16 && v < 2 ^ 32
  | .averageDone n _ => n < 1024
  | .redirect k c => k < 16 && c < 64
  | .asyncTrap k c _ => k < 16 && c < 64
  | .budgetExceeded k c => k < 16 && c < 64
  | .engineWaitTimeout k c _ => k < 16 && c < 64
  | .controlStoreScrub k _ => k < 16
  | .mceCsWrite m k _ => m < 64 && k < 16
  | .mceCsRead m k => m < 64 && k < 16
  | .mceDispWrite m k op v => m < 64 && k < 16 && op < 256 && v < 2 ^ 32
  | .mceLoadedSet m k => m < 64 && k < 16
  | .mceXreqSet m k c => m < 64 && k < 16 && c < 64
  | .failRecordWrite => true
  | .failSpillMove => true
  | .failSpillModeWrite m _ => m < 64
  | .capArmWrite m n _ => m < 64 && n < 1024
  | .capDisarmWrite m n => m < 64 && n < 1024
  | .capForce m n => m < 64 && n < 1024
  | .captureTrigger n => n < 1024
  | .captureSample n => n < 1024
  | .captureHoldoffEnd n => n < 1024
  | .streamSlot n => n < 1024
  | .streamResume n => n < 1024
  | .streamWaitEnd n => n < 1024
  | .streamRingRead n => n < 1024
  | .stwrWrite m n v => m < 64 && n < 1024 && v < 2 ^ 32
  | .stcmdJump m n _ _ => m < 64 && n < 1024
  | .stcmdGo m n => m < 64 && n < 1024
  | .schedGuard => true
  | .schedWclose => true
  | .schedDeadline => true
  | .schedGate => true
  | .schedWopen => true
  | .schedEvent => true
  | .gatePulseEnd k => k < 8
  | .hostScheduleAdd m _ _ => m < 64
  | .motCoastCmd m => m < 64
  | .motResume m => m < 64
  | .motSchclr m => m < 64
  | .motVelUpdate => true
  | .ctSealCmd m => m < 64
  | .ctFlush m => m < 64
  | .ctFlushDone => true
  | .ctEnable m => m < 64
  | .ctRecountDone => true
  | .batchAgeClose => true
  | .batchSigned _ => true
  | .fefCellrec l _ _ _ _ _ => l < 4
  | .bankAccess b _ => b < 20
  | .eccWriteback b => b < 20
  | .btBorrow => true
  | .btReturn _ _ => true
  | .regionWrite m mast t i _ v => m < 64 && mast < 38 && t < 22 && v < 2 ^ 32 && i < 8
  | .ddrTrainingDone _ _ _ _ _ => true
  | .ddrCommandSlot x => x < 2
  | .ddrRefreshInterval x _ => x < 2
  | .ddrMr4Poll x _ _ => x < 2
  | .ddrRhTableClear x _ => x < 2
  | .ddrPatrolScrub _ => true
  | .ddrSrEntry x => x < 2
  | .ddrSrExit x => x < 2
  | .hostDoorbell m v => m < 64 && v < 2 ^ 32
  | .eventCoalTimer => true
  | .lapRead p _ _ _ _ _ => p < 2
  | .lapWrite p _ _ _ _ _ => p < 2
  | .lapBulkRead p _ _ _ _ _ => p < 2
  | .lapBulkWrite p _ _ _ _ _ _ => p < 2
  | .lapStream p _ _ _ _ _ _ => p < 2
  | .lapAck p _ _ _ => p < 2
  | .lapDiscard => true
  | .lapAckTimer i => i < 4
  | .lapRetransmit i => i < 4
  | .lapSessionIdle i => i < 4
  | .lapSessionEnd m i => m < 64 && i < 4
  | .recordSend q _ => q < 17
  | .ethLinkChange p _ _ => p < 2
  | .fefEvrel l _ num _ _ _ _ => l < 4 && num < 256
  | .fefAck l _ => l < 4
  | .fefFrameBad l => l < 4
  | .fefRetransmit l => l < 4
  | .secProgram m => m < 64
  | .secStore m => m < 64
  | .secConfirm m => m < 64
  | .secAttest m => m < 64
  | .secCalcert m => m < 64
  | .secSavekeys m => m < 64
  | .flashOpDone _ => true
  | .attestDone _ _ _ _ _ _ _ => true
  | .calcertDone _ => true
  | .swBegin m => m < 64
  | .swBeginReady _ _ _ => true
  | .swFinish m => m < 64
  | .swCert m => m < 64
  | .swAbort m => m < 64
  | .swSetupIdle => true
  | .recoveryProgram => true
  | .pcmdHold m => m < 64
  | .pcmdRun m => m < 64
  | .pcmdDoze m _ => m < 64
  | .dozeEntryComplete _ => true
  | .pcmdWake p i => p < 2 && i < 4
  | .wakeTimer => true
  | .wakeComplete => true
  | .pcmdReset m _ => m < 64
  | .pcmdReload m k => m < 64 && k < 16
  | .pcmdOut m k => m < 64 && k < 16
  | .pcmdRetrain m l => m < 64 && l < 4
  | .watchdogReset => true
  | .clusterLoadDone k _ => k < 16
  | .clusterRejoin k => k < 16
  | .pilotCmpTrip j => j < 8
  | .pilotCmpRelease j => j < 8
  | .safePermit m => m < 64
  | .healthEval _ => true
  | .wearSave => true
  | .contactCountCmd m _ _ _ => m < 64
  | .ovenSettled _ => true
  | .dspApply m o => m < 64 && o < 2
  | .vblankStart o => o < 2
  | .dpTrainDone o _ => o < 2
  | .hpdChange o _ => o < 2
  | .dpLine o _ _ _ => o < 2
  | .cmRangeEnd n _ => n < 1024
  | .resetNRelease => true
  | .referenceRegained => true
  | .fefLinkChange l _ => l < 4
  | .tdcLockChange a _ => a < 8
  | .pilotDomainStart => true
  | .pilotDomainLoss => true
  | .ovenokLost => true

end Sys2Proof
end

