-- ==== Sys2Proof/Certificates/Slice0/Obligations.lean ====
section
/-! DEFINITION. The statements for the provers. -/

open Sys2Proof Sys2Proof.Machine

/-- ADD, SUB and CMP (R201): result, Z, N, CY and OV; CMP sets the flags of SUB and writes no register.
AND, OR and XOR (R201), bit by bit; CY and OV become 0.
SHL and SHR (R201): the count is B[5:0]; CY is the last bit shifted out, 0 for a count of 0; OV becomes 0. -/
def Obligations.AddLogicShift : Prop :=
  (∀ (s : State) (k c dst a : Nat) (b : Opnd), Turn s k c → dst < 16 →
    let t := s.dev.thread k c
    let x := t.g a
    let y := t.opnd b
    let diff := uns 64 ((x : Int) - y)
    let ov := decide (sgn 64 x - sgn 64 y < -(2 ^ 63) ∨ 2 ^ 63 ≤ sgn 64 x - sgn 64 y)
    Runs (.add k c dst a b) s k c (fun u => Wrote t u dst ((x + y) % 2 ^ 64) (decide (2 ^ 64 ≤ x + y))
        (decide (sgn 64 x + sgn 64 y < -(2 ^ 63) ∨ 2 ^ 63 ≤ sgn 64 x + sgn 64 y))) ∧
      Runs (.sub k c dst a b) s k c (fun u => Wrote t u dst diff (decide (x < y)) ov) ∧
      Runs (.cmp k c a b) s k c (fun u =>
        u.flag 0 = decide (diff = 0) ∧ u.flag 1 = decide (2 ^ 63 ≤ diff) ∧ u.flag 2 = decide (x < y) ∧ u.flag 3 = ov ∧
        u.flag 4 = t.flag 4 ∧ u.flag 5 = t.flag 5 ∧ (∀ i, u.g i = t.g i) ∧ (∀ i, u.l i = t.l i) ∧
        u.pc = (t.pc + 1) % 2 ^ 32 ∧ u.state = 1 ∧ ∀ f ∈ threadRest, u.get f = t.get f)) ∧
  (∀ (s : State) (k c dst a : Nat) (b : Opnd), Turn s k c → dst < 16 →
    let t := s.dev.thread k c
    let x := t.g a
    let y := t.opnd b
    ∃ va vo vx, (∀ i, i < 64 → bit va i = (bit x i && bit y i) ∧ bit vo i = (bit x i || bit y i) ∧ bit vx i = (bit x i != bit y i)) ∧
      va < 2 ^ 64 ∧ vo < 2 ^ 64 ∧ vx < 2 ^ 64 ∧
      Runs (.and k c dst a b) s k c (fun u => Wrote t u dst va false false) ∧
      Runs (.or k c dst a b) s k c (fun u => Wrote t u dst vo false false) ∧
      Runs (.xor k c dst a b) s k c (fun u => Wrote t u dst vx false false)) ∧
  (∀ (s : State) (k c dst a : Nat) (b : Opnd), Turn s k c → dst < 16 → (s.dev.thread k c).g a < 2 ^ 64 →
    let t := s.dev.thread k c
    let x := t.g a
    let n := t.opnd b % 64
    Runs (.shl k c dst a b) s k c (fun u => Wrote t u dst (x * 2 ^ n % 2 ^ 64) (n != 0 && bit x (64 - n)) false) ∧
      Runs (.shr k c dst a b false) s k c (fun u => Wrote t u dst (x / 2 ^ n) (n != 0 && bit x (n - 1)) false) ∧
      Runs (.shr k c dst a b true) s k c (fun u => Wrote t u dst (uns 64 (sgn 64 x / ((2 ^ n : Nat) : Int))) (n != 0 && bit x (n - 1)) false))

/-- MUL (R201): the low or the high half of the product; CY becomes 0, OV tells that the low half does not hold the product.
DIVQ (R202): quotient truncated toward zero, remainder with the sign of A, and the three cases of OV = 1.
MIN and MAX in both signednesses (R201): Z and N from the result, CY and OV as they were.
MOVI, MOV and SEL (R194, R201): which value reaches which register; flags change only where they are the destination. -/
def Obligations.MultiplyDivideMove : Prop :=
  (∀ (s : State) (k c dst a : Nat) (b : Opnd), Turn s k c → dst < 16 →
    (s.dev.thread k c).g a < 2 ^ 64 → (s.dev.thread k c).opnd b < 2 ^ 64 →
    let t := s.dev.thread k c
    let x := t.g a
    let y := t.opnd b
    let p := sgn 64 x * sgn 64 y
    Runs (.mul k c dst a b false false) s k c (fun u => Wrote t u dst (x * y % 2 ^ 64) false (decide (2 ^ 64 ≤ x * y))) ∧
      Runs (.mul k c dst a b false true) s k c (fun u => Wrote t u dst (x * y / 2 ^ 64) false false) ∧
      Runs (.mul k c dst a b true false) s k c (fun u => Wrote t u dst (uns 64 p) false (decide (p < -(2 ^ 63) ∨ 2 ^ 63 ≤ p))) ∧
      Runs (.mul k c dst a b true true) s k c (fun u => Wrote t u dst (uns 64 (p / (2 ^ 64 : Nat))) false false)) ∧
  (∀ (s : State) (k c dst a : Nat) (b : Opnd) (rem : Bool), Turn s k c → dst < 16 →
    (s.dev.thread k c).g a < 2 ^ 64 → (s.dev.thread k c).opnd b < 2 ^ 64 →
    let t := s.dev.thread k c
    let x := t.g a
    let y := t.opnd b
    (y = 0 → Runs (.divq k c dst a b false rem) s k c fun u => Wrote t u dst (if rem then x else 2 ^ 64 - 1) false true) ∧
      (y = 0 → Runs (.divq k c dst a b true rem) s k c fun u =>
        Wrote t u dst (if rem then x else if x < 2 ^ 63 then 2 ^ 63 - 1 else 2 ^ 63) false true) ∧
      (y ≠ 0 → Runs (.divq k c dst a b false rem) s k c fun u => Wrote t u dst (if rem then x % y else x / y) false false) ∧
      (x = 2 ^ 63 → y = 2 ^ 64 - 1 → Runs (.divq k c dst a b true rem) s k c fun u =>
        Wrote t u dst (if rem then 0 else 2 ^ 63) false true) ∧
      (y ≠ 0 → ¬ (x = 2 ^ 63 ∧ y = 2 ^ 64 - 1) → Runs (.divq k c dst a b true rem) s k c fun u =>
        Wrote t u dst (uns 64 (if rem then Int.tmod (sgn 64 x) (sgn 64 y) else Int.tdiv (sgn 64 x) (sgn 64 y))) false false)) ∧
  (∀ (s : State) (k c dst a : Nat) (b : Opnd), Turn s k c → dst < 16 →
    (s.dev.thread k c).g a < 2 ^ 64 → (s.dev.thread k c).opnd b < 2 ^ 64 →
    let t := s.dev.thread k c
    let x := t.g a
    let y := t.opnd b
    let put := fun v u => Wrote t u dst v (t.flag 2) (t.flag 3)
    Runs (.min k c dst a b false) s k c (put (min x y)) ∧ Runs (.max k c dst a b false) s k c (put (max x y)) ∧
      Runs (.min k c dst a b true) s k c (put (uns 64 (min (sgn 64 x) (sgn 64 y)))) ∧
      Runs (.max k c dst a b true) s k c (put (uns 64 (max (sgn 64 x) (sgn 64 y))))) ∧
  (∀ (s : State) (k c dst src a cond : Nat) (b : Opnd) (imm : Int), Turn s k c → dst < 16 → src < 16 →
    (∀ i, (s.dev.thread k c).g i < 2 ^ 64) → (s.dev.thread k c).opnd b < 2 ^ 64 → (∀ i, (s.dev.thread k c).l i < 2 ^ 32) →
    let t := s.dev.thread k c
    Runs (.movi k c dst 0 false imm) s k c (fun u => Loaded t u dst (uns 64 imm)) ∧
      Runs (.movi k c dst 0 true imm) s k c (fun u => Loaded t u dst (uns 32 imm * 2 ^ 32 + t.g dst % 2 ^ 32)) ∧
      (dst < 4 → Runs (.movi k c dst 1 false imm) s k c (fun u => Counted t u dst (uns 32 imm) (t.pc + 1))) ∧
      Runs (.mov k c dst src 0 0) s k c (fun u => Loaded t u dst (t.g src)) ∧
      Runs (.mov k c dst src 0 1) s k c (fun u => Loaded t u dst (t.l src)) ∧
      (dst < 4 → Runs (.mov k c dst src 1 0) s k c (fun u => Counted t u dst (t.g src % 2 ^ 32) (t.pc + 1))) ∧
      Runs (.mov k c 0 src 2 0) s k c (fun u => Flagged t u (t.g src % 64)) ∧
      Runs (.sel k c dst a b cond) s k c (fun u =>
        Loaded t u dst (if condOf t (s.dev.chan (64 * k + c)) cond then t.g a else t.opnd b)))

/-- NOP, YIELD, FENCE, JMP, JCC and LOOP (R193): where the thread goes on, and the loop counter.
CALL and RET (R193, R194, R209): the return stack, and STACK at depth 16 and at depth 0.
HALT (R193, R209): the user code, the cause HALT, the PC past the instruction; A = 0 leaves every channel. SIGNAL (R193): the doorbell's data word and PENDING. -/
def Obligations.JumpsAndCalls : Prop :=
  (∀ (s : State) (k c cond target x : Nat), Turn s k c → x < 4 → target < 2 ^ 32 →
    let t := s.dev.thread k c
    Runs (.nop k c) s k c (fun u => Moved t u (t.pc + 1)) ∧ Runs (.yield k c) s k c (fun u => Moved t u (t.pc + 1)) ∧
      Runs (.fence k c) s k c (fun u => Moved t u (t.pc + 1)) ∧ Runs (.jmp k c target) s k c (fun u => Moved t u target) ∧
      Runs (.jcc k c cond target) s k c (fun u => Moved t u (if condOf t (s.dev.chan (64 * k + c)) cond then target else t.pc + 1)) ∧
      (1 < t.l x → Runs (.loop k c x target) s k c fun u => Counted t u x ((t.l x - 1) % 2 ^ 32) target) ∧
      (t.l x ≤ 1 → Runs (.loop k c x target) s k c fun u => Counted t u x 0 (t.pc + 1))) ∧
  (∀ (s : State) (k c cond target : Nat), Turn s k c → target < 2 ^ 32 → (s.dev.thread k c).get SEQ_TSP_DEPTH ≤ 16 →
    let t := s.dev.thread k c
    let dep := t.get SEQ_TSP_DEPTH
    let holds := condOf t (s.dev.chan (64 * k + c)) cond
    (holds = true → dep < 16 → Runs (.call k c cond target) s k c fun u =>
        u.pc = target ∧ u.get (SEQ_TSTK_PC dep) = (t.pc + 1) % 2 ^ 32 ∧ u.get SEQ_TSP_DEPTH = dep + 1 ∧ u.state = 1 ∧
        u.flags = t.flags ∧ (∀ i, u.g i = t.g i) ∧ (∀ i, u.l i = t.l i) ∧ ∀ j, j < 16 → j ≠ dep → u.get (SEQ_TSTK_PC j) = t.get (SEQ_TSTK_PC j)) ∧
      (holds = true → dep = 16 → Halts (.call k c cond target) s k c 4) ∧
      (holds = false → Runs (.call k c cond target) s k c fun u => Moved t u (t.pc + 1)) ∧
      (holds = true → 0 < dep → Runs (.ret k c cond) s k c fun u =>
        u.pc = t.get (SEQ_TSTK_PC (dep - 1)) % 2 ^ 32 ∧ u.get SEQ_TSP_DEPTH = dep - 1 ∧ u.state = 1 ∧ u.flags = t.flags ∧
        (∀ i, u.g i = t.g i) ∧ (∀ i, u.l i = t.l i) ∧ ∀ j, j < 16 → u.get (SEQ_TSTK_PC j) = t.get (SEQ_TSTK_PC j)) ∧
      (holds = true → dep = 0 → Halts (.ret k c cond) s k c 4) ∧
      (holds = false → Runs (.ret k c cond) s k c fun u => Moved t u (t.pc + 1))) ∧
  (∀ (s : State) (k c a ucode : Nat) (b : Opnd), Turn s k c → ucode < 256 →
    let t := s.dev.thread k c
    (∃ r, exec (.halt k c false ucode) s = .next r ∧
        (let u := r.dev.thread k c
         u.state = 0 ∧ u.get SEQ_TSTAT_CAUSE = 1 ∧ u.get SEQ_TSTAT_UCODE = ucode ∧ u.pc = (t.pc + 1) % 2 ^ 32 ∧ u.flags = t.flags ∧
           ∀ i, u.g i = t.g i) ∧
        r.dev.mem = s.dev.mem ∧ ∀ n, r.dev.chan n = s.dev.chan n) ∧
      (∃ r, exec (.signal k c a b) s = .next r ∧ Moved t (r.dev.thread k c) (t.pc + 1) ∧
        r.dev.get (EVT_DBDATA_DATA (t.opnd b % 32)) = t.g a % 2 ^ 32 ∧ r.dev.on (EVT_SRC_PENDING (480 + t.opnd b % 32)) = true ∧
        r.dev.mem = s.dev.mem ∧ ∀ n, r.dev.chan n = s.dev.chan n))

/-- WAITC, WAITT and SYNC (R195, R196, R198, R200): the wait each begins, with its deadline; SYNCERR for a mask without the thread or another than the one held.
WAIT_CONDITION_MET, WAIT_TIMEOUT and WAITT_DEADLINE (R195, R196, R198): a stamped condition that holds at or before the deadline wins with T = 0 and its own stamp; a deadline passed by more than the margin with the condition false gives T = 1 and the deadline; WAITT ends with the deadline as its stamp. -/
def Obligations.WaitInstructions : Prop :=
  (∀ (s : State) (k c cls reg timeout base b : Nat), Turn s k c → b < 16 →
    let t := s.dev.thread k c
    let now := s.dev.dt
    let limit := if timeout = 0 then none else some (now + 128 * timeout)
    let from_ := if base = 0 then now else if base = 1 then (s.dev.chan (64 * k + c)).get CH_TSTART_DT else t.g reg
    let held := (s.dev.clus k).bars.find? fun e => e.1 == b
    (cls ≠ 6 → Runs (.waitc k c cls reg timeout) s k c fun u => Waits t u ⟨.cond cls (t.g reg), limit, now⟩) ∧
      (∃ arg, arg % 2 = t.g reg % 2 ∧ Runs (.waitc k c 6 reg timeout) s k c fun u => Waits t u ⟨.cond 6 arg, limit, now⟩) ∧
      (base < 3 → now ≤ from_ + 128 * timeout →
        Runs (.waitt k c base reg timeout) s k c fun u => Waits t u ⟨.until_, some (from_ + 128 * timeout), now⟩) ∧
      (bit (t.g reg) c = true → (∀ e, held = some e → e.2 = t.g reg) → ∃ r, exec (.sync k c b reg timeout) s = .next r ∧
        Waits t (r.dev.thread k c) ⟨.sync b (t.g reg), limit, now⟩ ∧ (r.dev.clus k).bars.any (fun e => e.1 == b && e.2 == t.g reg) = true) ∧
      (bit (t.g reg) c = false ∨ (∃ e, held = some e ∧ e.2 ≠ t.g reg) → Halts (.sync k c b reg timeout) s k c 10)) ∧
  (∀ (s : State) (k c arg issue e : Nat) (dl : Option Nat) (ended : Bool),
    let x := s.dev.chan (64 * k + c)
    let t := s.dev.thread k c
    let stamp := if ended then x.get CH_ENDDT_DT else x.get CH_TSTART_DT
    (InWait s k c ⟨.cond (if ended then 0 else 1) arg, dl, issue⟩ →
        (ended = true → x.on CH_RSTAT_ENDED = true ∧ x.get CH_ENDDT_DT ≤ s.dev.dt) →
        (ended = false → x.on CH_RSTAT_PEND = false ∧ x.on CH_RSTAT_STEP_TRANSITION = false) →
        (∀ l, dl = some l → stamp ≤ l) →
        Runs (.waitConditionMet k c) s k c fun u => Woke t u false stamp) ∧
      (InWait s k c ⟨.cond 0 arg, some e, issue⟩ → x.on CH_RSTAT_ENDED = false → e + 204800 < s.dev.dt →
        Runs (.waitTimeout k c) s k c fun u => Woke t u true e) ∧
      (InWait s k c ⟨.until_, some e, issue⟩ → e ≤ s.dev.dt → Runs (.waittDeadline k c) s k c fun u => Woke t u false e))

/-- LD and ST at an on-chip bank (R203): the value extended to 64 bits, the bytes stored and no others; ALIGN and ACCESS halt with no effect.
ATADD at an on-chip bank (R204): the old value comes back extended, with its Z and N; the sum or the new value is stored; ATOMIC outside the 20 banks.
TLU (R207) on a table in a bank whose words hold no error: below the first abscissa, at or above the last, and between the two points of a table of two; CY becomes 0.
RDS (R206): what some items read of the thread and its channel; a two-word item fills the next register too; wfpop takes the oldest window event away. -/
def Obligations.LoadsStoresReads : Prop :=
  (∀ (s : State) (k c dst a b sz : Nat) (sg : Bool) (ofs : Int), Turn s k c → dst < 16 → sz < 4 →
    let th := s.dev.thread k c
    let n := accSize sz
    let x := uns 64 ((th.g a : Int) + ofs)
    (x < 2 ^ 40 → x % n = 0 → (∃ t, BankOpen s.dev k 0 x n t) → ∃ r, exec (.ld k c dst a ofs sg sz) s = .next r ∧
        Loaded th (r.dev.thread k c) dst (if sg then uns 64 (sgn (8 * n) (memRead s.dev.mem x n)) else memRead s.dev.mem x n) ∧
        r.dev.mem = s.dev.mem ∧ ∀ m, r.dev.chan m = s.dev.chan m) ∧
      (x < 2 ^ 40 → x % n = 0 → (∃ t, BankOpen s.dev k 1 x n t) → ∃ r, exec (.st k c a b ofs sz) s = .next r ∧
        Moved th (r.dev.thread k c) (th.pc + 1) ∧ memRead r.dev.mem x n = th.g b % 2 ^ (8 * n) ∧ KeepsOutside x n s.dev r.dev ∧
        ∀ m, r.dev.chan m = s.dev.chan m) ∧
      (2 ^ 40 ≤ x → Halts (.ld k c dst a ofs sg sz) s k c 5 ∧ Halts (.st k c a b ofs sz) s k c 5) ∧
      (x < 2 ^ 40 → x % n ≠ 0 → Halts (.ld k c dst a ofs sg sz) s k c 6 ∧ Halts (.st k c a b ofs sz) s k c 6)) ∧
  (∀ (s : State) (k c dst a sz : Nat) (sg swp : Bool) (b : Opnd), Turn s k c → dst < 16 → sz < 2 →
    let th := s.dev.thread k c
    let n := accSize sz
    let x := th.g a
    let y := th.opnd b
    let old := memRead s.dev.mem x n
    x < 2 ^ 40 → x % n = 0 →
    ((∃ t, BankOpen s.dev k 2 x n t) → ∃ r, exec (.atadd k c dst a b sg swp sz) s = .next r ∧
        Wrote th (r.dev.thread k c) dst (if sg then uns 64 (sgn (8 * n) old) else old) (th.flag 2) (th.flag 3) ∧
        memRead r.dev.mem x n = (if swp then y else old + y) % 2 ^ (8 * n) ∧ KeepsOutside x n s.dev r.dev ∧
        ∀ m, r.dev.chan m = s.dev.chan m) ∧
      ((∀ t, targetOf x = some t → 20 ≤ t) → Halts (.atadd k c dst a b sg swp sz) s k c 8)) ∧
  (∀ (s : State) (k c dst a N : Nat) (b : Opnd), Turn s k c → dst < 16 →
    let th := s.dev.thread k c
    let tab := th.opnd b
    let x := sgn 64 (th.g a)
    let word := fun o => sgn 64 (memRead s.dev.mem (tab + o) 8)
    tab < 2 ^ 39 → tab % 8 = 0 → 2 ≤ N → N ≤ 1024 → memRead s.dev.mem tab 8 = N → s.dev.soft = [] →
    (∀ o, o % 8 = 0 → o < 8 + 16 * N → ∃ t, BankOpen s.dev k 0 (tab + o) 8 t) →
    (x < word 8 → Runs (.tlu k c dst a b) s k c fun u => Wrote th u dst (uns 64 (word 16)) false true) ∧
      (word 8 ≤ x → word (8 + 16 * (N - 1)) ≤ x → Runs (.tlu k c dst a b) s k c fun u =>
        Wrote th u dst (uns 64 (word (16 + 16 * (N - 1)))) false (decide (word (8 + 16 * (N - 1)) < x))) ∧
      (N = 2 → word 8 ≤ x → x < word 24 → Runs (.tlu k c dst a b) s k c fun u =>
        Wrote th u dst (uns 64 (roundDiv (word 16 * (word 24 - word 8) + (x - word 8) * (word 32 - word 16)) (word 24 - word 8))) false false)) ∧
  (∀ (s : State) (k c dst : Nat), Turn s k c → dst < 16 →
    let n := 64 * k + c
    let th := s.dev.thread k c
    let x := s.dev.chan n
    let one := fun v u => Wrote th u dst (v % 2 ^ 64) (th.flag 2) (th.flag 3)
    Runs (.rds k c dst 0x0A) s k c (one (x.get CH_TSTART_DT)) ∧ Runs (.rds k c dst 0x20) s k c (one s.dev.dt) ∧
      Runs (.rds k c dst 0x21) s k c (one (th.get SEQ_TWSTAMP_DT)) ∧ Runs (.rds k c dst 0x22) s k c (one (th.get SEQ_TLATE_TICKS)) ∧
      Runs (.rds k c dst 0x0D) s k c (one (uns 64 (sgn 32 (x.get CH_DENS_D)))) ∧
      Runs (.rds k c dst 0x09) s k c (fun u => u.g dst = (x.get CH_ENDMASK_MASK + x.get CH_RSTAT_CAUSE * 2 ^ 16) % 2 ^ 64 ∧
        u.g (dst + 1) = x.get CH_ENDDT_DT % 2 ^ 64 ∧ u.pc = (th.pc + 1) % 2 ^ 32) ∧
      (∀ e rest, x.fifo = e :: rest → ∃ r, exec (.rds k c dst 0x18) s = .next r ∧ (r.dev.chan n).fifo = rest ∧
        (r.dev.thread k c).g dst = (e.info % 256 + rest.length * 2 ^ 16) % 2 ^ 64 ∧ (r.dev.thread k c).g (dst + 1) = e.dt % 2 ^ 64 ∧
        r.dev.mem = s.dev.mem ∧ ∀ m, m ≠ n → r.dev.chan m = s.dev.chan m))

/-- SETP, FMT, IRANGE, LIMIT, EXPECT and ENDC (R218 to R221, R224, R225): the one word of the shadow set that each writes; the routine ends with STEP_TRANSITION clear, and the active set does not change.
STEP and FMT LOAD (R130, R137, R213 to R217) when the tables read without error: the shadow set holds the names and what the tables gave, UNC stands, and STEP leaves PEND set with its trigger. A setpoint index past SPCNT halts with SETPIDX; a refused table read halts with ACCESS, an uncorrectable one with MEMERR, and the shadow set is as it was. -/
def Obligations.StepShadow : Prop :=
  (∀ (s : State) (k c w e comp r : Nat) (b : Opnd), Turn s k c → w < 16 → e < 16 → comp < 4 →
    let y := (s.dev.thread k c).opnd b
    (w < 4 → Edits (.setp k c w b) s k c fun x z => ShadowEdit [SET_SP_V w] x z ∧ z.sh.regs.get (SET_SP_V w) = y % 2 ^ 32 ∧
        z.sh.lim = x.sh.lim ∧ z.sh.exps = x.sh.exps ∧ z.sh.ends = x.sh.ends) ∧
      (Edits (.setp k c 4 b) s k c fun x z => ShadowEdit [SET_MODE_LOOP, SET_MODE_HOLDEN, SET_MODE_ENDACT] x z ∧
        z.sh.regs.get SET_MODE_LOOP = y % 64 ∧ z.sh.regs.on SET_MODE_HOLDEN = bit y 8 ∧ z.sh.regs.on SET_MODE_ENDACT = bit y 9 ∧
        z.sh.lim = x.sh.lim ∧ z.sh.exps = x.sh.exps ∧ z.sh.ends = x.sh.ends) ∧
      (Edits (.fmt k c w b) s k c fun x z => ShadowEdit [SET_FW_W w] x z ∧ z.sh.regs.get (SET_FW_W w) = y % 2 ^ 32 ∧
        z.sh.lim = x.sh.lim ∧ z.sh.exps = x.sh.exps ∧ z.sh.ends = x.sh.ends) ∧
      (Edits (.irange k c r) s k c fun x z => ShadowEdit [SET_MODE_IRANGE] x z ∧
        z.sh.regs.get SET_MODE_IRANGE = r % 2 ^ SET_MODE_IRANGE.width ∧ z.sh.lim = x.sh.lim ∧ z.sh.exps = x.sh.exps ∧ z.sh.ends = x.sh.ends) ∧
      (Edits (.limit k c comp false b) s k c fun x z => ShadowEdit [] x z ∧ z.sh.limw comp = y % 2 ^ 32 ∧
        (∀ j, j < 6 → j ≠ comp → z.sh.limw j = x.sh.limw j) ∧ z.sh.exps = x.sh.exps ∧ z.sh.ends = x.sh.ends) ∧
      (Edits (.limit k c comp true b) s k c fun x z => ShadowEdit [] x z ∧ z.sh.limw (4 + comp / 2) = y % 2 ^ 12 ∧
        (∀ j, j < 6 → j ≠ 4 + comp / 2 → z.sh.limw j = x.sh.limw j) ∧ z.sh.exps = x.sh.exps ∧ z.sh.ends = x.sh.ends) ∧
      (w < 6 → Edits (.expect k c e w b) s k c fun x z => ShadowEdit [] x z ∧ z.sh.xw e w = (if 4 ≤ w then y else y % 2 ^ 32) ∧
        (∀ j v, j < 16 → v < 6 → (j, v) ≠ (e, w) → z.sh.xw j v = x.sh.xw j v) ∧ z.sh.lim = x.sh.lim ∧ z.sh.ends = x.sh.ends) ∧
      (Edits (.endc k c e false b) s k c fun x z => ShadowEdit [] x z ∧ z.sh.ew e = (y % 2 ^ 32, (x.sh.ew e).2) ∧
        (∀ j, j < 16 → j ≠ e → z.sh.ew j = x.sh.ew j) ∧ z.sh.lim = x.sh.lim ∧ z.sh.exps = x.sh.exps) ∧
      (Edits (.endc k c e true b) s k c fun x z => ShadowEdit [] x z ∧ z.sh.ew e = ((x.sh.ew e).1, y) ∧
        (∀ j, j < 16 → j ≠ e → z.sh.ew j = x.sh.ew j) ∧ z.sh.lim = x.sh.lim ∧ z.sh.exps = x.sh.exps)) ∧
  (∀ (s : State) (k c f e : Nat) (a : StepArgs) (d' : Device) (set : StepSet) (ws : List Nat), Turn s k c →
    a.mode < 16 → a.fmt < 16 → a.lset < 16 → a.xset < 16 → a.eset < 16 → f < 16 →
    let n := 64 * k + c
    let t := s.dev.thread k c
    let inRange := a.keepsp = true ∨ a.s < (s.dev.clus k).get RG_SPCNT_CNT
    (inRange → s.dev.stepReads k c a = (d', 0, set) → ∃ r, exec (.step k c a) s = .next r ∧
        Moved t (r.dev.thread k c) (t.pc + 1) ∧
        (let y := r.dev.chan n
         y.on CH_RSTAT_PEND = true ∧ y.on CH_RSTAT_STEP_TRANSITION = false ∧ y.trig = a.trig ∧ y.sh.regs.on SET_MODE_UNC = true ∧
           y.sh.regs.get SET_MODE_MODE = a.mode ∧ y.sh.regs.get SET_MODE_FMT = a.fmt ∧ y.sh.regs.get SET_MODE_LSET = a.lset ∧
           y.sh.regs.get SET_MODE_XSET = a.xset ∧ y.sh.regs.get SET_MODE_ESET = a.eset ∧
           (∀ i, i < 4 → y.sh.regs.get (SET_SP_V i) = set.regs.get (SET_SP_V i)) ∧ (∀ i, i < 8 → y.sh.regs.get (SET_LW_W i) = set.regs.get (SET_LW_W i)) ∧
           (∀ i, i < 16 → y.sh.regs.get (SET_FW_W i) = set.regs.get (SET_FW_W i)) ∧
           y.sh.lim = set.lim ∧ y.sh.exps = set.exps ∧ y.sh.ends = set.ends ∧ y.ac = (s.dev.chan n).ac) ∧
        r.dev.mem = s.dev.mem ∧ ∀ m, m ≠ n → r.dev.chan m = s.dev.chan m) ∧
      (¬ inRange → ∃ r, exec (.step k c a) s = .next r ∧ Halted t (r.dev.thread k c) 16 ∧ (r.dev.chan n).sh = (s.dev.chan n).sh ∧
        r.dev.mem = s.dev.mem ∧ ∀ m, m ≠ n → r.dev.chan m = s.dev.chan m) ∧
      (inRange → (∃ x, s.dev.stepReads k c a = (d', e, x)) → e = 1 ∨ e = 2 → ∃ r, exec (.step k c a) s = .next r ∧
        Halted t (r.dev.thread k c) (if e = 2 then 7 else 5) ∧ (r.dev.chan n).sh = (s.dev.chan n).sh ∧ r.dev.mem = s.dev.mem ∧
        ∀ m, m ≠ n → r.dev.chan m = s.dev.chan m) ∧
      (s.dev.readTable k (s.dev.tableAt k RG_FMTBASE_BASE (c * 0x400 + f * 0x40)) 16 = (d', ws, 0) →
        ∃ r, exec (.fmtLoad k c f) s = .next r ∧ Moved t (r.dev.thread k c) (t.pc + 1) ∧
          (∀ i, i < 16 → (r.dev.chan n).sh.regs.get (SET_FW_W i) = ws.getD i 0 % 2 ^ 32) ∧ (r.dev.chan n).sh.regs.on SET_MODE_UNC = true ∧
          (r.dev.chan n).ac = (s.dev.chan n).ac ∧ r.dev.mem = s.dev.mem ∧ ∀ m, m ≠ n → r.dev.chan m = s.dev.chan m))

/-- EXPECT.CHECK, SOFT, SNUFF and ENABLE (R222, R225, R227): the failed mask and P; the ramp; the snuffed state with cause PROG; the re-arm, which P reports.
PSRANGE (R161, R167, R226): PSFS on an unusable range, the wait while a change is in progress, nothing to do when the range is in force and acknowledged, and the change that BUSY shows.
LDTAB (R228): a copy of whole 8-byte words inside the cluster's bank, here of one word; TABLE outside it or for overlapping spans, ALIGN for a misaligned operand, nothing for a length of 0. -/
def Obligations.ChannelInstr : Prop :=
  (∀ (s : State) (k c dst : Nat) (b : Opnd), Turn s k c → dst < 16 →
    let n := 64 * k + c
    let t := s.dev.thread k c
    let x := s.dev.chan n
    let failed := x.get CH_XSTAT_FAILED
    Runs (.expectCheck k c dst) s k c (fun u => u.g dst = failed % 2 ^ 64 ∧ u.flag 5 = decide (failed = 0) ∧ u.pc = (t.pc + 1) % 2 ^ 32 ∧
        ∀ i, i < 16 → i ≠ dst → u.g i = t.g i) ∧
      (Edits (.soft k c b) s k c fun x z => z = x.set CH_PSCTL_SOFT (min (t.opnd b) 65535)) ∧
      (∃ r, exec (.snuff k c) s = .next r ∧ Moved t (r.dev.thread k c) (t.pc + 1) ∧ (r.dev.chan n).on CH_SNFSTAT_SNUFFED = true ∧
        bit ((r.dev.chan n).get CH_SNFCAUSE_CAUSE) 19 = true ∧ (r.dev.chan n).enWant = false ∧
        (x.on CH_SNFSTAT_SNUFFED = false → (r.dev.chan n).get CH_SNFFIRST_CAUSE = 19) ∧ r.dev.on (EVT_SRC_PENDING (n / 8)) = true ∧
        r.dev.mem = s.dev.mem ∧ ∀ m, m ≠ n → r.dev.chan m = s.dev.chan m) ∧
      (∃ r, exec (.enable k c) s = .next r ∧ (r.dev.thread k c).pc = (t.pc + 1) % 2 ^ 32 ∧
        ((r.dev.thread k c).flag 5 = true ↔ x.on CH_SNFSTAT_SNUFFED = false ∨ s.dev.levels n = 0) ∧
        ((r.dev.chan n).on CH_SNFSTAT_SNUFFED = true ↔ x.on CH_SNFSTAT_SNUFFED = true ∧ s.dev.levels n ≠ 0) ∧
        (x.on CH_SNFSTAT_SNUFFED = true → s.dev.levels n ≠ 0 → (r.dev.chan n).on CH_SNFSTAT_REJ = true) ∧
        r.dev.mem = s.dev.mem ∧ ∀ m, m ≠ n → r.dev.chan m = s.dev.chan m)) ∧
  (∀ (s : State) (k c r : Nat) (w : Bool), Turn s k c → r < 4 →
    let n := 64 * k + c
    let t := s.dev.thread k c
    let x := s.dev.chan n
    let usable := x.get (CH_PSFS_FS r) ≠ 0
    (¬ usable → Halts (.psrange k c r w) s k c 17) ∧
      (usable → x.on CH_PSCTL_BUSY = true → Runs (.psrange k c r w) s k c fun u => Waits t u ⟨.psBusy r w, none, s.dev.dt⟩) ∧
      (usable → x.on CH_PSCTL_BUSY = false → r = x.psr → x.setupAcked = true → Runs (.psrange k c r w) s k c fun u => Moved t u (t.pc + 1)) ∧
      (usable → x.on CH_PSCTL_BUSY = false → r ≠ x.psr ∨ x.setupAcked = false → ∃ q, exec (.psrange k c r w) s = .next q ∧
        (q.dev.chan n).on CH_PSCTL_BUSY = true ∧ (q.dev.chan n).ps.map (·.target) = some r ∧
        (if w then Waits t (q.dev.thread k c) ⟨.psEnd, none, s.dev.dt⟩ else Moved t (q.dev.thread k c) (t.pc + 1)) ∧
        q.dev.mem = s.dev.mem ∧ ∀ m, m ≠ n → q.dev.chan m = s.dev.chan m)) ∧
  (∀ (s : State) (k c dst a b part : Nat), Turn s k c → dst < 16 → a < 16 → b < 16 → dst ≠ a → dst ≠ b → a ≠ b →
    let t := s.dev.thread k c
    let src := t.g a
    let dest := t.g dst
    let len := t.g b
    let aligned := src % 8 = 0 ∧ dest % 8 = 0 ∧ len % 8 = 0
    (¬ aligned → Halts (.ldtab k c dst a b part) s k c 6) ∧
      (aligned → len = 0 → Runs (.ldtab k c dst a b part) s k c fun u =>
        u.flag 0 = true ∧ u.pc = (t.pc + 1) % 2 ^ 32 ∧ (∀ i, u.g i = t.g i) ∧ ∀ i, i < 6 → i ≠ 0 → u.flag i = t.flag i) ∧
      (aligned → len ≠ 0 → (dest < targetBase k ∨ targetBase k + 0x300000 < dest + len ∨ 2 ^ 20 < len ∨ (src < dest + len ∧ dest < src + len)) →
        Halts (.ldtab k c dst a b part) s k c 18) ∧
      (aligned → len = 8 → 8 ≤ part → targetBase k ≤ dest → dest + 8 ≤ targetBase k + 0x300000 → ¬ (src < dest + 8 ∧ dest < src + 8) → src + 8 ≤ 2 ^ 40 →
        s.dev.soft = [] → (∃ x, BankOpen s.dev k 0 src 8 x) → (∃ x, BankOpen s.dev k 1 dest 8 x) →
        ∃ r, exec (.ldtab k c dst a b part) s = .next r ∧
          (let u := r.dev.thread k c
           u.g dst = dest + 8 ∧ u.g a = src + 8 ∧ u.g b = 0 ∧ u.flag 0 = true ∧ u.pc = (t.pc + 1) % 2 ^ 32) ∧
          memRead r.dev.mem dest 8 = memRead s.dev.mem src 8 ∧ KeepsOutside dest 8 s.dev r.dev ∧ ∀ m, r.dev.chan m = s.dev.chan m))

/-- MEAS, its ASYNC and COLLECT forms, and the end of an average (R93, R229): N of 1 to 65,536 conversions, signed values below 1 counting as 1; the wait; COLLECT with nothing outstanding gives M = 0 and INVALID with P = 0.
ACC RC and CLR (R231), ARM and its DIS form (R232, R272): the whole nanocoulombs and nanojoules read are subtracted from the totals; the code of an arm goes to G[DST], and P tells that it is 0.
TRIG on an edge slot, on the channel's capture and as a Beacon request, MARK and MARK STEP (R80, R147, R233, R234).
IMPED and the STAMP forms (R119, R151, R236, R237): an impedance request of at least one period, refused with FREQERR and P = 0 outside sine mode; arming, disarming, reading and configuring an interval unit. -/
def Obligations.MeasureInstr : Prop :=
  (∀ (s : State) (k c dst : Nat) (isI align : Bool) (b : Opnd) (a : Avg), Turn s k c → dst < 16 →
    let n := 64 * k + c
    let t := s.dev.thread k c
    let avg := fun (x : Chan) => if isI then x.avgI else x.avgV
    let busy := fun (x : Chan) => if isI then x.on CH_MSTAT_IBUSY else x.on CH_MSTAT_VBUSY
    let done := fun (x : Chan) => if isI then x.on CH_MSTAT_IDONE else x.on CH_MSTAT_VDONE
    let count := (max 1 (min 65536 (sgn 64 (t.opnd b)))).toNat
    let begun := fun (r : State) => avg (r.dev.chan n) = some { align := align, issue := s.dev.dt, need := count } ∧
      busy (r.dev.chan n) = true ∧ done (r.dev.chan n) = false ∧ r.dev.mem = s.dev.mem ∧ ∀ m, m ≠ n → r.dev.chan m = s.dev.chan m
    ((s.dev.chip (n / 128)).on AFE_TPRSTAT_RUN = true →
        (∃ r, exec (.meas k c dst isI align b) s = .next r ∧ Waits t (r.dev.thread k c) ⟨.meas isI dst, none, s.dev.dt⟩ ∧ begun r) ∧
        (∃ r, exec (.measAsync k c isI align b) s = .next r ∧ Moved t (r.dev.thread k c) (t.pc + 1) ∧ begun r)) ∧
      (busy (s.dev.chan n) = true ∨ done (s.dev.chan n) = true →
        Runs (.measCollect k c dst isI) s k c fun u => Waits t u ⟨.meas isI dst, none, s.dev.dt⟩) ∧
      (busy (s.dev.chan n) = false → done (s.dev.chan n) = false → Runs (.measCollect k c dst isI) s k c fun u =>
        u.g dst = 0 ∧ u.g (dst + 1) = 2 ^ 29 ∧ u.flag 5 = false ∧ u.pc = (t.pc + 1) % 2 ^ 32) ∧
      (avg (s.dev.chan n) = some a → a.need ≤ a.covered → ∃ r, exec (.averageDone n isI) s = .next r ∧
        avg (r.dev.chan n) = none ∧ busy (r.dev.chan n) = false ∧ done (r.dev.chan n) = true ∧
        (r.dev.chan n).get (if isI then CH_MIRES_CODE else CH_MVRES_CODE) = uns 64 a.code ∧ r.dev.mem = s.dev.mem ∧
        ∀ m, m ≠ n → r.dev.chan m = s.dev.chan m)) ∧
  (∀ (s : State) (k c dst : Nat) (b : Opnd), Turn s k c → dst < 16 →
    let n := 64 * k + c
    let t := s.dev.thread k c
    let x := s.dev.chan n
    (∃ r, exec (.accRc k c dst) s = .next r ∧
        (let u := r.dev.thread k c
         u.g dst = uns 64 (accWhole x.qtot) ∧ u.g (dst + 1) = uns 64 (accWhole x.etot) ∧ u.flag 0 = decide (uns 64 (accWhole x.qtot) = 0) ∧
           u.pc = (t.pc + 1) % 2 ^ 32) ∧
        (r.dev.chan n).qtot = x.qtot - accWhole x.qtot * 2 ^ 32 ∧ (r.dev.chan n).etot = x.etot - accWhole x.etot * 2 ^ 32 ∧
        (r.dev.chan n).qstep = x.qstep ∧ r.dev.mem = s.dev.mem ∧ ∀ m, m ≠ n → r.dev.chan m = s.dev.chan m) ∧
      (Edits (.accClr k c) s k c fun x y => y.qtot = 0 ∧ y.etot = 0 ∧ y.qstep = x.qstep ∧ y.estep = x.estep) ∧
      (∃ r, exec (.arm k c dst b) s = .next r ∧
        (let u := r.dev.thread k c
         let code := (s.dev.capArm n (t.opnd b % 256)).2
         u.g dst = code ∧ u.flag 5 = decide (code = 0) ∧ u.pc = (t.pc + 1) % 2 ^ 32 ∧ (r.dev.capt n).get CAP_ERR_CODE = code) ∧
        r.dev.mem = s.dev.mem) ∧
      ((s.dev.capt n).state ≠ 2 → ∃ r, exec (.armDis k c dst) s = .next r ∧ (r.dev.thread k c).g dst = 0 ∧ (r.dev.thread k c).flag 5 = true ∧
        (r.dev.thread k c).pc = (t.pc + 1) % 2 ^ 32 ∧ (r.dev.capt n).state = 0 ∧ r.dev.mem = s.dev.mem)) ∧
  (∀ (s : State) (k c j act a : Nat) (sync : Bool) (b : Opnd), Turn s k c → j < 4 → act < 4 →
    let n := 64 * k + c
    let t := s.dev.thread k c
    let y := t.opnd b
    (act ≠ 3 → Edits (.trigEdge k c j act a b) s k c fun _ z =>
        z.get (CH_ESCTL_ACT j) = act ∧ z.get (CH_ESDT_DT j) = (t.g a + 128 * y) % 2 ^ 64 ∧ z.on (CH_ESCTL_ARMED j) = true ∧
        z.on (CH_ESCTL_FIRED j) = false ∧ z.on (CH_ESCTL_LATE j) = false) ∧
      (Edits (.trigEdge k c j 3 a b) s k c fun _ z => z.get (CH_ESCTL_ACT j) = 3 ∧ z.get (CH_ESCTL_SYNCNO j) = y % 256 ∧
        z.on (CH_ESCTL_ARMED j) = true ∧ z.on (CH_ESCTL_FIRED j) = false) ∧
      ((s.dev.capt n).state ≠ 0 → ∃ r, exec (.trigCapture k c) s = .next r ∧ Moved t (r.dev.thread k c) (t.pc + 1) ∧
        (r.dev.capt n).regs = (s.dev.capt n).regs ∧ (s.dev.dt, false) ∈ (r.dev.capt n).offers ∧ r.dev.mem = s.dev.mem ∧
        ∀ m, r.dev.chan m = s.dev.chan m) ∧
      (s.dev.get DEV_POS_ROLE = 1 → ∃ r, exec (.trigBeacon k c sync b) s = .next r ∧ Moved t (r.dev.thread k c) (t.pc + 1) ∧
        r.dev.bcn = { s.dev.bcn with upQ := s.dev.bcn.upQ ++ [(if sync then 0x87 else 0x85, y % 256)] } ∧ r.dev.regs = s.dev.regs ∧
        r.dev.mem = s.dev.mem ∧ ∀ m, r.dev.chan m = s.dev.chan m) ∧
      (s.dev.get DEV_POS_ROLE = 2 → ∃ r, exec (.trigBeacon k c sync b) s = .next r ∧ Moved t (r.dev.thread k c) (t.pc + 1) ∧
        r.dev.bcn = { s.dev.bcn with downQ := s.dev.bcn.downQ ++ [{ typ := if sync then 7 else 5, payload := y % 256 }] } ∧
        r.dev.regs = s.dev.regs ∧ r.dev.mem = s.dev.mem ∧ ∀ m, r.dev.chan m = s.dev.chan m) ∧
      ((s.dev.capt n).state ≠ 0 → ∃ r, exec (.mark k c b) s = .next r ∧ Moved t (r.dev.thread k c) (t.pc + 1) ∧
        (r.dev.capt n).marks = (s.dev.capt n).marks ++ [(s.dev.dt, y % 2 ^ 32)] ∧ r.dev.mem = s.dev.mem ∧ ∀ m, r.dev.chan m = s.dev.chan m) ∧
      Edits (.markStep k c b) s k c fun x z => z = x.set CH_STEPIDX_IDX y) ∧
  (∀ (s : State) (k c dst a i : Nat) (w : Bool) (b : Opnd), Turn s k c → dst < 16 → i < 8 →
    let n := 64 * k + c
    let t := s.dev.thread k c
    let x := s.dev.chan n
    let y := t.opnd b
    let fast := x.mode ≠ 7 ∨ 2 ^ 32 < x.ac.ftw * 4 * (s.dev.chip (n / 128)).half
    let keeps := fun (r : State) => r.dev.mem = s.dev.mem ∧ r.dev.regs = s.dev.regs ∧ ∀ m, m ≠ n → r.dev.chan m = s.dev.chan m
    (¬ fast → ∃ r, exec (.imped k c w b) s = .next r ∧
        (if w then Waits t (r.dev.thread k c) ⟨.imped, none, s.dev.dt⟩ else Moved t (r.dev.thread k c) (t.pc + 1)) ∧
        (r.dev.chan n).on CH_ZSTAT_BUSY = true ∧ (r.dev.chan n).on CH_ZSTAT_DONE = false ∧
        (r.dev.chan n).imp = some { periods := max 1 (y % 2 ^ 16), req := s.dev.dt } ∧ keeps r) ∧
      (fast → ∃ r, exec (.imped k c w b) s = .next r ∧ (r.dev.thread k c).flag 5 = false ∧ (r.dev.thread k c).pc = (t.pc + 1) % 2 ^ 32 ∧
        (r.dev.chan n).on CH_ZSTAT_FREQERR = true ∧ (r.dev.chan n).imp = x.imp ∧ keeps r) ∧
      (1 ≤ (s.dev.sti k i).mode → (s.dev.sti k i).mode ≤ 4 → (s.dev.sti k i).get STI_START_SEL = 0 → (s.dev.sti k i).get STI_STOP_SEL = 0 →
        ∃ r, exec (.stampArm k c i) s = .next r ∧ Moved t (r.dev.thread k c) (t.pc + 1) ∧ (r.dev.sti k i).on STI_STAT_ARMED = true ∧
          (r.dev.sti k i).on STI_STAT_DONE = false ∧ (r.dev.sti k i).get STI_TARM_DT = s.dev.dt % 2 ^ 64 ∧
          (r.dev.sti k i).get STI_RES_VAL = 0 ∧ keeps r) ∧
      (∃ r, exec (.stampDis k c i) s = .next r ∧ Moved t (r.dev.thread k c) (t.pc + 1) ∧ (r.dev.sti k i).on STI_STAT_ARMED = false ∧
        (r.dev.sti k i).armed = none ∧ (r.dev.sti k i).get STI_RES_VAL = (s.dev.sti k i).get STI_RES_VAL ∧ keeps r) ∧
      (Runs (.stampRd k c dst i) s k c fun u => u.g dst = (s.dev.sti k i).get STI_RES_VAL % 2 ^ 64 ∧
        u.flag 5 = (s.dev.sti k i).on STI_STAT_DONE ∧ u.pc = (t.pc + 1) % 2 ^ 32) ∧
      (∃ r, exec (.stampCfg k c i a b) s = .next r ∧ Moved t (r.dev.thread k c) (t.pc + 1) ∧
        (r.dev.sti k i).get STI_TMO_VAL = t.g a / 2 ^ 32 % 2 ^ 32 ∧ (r.dev.sti k i).get STI_START_SEL = y % 2 ^ 16 ∧
        (r.dev.sti k i).get STI_STOP_SEL = y / 2 ^ 16 % 2 ^ 16 ∧ (r.dev.sti k i).armed = none ∧ keeps r))

/-- STRM and its forms (R301, R306): reset and configuration only while the stream does not play; status, slip and skip counts as they stand; GO ends a wait that GO can end.
SEG and SEG COPY (R295, R307): the header, and after it the copied entries, go into the ring from the writer index on, and the index advances once; P = 0 and nothing written when the segment does not fit.
RECORD (R235): `B` bytes from G[SRCA] in the cluster's record queue with P = 1; a full queue drops it, counts it and gives P = 0; ALIGN for a length that is no multiple of 8 from 8 to 64. -/
def Obligations.StreamInstr : Prop :=
  (∀ (s : State) (k c dst a : Nat) (d' : Device) (ws : List Nat), Turn s k c → dst < 16 →
    let n := 64 * k + c
    let t := s.dev.thread k c
    let x := s.dev.chan n
    let w := fun i => ws.getD i 0
    let period := w 4 + 2 ^ 32 * w 5
    let sound := w 0 / 2 ^ 7 % 2 ^ 25 = 0 ∧ w 1 % 4096 = 0 ∧ w 2 % 4096 = 0 ∧ w 2 ≤ 262144 ∧ 1600 ≤ period ∧ period ≤ 5760000000000 ∧ w 7 = 0 ∧
      w 1 + w 2 ≤ 0x300000
    let past := fun (r : State) (p : Bool) => (r.dev.thread k c).flag 5 = p ∧ (r.dev.thread k c).pc = (t.pc + 1) % 2 ^ 32 ∧
      r.dev.mem = s.dev.mem ∧ ∀ m, m ≠ n → r.dev.chan m = s.dev.chan m
    (x.stream.play = false → ∃ r, exec (.strmReset k c) s = .next r ∧ past r true ∧
        (r.dev.chan n).get CH_STWR_IDX = x.get CH_STRD_IDX % 2 ^ 32 ∧ (r.dev.chan n).get CH_STRD_IDX = x.get CH_STRD_IDX) ∧
      (x.stream.play = true → ∃ r, exec (.strmReset k c) s = .next r ∧ past r false ∧ r.dev.chan n = x) ∧
      (∃ r, exec (.strmGo k c) s = .next r ∧ past r (s.dev.waitsFor n 0 0 s.dev.dt)) ∧
      (Runs (.strmStat k c dst) s k c fun u => u.g dst = wordOf x.regs (CH_STSTAT.fields []) 0 % 2 ^ 64 ∧
        u.g (dst + 1) = ahead (x.get CH_STRD_IDX) (x.get CH_STWR_IDX) % 2 ^ 64 ∧ u.flag 5 = !x.on CH_STSTAT_UNDERRUN ∧ u.pc = (t.pc + 1) % 2 ^ 32) ∧
      (Runs (.strmSlip k c dst) s k c fun u => u.g dst = x.get CH_STSLIP_TICKS % 2 ^ 64 ∧ u.g (dst + 1) = x.get CH_STSKIP_CNT % 2 ^ 64 ∧
        u.flag 5 = true ∧ u.pc = (t.pc + 1) % 2 ^ 32) ∧
      (t.g a < 2 ^ 40 → t.g a % 8 = 0 → s.dev.readWords k 0 4 8 (t.g a) = (d', ws, 0) → x.stream.play = false → sound →
        ∃ r, exec (.strmCfg k c dst a) s = .next r ∧ past r true ∧ (r.dev.thread k c).g dst = 0 ∧
          (r.dev.chan n).get CH_STBASE_BASE = w 1 % 2 ^ CH_STBASE_BASE.width ∧ (r.dev.chan n).get CH_STSIZE_SIZE = w 2 % 2 ^ CH_STSIZE_SIZE.width ∧
          (r.dev.chan n).get CH_STPER_TICKS = period % 2 ^ CH_STPER_TICKS.width ∧ (r.dev.chan n).get CH_STWR_IDX = 0 ∧
          (r.dev.chan n).get CH_STRD_IDX = 0)) ∧
  (∀ (s : State) (k c dst a : Nat) (b : Opnd) (d1 d2 : Device) (vs : List Nat), Turn s k c → dst < 16 →
    let n := 64 * k + c
    let t := s.dev.thread k c
    let x := s.dev.chan n
    let count := t.opnd b
    let refused := fun (i : Instr) => Runs i s k c fun u => u.flag 5 = false ∧ u.pc = (t.pc + 1) % 2 ^ 32 ∧ ∀ j, u.g j = t.g j
    (x.segOk (t.g a) 0 = false → refused (.seg k c a)) ∧
      (x.segOk (t.g a) 0 = true → s.dev.ringStore n k (x.get CH_STWR_IDX) [t.g a] = (d1, 0) → ∃ r, exec (.seg k c a) s = .next r ∧
        (r.dev.thread k c).flag 5 = true ∧ (r.dev.thread k c).pc = (t.pc + 1) % 2 ^ 32 ∧ r.dev.mem = d1.mem ∧ r.dev.chan n = d1.chan n) ∧
      (count < 1 ∨ 4096 < count ∨ x.segOk (t.g a) count = false → refused (.segCopy k c dst a b)) ∧
      (1 ≤ count → count ≤ 4096 → x.segOk (t.g a) count = true → t.g dst < 2 ^ 40 → t.g dst % 8 = 0 →
        s.dev.readWords k 0 8 count (t.g dst) = (d1, vs, 0) → d1.ringStore n k (x.get CH_STWR_IDX) (t.g a :: vs) = (d2, 0) →
        ∃ r, exec (.segCopy k c dst a b) s = .next r ∧ (r.dev.thread k c).flag 5 = true ∧ (r.dev.thread k c).pc = (t.pc + 1) % 2 ^ 32 ∧
          r.dev.mem = d2.mem ∧ r.dev.chan n = d2.chan n)) ∧
  (∀ (s : State) (k c typ a : Nat) (b : Opnd) (d' : Device) (ws : List Nat), Turn s k c → typ < 256 →
    let n := 64 * k + c
    let t := s.dev.thread k c
    let len := t.opnd b
    let bad := len < 8 ∨ 64 < len ∨ len % 8 ≠ 0
    let at_ := t.g a
    (bad → Halts (.record k c typ a b) s k c 6) ∧
      (¬ bad → at_ < 2 ^ 40 → at_ % 8 = 0 → 64 ≤ (s.dev.clus k).records.length → ∃ r, exec (.record k c typ a b) s = .next r ∧
        (r.dev.clus k).records = (s.dev.clus k).records ∧ (r.dev.thread k c).flag 5 = false ∧ (r.dev.thread k c).pc = (t.pc + 1) % 2 ^ 32 ∧
        (r.dev.clus k).get RG_RECSTAT_DROPPED = min ((s.dev.clus k).get RG_RECSTAT_DROPPED + 1) (2 ^ RG_RECSTAT_DROPPED.width - 1)) ∧
      (¬ bad → at_ < 2 ^ 40 → at_ % 8 = 0 → (s.dev.clus k).records.length < 64 → s.dev.readWords k 0 8 (len / 8) at_ = (d', ws, 0) →
        ∃ r, exec (.record k c typ a b) s = .next r ∧ (r.dev.thread k c).flag 5 = true ∧ (r.dev.thread k c).pc = (t.pc + 1) % 2 ^ 32 ∧
          (∃ q, (r.dev.clus k).records = (s.dev.clus k).records ++ [q] ∧ q.kind = 0 ∧ q.typ = typ ∧ q.lcn = s.dev.lcn n ∧
            q.idx = (s.dev.chan n).get CH_STEPIDX_IDX ∧ q.dt = s.dev.dt ∧ q.data = ws.flatMap (toBytes 8) ∧ q.sent = none) ∧
          r.dev.mem = s.dev.mem ∧ ∀ m, r.dev.chan m = s.dev.chan m))

/-- SJMP (R308): while the step streams, a jump to SEGNO B[7:0] with WHEN = SUB[0] is latched and P = 1; otherwise nothing is latched and P = 0; the example's word. -/
def Obligations.StreamJump : Prop :=
  ∀ (s : State) (k c : Nat) (passEnd : Bool) (b : Opnd), Turn s k c →
    let n := 64 * k + c
    let t := s.dev.thread k c
    let x := s.dev.chan n
    let past := fun (r : State) (p : Bool) => (r.dev.thread k c).flag 5 = p ∧ (r.dev.thread k c).pc = (t.pc + 1) % 2 ^ 32 ∧ (∀ i, (r.dev.thread k c).g i = t.g i) ∧
      r.dev.mem = s.dev.mem ∧ (∀ m, m ≠ n → r.dev.chan m = s.dev.chan m) ∧ r.pending = s.pending
    (x.stream.play = true → ∃ r, exec (.sjmp k c passEnd b) s = .next r ∧ past r true ∧ (r.dev.chan n).on CH_STSTAT_JPEND = true ∧
        (r.dev.chan n).stream.jump = some (t.opnd b % 256, passEnd, s.dev.dt) ∧ (r.dev.chan n).stream.play = true ∧ (r.dev.chan n).stream.slot = x.stream.slot) ∧
      (x.stream.play = false → ∃ r, exec (.sjmp k c passEnd b) s = .next r ∧ past r false ∧ r.dev.chan n = x) ∧
      encode (.sjmp k c false (.imm 3)) = some 0x9200080000000003

/-- MWIN, CTLOOK and CTSEAL (R332, R333, R335, R337): the window joins the channel's with its entries scheduled; the record found is copied out and its handle returned; the open batch closes with its number and leaves. P = 1 with every status OK.
CTUPD in its four forms and MSORT (R332, R334, R336): the status of the table operation reaches G[DST], P tells that it is OK, and the memory is what the table engine left. -/
def Obligations.CellInstr : Prop :=
  (∀ (s : State) (k c dst a slot act cp id handle image : Nat) (guard : Bool) (b : Opnd) (d1 d2 d3 : Device), Turn s k c → dst < 16 →
    slot < 4 → act < 4 → cp < 8 →
    let n := 64 * k + c
    let t := s.dev.thread k c
    let mw := s.dev.mwin n (t.g a) (t.opnd b) (slot + 4 * act + 16 * b2n guard + 32 * cp)
    let ready := s.dev.on CT_STAT_RECOUNT = false ∧ s.dev.on CT_CTL_EN = true
    let out := t.opnd b
    let found := fun (d : Device) => d.ctFind id = (d1, 0, some handle) ∧ d1.ctRead handle = (d2, 0, image) ∧ d2.storeImage k 16 out image = (d3, 0)
    let looked := fun (i : Instr) => ∃ r, exec i s = .next r ∧ (r.dev.thread k c).g dst = 0 ∧ (r.dev.thread k c).g (dst + 1) = handle % 2 ^ 64 ∧
      (r.dev.thread k c).flag 5 = true ∧ (r.dev.thread k c).pc = (t.pc + 1) % 2 ^ 32 ∧ r.dev.mem = d3.mem
    (∃ r, exec (.mwin k c dst a b slot act guard cp) s = .next r ∧ (r.dev.thread k c).g dst = mw.2 % 2 ^ 64 ∧
        (r.dev.thread k c).flag 5 = decide (mw.2 % 256 = 0) ∧ (r.dev.thread k c).pc = (t.pc + 1) % 2 ^ 32 ∧ r.dev.mem = s.dev.mem ∧
        (mw.2 % 256 = 0 → (r.dev.chan n).wins.length = (s.dev.chan n).wins.length + 1 ∧ s.dev.mot.sched.length < r.dev.mot.sched.length)) ∧
      (ready → out < 2 ^ 40 → out % 8 = 0 → id = t.g a → badId id = false → found s.dev → looked (.ctlook k c dst a b)) ∧
      (ready → out < 2 ^ 40 → out % 8 = 0 → badId id = false → (∃ d0, s.dev.carrierCell (t.g a) = (d0, 0, some id) ∧ found d0) →
        looked (.ctlookCar k c dst a b)) ∧
      (ready → (s.dev.mot.slots.any fun q => q.owner.isSome) = false → s.dev.ct.leaves.isEmpty = false → s.dev.ct.closed.length < 4 →
        ∃ r, exec (.ctseal k c dst) s = .next r ∧ (r.dev.thread k c).g dst = s.dev.ct.leaves.length * 256 % 2 ^ 64 ∧
          (r.dev.thread k c).g (dst + 1) = s.dev.get CT_BATCH_NUM % 2 ^ 64 ∧ (r.dev.thread k c).flag 5 = true ∧
          (r.dev.thread k c).pc = (t.pc + 1) % 2 ^ 32 ∧ r.dev.ct.leaves = [] ∧
          (∃ q, r.dev.ct.closed = s.dev.ct.closed ++ [q] ∧ q.num = s.dev.get CT_BATCH_NUM ∧ q.leaves = s.dev.ct.leaves) ∧ r.dev.mem = s.dev.mem)) ∧
  (∀ (s : State) (k c dst a st : Nat) (b : Opnd) (d1 d2 d3 : Device) (ws : List Nat) (slot : SortSlot), Turn s k c → dst < 16 →
    let n := 64 * k + c
    let t := s.dev.thread k c
    let at_ := t.g a
    let image := ofBytes (ws.flatMap (toBytes 8))
    let ends := fun (i : Instr) (d : Device) => ∃ r, exec i s = .next r ∧ (r.dev.thread k c).g dst = st % 2 ^ 64 ∧
      (r.dev.thread k c).flag 5 = decide (st % 256 = 0) ∧ (r.dev.thread k c).pc = (t.pc + 1) % 2 ^ 32 ∧ r.dev.mem = d.mem ∧ r.dev.ct = d.ct ∧ r.dev.mot = d.mot
    s.dev.on CT_STAT_RECOUNT = false → at_ < 2 ^ 40 → at_ % 8 = 0 →
    (s.dev.readWords k 0 8 16 at_ = (d1, ws, 0) →
        (d1.ctUpd 0 image (t.opnd b) = (d2, 0, st) → (d2.thread k c) = t → (d2.clus k).on SEQ_CTL_QUIESCE = false → ends (.ctupdUpdate k c dst a b) d2) ∧
        (d1.ctUpd 1 image (t.opnd b) = (d2, 0, st) → (d2.thread k c) = t → (d2.clus k).on SEQ_CTL_QUIESCE = false → ends (.ctupdInsert k c dst a b) d2) ∧
        (d1.ctUpd 2 image (t.opnd b) = (d2, 0, st) → (d2.thread k c) = t → (d2.clus k).on SEQ_CTL_QUIESCE = false → ends (.ctupdUpsert k c dst a b) d2) ∧
        (d1.ctUpd 3 image (t.opnd b) = (d2, 0, st) → (d2.thread k c) = t → (d2.clus k).on SEQ_CTL_QUIESCE = false → ends (.ctupdRetire k c dst a b) d2)) ∧
      (s.dev.readWords k 0 8 8 at_ = (d1, ws, 0) → (s.dev.mot.slots.find? fun q => q.owner == some n) = none →
        d1.msortStart n image = (d2, 0) → (d2.mot.slots.find? fun q => q.owner == some n) = some slot → d2.msortFinish n slot = (d3, 0, st) →
        (d3.thread k c) = t → (d3.clus k).on SEQ_CTL_QUIESCE = false → ends (.msort k c dst a) d3) ∧
      ((s.dev.mot.slots.find? fun q => q.owner == some n) = some slot → s.dev.msortFinish n slot = (d3, 0, st) →
        (d3.thread k c) = t → (d3.clus k).on SEQ_CTL_QUIESCE = false → ends (.msort k c dst a) d3))

/-- Register writes (R2, R4, R5, R346, R385): RW fields take the value, a W1C bit written 1 clears, an RWL field keeps its value under LOCK, the low word of a pair is held until the high word of the same master is written, and LOCK sets once for all. -/
def Obligations.RegisterWrites : Prop :=
  ∀ (s : State) (m k c i v lo hi : Nat), k < 16 → c < 64 → v < 2 ^ 32 → lo < 2 ^ 32 → hi < 2 ^ 32 →
    let src := devAddr (0x41000 + 4 * i)
    let cnt := clAddr k 0x31008
    let g := thrAddr k c (0x40 + 8 * i)
    (i < 512 → reservedSource i = false → Granted s m 1 src → ∃ r, exec (.regWrite m src v) s = .next r ∧
        r.dev.resp = [⟨m, src, [], 0⟩] ∧ r.dev.on (EVT_SRC_ENABLE i) = bit v 2 ∧ r.dev.on (EVT_SRC_RLAMP i) = bit v 5 ∧
        r.dev.on (EVT_SRC_RHOST i) = bit v 6 ∧ r.dev.on (EVT_SRC_RBCN i) = bit v 7 ∧ r.dev.get (EVT_SRC_PRIORITY i) = v / 2 ^ 8 % 4 ∧
        r.dev.get (EVT_SRC_BCNTRIG i) = v / 2 ^ 16 % 256 ∧
        (r.dev.on (EVT_SRC_PENDING i) = true ↔ s.dev.get (EVT_SRC_PENDING i) % 2 = 1 ∧ bit v 1 = false) ∧ r.dev.mem = s.dev.mem ∧ r.dev.ch = s.dev.ch) ∧
      (Granted s m 1 cnt → ∃ r, exec (.regWrite m cnt v) s = .next r ∧ r.dev.resp = [⟨m, cnt, [], 0⟩] ∧
        (r.dev.clus k).get RG_SPCNT_CNT = (if s.dev.on DEV_CTL_LOCK then (s.dev.clus k).get RG_SPCNT_CNT else v % 2 ^ 16) ∧
        r.dev.mem = s.dev.mem ∧ r.dev.ch = s.dev.ch ∧ r.dev.regs = s.dev.regs) ∧
      (i < 16 → Granted s m 1 g → (s.dev.thread k c).state = 0 → ∃ r, exec (.regPairLowWrite m g lo) s = .next r ∧
        findWord m g r.dev.held = some lo ∧ (∀ j e, r.dev.thread j e = s.dev.thread j e) ∧ r.dev.resp = [⟨m, g, [], 0⟩] ∧ r.dev.mem = s.dev.mem) ∧
      (i < 16 → Granted s m 1 (g + 4) → (s.dev.thread k c).state = 0 → findWord m g s.dev.held = some lo →
        ∃ r, exec (.regPairHighWrite m (g + 4) hi) s = .next r ∧ (r.dev.thread k c).g i = lo + 2 ^ 32 * hi ∧ findWord m g r.dev.held = none ∧
          (∀ j e, (j, e) ≠ (k, c) → r.dev.thread j e = s.dev.thread j e) ∧ r.dev.resp = [⟨m, g + 4, [], 0⟩] ∧ r.dev.mem = s.dev.mem) ∧
      (Granted s m 1 (devAddr 4) → ∃ r, exec (.lockSet m) s = .next r ∧ r.dev.on DEV_CTL_LOCK = true ∧
        (r.dev.on DEV_CTL_LANE_EN ↔ s.dev.get DEV_CTL_LANE_EN % 2 = 1) ∧ r.dev.mem = s.dev.mem)

/-- Register reads (R2, R4, R105, R115, R132): the low word of a pair captures the high one for its reader, an RC counter reads and clears, the read of a conversion's flags captures its code and DT, CH_WFINFO takes the oldest window event away, and the first shadow word captures the other 28.
A refused access (R344, R346, R435, R466): the error response, the count and event 195; no register but those of the refusal and no byte of memory changes. -/
def Obligations.RegisterReads : Prop :=
  (∀ (s : State) (m k c n : Nat) (e : WEntry) (rest : List WEntry), k < 16 → c < 64 → n < 1024 →
    let x := s.dev.chan n
    let keeps := fun (r : State) => r.dev.mem = s.dev.mem ∧ r.dev.regs = s.dev.regs
    (Granted s m 0 (devAddr 0x10008) → ∃ r, exec (.regPairLowRead m (devAddr 0x10008)) s = .next r ∧
        r.dev.resp = [⟨m, devAddr 0x10008, [s.dev.dt % 2 ^ 32], 0⟩] ∧
        findWord m (devAddr 0x1000C) r.dev.caught = some (s.dev.dt / 2 ^ 32 % 2 ^ 32) ∧ keeps r ∧ r.dev.ch = s.dev.ch) ∧
      (Granted s m 0 (thrAddr k c 0x1C) → ∃ r, exec (.regRcRead m (thrAddr k c 0x1C)) s = .next r ∧
        r.dev.resp = [⟨m, thrAddr k c 0x1C, [(s.dev.thread k c).get SEQ_TOVCNT_CNT % 2 ^ 32], 0⟩] ∧
        (r.dev.thread k c).get SEQ_TOVCNT_CNT = 0 ∧ (r.dev.thread k c).pc = (s.dev.thread k c).pc ∧ keeps r ∧ r.dev.ch = s.dev.ch) ∧
      (Granted s m 0 (chAddr n 0x110) → ∃ r, exec (.chFlgRead m n false) s = .next r ∧
        r.dev.resp = [⟨m, chAddr n 0x110, [wordOf x.regs (CH_VFLG.fields []) 0], 0⟩] ∧
        findWord m (chAddr n 0x114) r.dev.caught = some (x.get CH_VCODE_CODE % 2 ^ 32) ∧ keeps r) ∧
      (Granted s m 0 (chAddr n 0x120) → ∃ r, exec (.chFlgRead m n true) s = .next r ∧
        r.dev.resp = [⟨m, chAddr n 0x120, [wordOf x.regs (CH_IFLG.fields []) 0], 0⟩] ∧
        findWord m (chAddr n 0x124) r.dev.caught = some (x.get CH_ICODE_CODE % 2 ^ 32) ∧ keeps r) ∧
      (Granted s m 0 (chAddr n 0x1A0) → x.fifo = e :: rest → ∃ r, exec (.wfinfoRead m n) s = .next r ∧
        r.dev.resp = [⟨m, chAddr n 0x1A0, [e.info], 0⟩] ∧ (r.dev.chan n).fifo = rest ∧ (r.dev.chan n).get CH_WFDT_DT = e.dt % 2 ^ 64 ∧ keeps r ∧
        ∀ j, j ≠ n → r.dev.chan j = s.dev.chan j) ∧
      (Granted s m 0 (chAddr n 0x200) → ∃ r, exec (.shadowRead m n) s = .next r ∧
        r.dev.resp = [⟨m, chAddr n 0x200, [wordOf x.sh.regs (SET_MODE.fields []) 0], 0⟩] ∧
        (∀ i, i < 4 → findWord m (chAddr n (0x204 + 4 * i)) r.dev.caught = some (x.sh.regs.get (SET_SP_V i) % 2 ^ 32)) ∧ keeps r ∧ r.dev.ch = s.dev.ch)) ∧
  (∀ (s : State) (m a v : Nat), s.powered → targetOf a = some 21 → s.dev.regRefused m 1 a = true →
    ∃ r, exec (.regWrite m a v) s = .next r ∧ r.dev.resp = [⟨m, a, [], 1⟩] ∧
      r.dev.get MEM_AECNT_CNT = min (s.dev.get MEM_AECNT_CNT + 1) (2 ^ MEM_AECNT_CNT.width - 1) ∧ r.dev.on (EVT_SRC_PENDING 195) = true ∧
      (s.dev.on MEM_AEINFO_VALID = false → r.dev.on MEM_AEINFO_VALID = true ∧ r.dev.get MEM_AEINFO_KIND = 1) ∧
      r.dev.mem = s.dev.mem ∧ r.dev.ch = s.dev.ch ∧ r.dev.afe = s.dev.afe ∧ r.dev.grp = s.dev.grp ∧ (∀ k c, r.dev.thread k c = s.dev.thread k c))

/-- POWER_ON, POWER_ON_AFTER_OVERVOLTAGE, RESET_N and its release (R43, R432, R433, R473): each reset's scope; RESET_N holds the device at the first step until its release.
WATCHDOG_RESET and PCMD_RESET (R432, R433): LOCK, the DDR5 contents, DT and the Pilot domain are kept; a host reset needs KEY = 0xA5.
POWER_FAIL, POWERFAIL_LANES_OFF, PILOT_DOMAIN_START and PILOT_DOMAIN_LOSS (R41, R44, R45, R439): every channel is snuffed and safe-off forced; 2 µs later the lanes are OFF and the core's contents are lost; the Pilot registers start at their reset values. -/
def Obligations.ResetsAndPowerFail : Prop :=
  (∀ (s : State) (fell inRange : Bool),
    let d := s.dev
    let off := d.pw.phase = 0 ∧ d.pw.pilot = true ∧ d.pw.rstLow = false
    (off → d.get DEV_PWRFAIL_LAST_CAUSE ≠ 2 → (d.get DEV_PWRFAIL_LAST_CAUSE = 3 → fell = true) →
        Answers (.powerOn fell) s fun e => Rebooted 0 d e ∧ e.pw.phase = 2) ∧
      (off → d.get DEV_PWRFAIL_LAST_CAUSE = 2 → Answers .powerOnAfterOvervoltage s fun e => Rebooted 0 d e ∧ e.pw.phase = 2) ∧
      (d.pw.phase = 2 → d.pw.failAt = none → Answers (.resetN inRange) s fun e => Rebooted 1 d e ∧ e.pw.phase = 1 ∧ e.pw.rstLow = true) ∧
      (d.pw.phase = 1 → d.pw.cold = false → Answers .resetNRelease s fun e => e.pw.phase = 2 ∧ e.pw.rstLow = false ∧ e.regs = d.regs ∧ e.mem = d.mem) ∧
      (d.pw.phase = 1 → d.pw.cold = true → d.pw.pilot = true → Answers .resetNRelease s fun e => Rebooted 0 d e ∧ e.pw.phase = 2 ∧ e.pw.rstLow = false)) ∧
  (∀ (s : State) (m key : Nat),
    (s.powered → Answers .watchdogReset s fun e => Rebooted 2 s.dev e) ∧
      (Granted s m 1 (devAddr 0xC) → key = 0xA5 → Answers (.pcmdReset m key) s fun e => Rebooted 3 s.dev e ∧ e.resp = [⟨m, devAddr 0xC, [], 0⟩]) ∧
      (Granted s m 1 (devAddr 0xC) → key % 256 ≠ 0xA5 → Answers (.pcmdReset m key) s fun e => e.regs = s.dev.regs ∧ UnitsKept s.dev e ∧ e.resp = [⟨m, devAddr 0xC, [], 0⟩])) ∧
  (∀ (s : State) (high : Bool) (t : Nat),
    let d := s.dev
    (d.pw.phase ≠ 0 → d.pw.failAt = none → Answers (.powerFail high) s fun e =>
        e.pw.failAt = some d.dt ∧ e.get DEV_PWRFAIL_LAST_CAUSE = (if high then 2 else 1) ∧ bit (e.get PIL_SAFECTL_FORCE) 3 = true ∧
        e.on PIL_SAFECTL_CONDUCT = false ∧ (∀ n, n < 1024 → Snuffed (d.chan n) (e.chan n) 21 (sampledFrame d.dt)) ∧
        e.on (EVT_SRC_PENDING 427) = true ∧ e.mem = d.mem ∧ e.afe = d.afe ∧ e.grp = d.grp ∧ ∀ k c, e.thread k c = d.thread k c) ∧
      (d.pw.failAt = some t → t + 2 * usLen ≤ d.dt → Answers .powerfailLanesOff s fun e =>
        e.pw.phase = 0 ∧ e.pw.failAt = none ∧ e.lanes = 0 ∧ (∀ a, memGet a e.mem = 0) ∧ (∀ n, (e.chan n).regs = []) ∧
        (∀ k c, (e.thread k c).state = 0) ∧ bit (e.get PIL_SAFECTL_FORCE) 3 = false ∧ e.pw.offAt = some (d.get PIL_TIME_TICKS) ∧
        ∀ f : Fld, 0x80000 ≤ f.off → f.off < 0x90000 → f.off ≠ 0x80040 → f.lo < 64 → e.get f = d.get f) ∧
      (d.pw.phase = 0 → d.pw.pilot = false → Answers .pilotDomainStart s fun e =>
        e.pw.pilot = true ∧ e.pw.phase = 0 ∧ (∀ f : Fld, 0x80000 ≤ f.off → f.off < 0x90000 → f.lo < 64 → e.get f = f.rst) ∧ UnitsKept d e) ∧
      (d.pw.phase = 0 → Answers .pilotDomainLoss s fun e => e.pw.pilot = false ∧ e.pw.phase = 0 ∧ e.regs = d.regs ∧ UnitsKept d e))

/-- SUPPLY_MEASURE, JUNCTION_SAMPLE, CM_RANGE and its end (R46, R48, R168): the measured values; a junction at 115 °C snuffs every channel, and one at 125 °C starts a shutdown; a pin outside its common-mode range snuffs its channel with cause CM.
BOOT_READY (R402, R409, R441): with DT running and the role fixed, boot ends in READY and RUN with every cluster in service and LOADED; safe-off is no longer forced by boot; event 320. -/
def Obligations.SuppliesAndBoot : Prop :=
  (∀ (s : State) (mv pv n : Nat) (isI : Bool) (temps : List Int), s.powered → n < 1024 → mv < 2 ^ 16 → pv < 2 ^ 13 →
    let d := s.dev
    (Answers (.supplyMeasure mv pv) s fun e => e.get DEV_SUPPLY_VMAIN_MV = mv ∧ e.get DEV_SUPPLY_VPILOT_MV = pv ∧ e.on DEV_SUPPLY_VALID = true ∧
        RegsOnly [DEV_SUPPLY_VMAIN_MV, DEV_SUPPLY_VPILOT_MV, DEV_SUPPLY_VALID] d e) ∧
      (d.hot = false → (∃ t ∈ temps, 115 ≤ t) → Answers (.junctionSample temps) s fun e =>
        e.hot = true ∧ e.temps = temps.take 8 ∧ e.on (EVT_SRC_PENDING 377) = true ∧ e.on PIL_SAFECTL_CONDUCT = false ∧
        bit (e.get PIL_SAFECTL_FORCE) 5 = true ∧ (∀ i, i < 1024 → (e.chan i).on CH_SNFSTAT_SNUFFED = true ∧ bit ((e.chan i).get CH_SNFCAUSE_CAUSE) 12 = true) ∧
        (d.pw.failAt = none → (e.pw.failAt = some d.dt ↔ ∃ t ∈ temps, 125 ≤ t)) ∧ e.mem = d.mem) ∧
      (d.hot = true → (∀ t ∈ temps, t < 115) → Answers (.junctionSample temps) s fun e =>
        e.hot = false ∧ e.temps = temps.take 8 ∧ bit (e.get PIL_SAFECTL_FORCE) 5 = false ∧ RegsOnly [PIL_SAFECTL_FORCE] d e) ∧
      (Answers (.cmRange n isI) s fun e => (if isI then (e.chan n).cmI else (e.chan n).cmV) = true ∧
        Snuffed (d.chan n) (e.chan n) 4 (sampledFrame d.dt) ∧ e.on (EVT_SRC_PENDING (n / 8)) = true ∧ (∀ i, i ≠ n → e.chan i = d.chan i) ∧
        e.mem = d.mem ∧ ∀ k c, e.thread k c = d.thread k c) ∧
      (Answers (.cmRangeEnd n isI) s fun e => (if isI then (e.chan n).cmI else (e.chan n).cmV) = false ∧ (e.chan n).regs = (d.chan n).regs ∧
        (∀ i, i ≠ n → e.chan i = d.chan i) ∧ e.regs = d.regs ∧ e.mem = d.mem)) ∧
  (∀ (s : State) (idBad calBad : Bool) (bad : List Nat), s.powered → 1 ≤ s.dev.get SEC_BOOT_STATE → s.dev.get SEC_BOOT_STATE ≤ 6 →
    s.dev.on TB_STAT_DT_VALID = true → s.dev.roleDone = true →
    Answers (.bootReady idBad calBad bad) s fun e =>
      e.get SEC_BOOT_STATE = 7 ∧ e.get DEV_PSTATE_STATE = 1 ∧ (∀ k, k < 16 → e.clState k = 0 ∧ (e.clus k).on MCE_STAT_LOADED = true ∧ (e.clus k).base = true) ∧
      bit (e.get PIL_SAFECTL_FORCE) 0 = false ∧ e.on DEV_CTL_LANE_EN = true ∧ e.on (EVT_SRC_PENDING 320) = true ∧
      e.on SEC_STAT_IDERR = idBad ∧ e.on SEC_STAT_CALERR = calBad ∧ ((idBad || calBad) = true → e.on (EVT_SRC_PENDING 330) = true) ∧
      (s.dev.pw.told = true → e.on (EVT_SRC_PENDING 376) = true) ∧ (∀ k c, e.thread k c = s.dev.thread k c) ∧ e.dt = s.dev.dt)

/-- OVEN_SETTLED, OVENOK_LOST, WEAR_SAVE, CONTACT_COUNT_CMD and HEALTH_EVAL (R431, R443, R444, R446).
PILOT_CMP_TRIP, PILOT_CMP_RELEASE and SAFE_PERMIT (R168, R440, R441): the latch, the event, forced safe-off and snuffs; the output conducts only where no condition forces it. -/
def Obligations.WearAndSafeOff : Prop :=
  (∀ (s : State) (m duty count ch : Nat) (rst : Bool) (raws : List (Nat × Nat)), s.powered → duty < 2 ^ HLT_OVEN_DUTY.width → ch < 1024 → 0 < count → count < 2 ^ 16 →
    let d := s.dev
    let el := 3072 + ch
    (d.on HLT_STAT_OVENOK = false → Answers (.ovenSettled duty) s fun e => e.on HLT_STAT_OVENOK = true ∧ e.get HLT_OVEN_DUTY = duty ∧
        e.on (EVT_SRC_PENDING 371) = true ∧ RegsOnly [HLT_STAT_OVENOK, HLT_OVEN_DUTY] d e) ∧
      (Answers .ovenokLost s fun e => e.on HLT_STAT_OVENOK = false ∧ RegsOnly [HLT_STAT_OVENOK] d e) ∧
      (Answers .wearSave s fun e => e.sec.flash.wear.head? = some d.wear ∧ e.wear = d.wear ∧ e.regs = d.regs ∧ UnitsKept d e) ∧
      (Granted s m 1 (devAddr 0x70028) → Answers (.contactCountCmd m count ch rst) s fun e =>
        wearOf el e.wear = (if rst then 0 else wearOf el d.wear) + count ∧ (∀ i, i ≠ el → wearOf i e.wear = wearOf i d.wear) ∧
        (∀ x, x < d.wearAt el ∨ d.wearAt el + 8 ≤ x → memGet x e.mem = memGet x d.mem) ∧ e.regs = d.regs ∧ e.ch = d.ch) ∧
      (d.on HLT_CTL_EN = true → d.health.at_ + 3600 * 204800000000 ≤ d.dt → Answers (.healthEval raws) s fun e =>
        e.health.at_ = d.dt ∧ (e.health.hist.head?.map (·.1)) = some d.dt ∧ e.ch = d.ch ∧ e.wear = d.wear ∧ ∀ k c, e.thread k c = d.thread k c)) ∧
  (∀ (s : State) (m j : Nat), j < 8 →
    let d := s.dev
    (d.pw.phase = 2 → d.get DEV_PSTATE_STATE ≠ 3 → d.pw.pilot = true → d.on (PIL_CMP_EN j) = true → d.on (PIL_CMP_TRIPPED j) = false → Answers (.pilotCmpTrip j) s fun e =>
        e.on (PIL_CMP_TRIPPED j) = true ∧ e.on (PIL_CMP_LATCH j) = true ∧ e.on (EVT_SRC_PENDING (416 + j)) = true ∧
        (d.on (PIL_CMP_SAFE j) = true → bit (e.get PIL_SAFECTL_FORCE) 2 = true ∧ e.on PIL_SAFECTL_CONDUCT = false) ∧
        (j = 4 → d.on DEV_SNFSRC_SMOKE_EN = true → e.on (EVT_SRC_PENDING 450) = true ∧ ∀ n, n < 1024 → Snuffed (d.chan n) (e.chan n) 14 (sampledFrame d.dt)) ∧
        (j = 5 → d.on DEV_SNFSRC_DOOR_EN = true → e.on (EVT_SRC_PENDING 451) = true ∧ ∀ n, n < 1024 → Snuffed (d.chan n) (e.chan n) 15 (sampledFrame d.dt)) ∧
        (j ≠ 4 → j ≠ 5 → e.ch = d.ch) ∧ e.mem = d.mem ∧ ∀ k c, e.thread k c = d.thread k c) ∧
      (d.pw.pilot = true → d.on (PIL_CMP_TRIPPED j) = true → Answers (.pilotCmpRelease j) s fun e =>
        e.on (PIL_CMP_TRIPPED j) = false ∧ e.on (PIL_CMP_LATCH j) = d.on (PIL_CMP_LATCH j) ∧
        ((∀ i, i < 8 → i ≠ j → d.on (PIL_CMP_TRIPPED i) = true → d.on (PIL_CMP_SAFE i) = false) → bit (e.get PIL_SAFECTL_FORCE) 2 = false) ∧ UnitsKept d e) ∧
      (Granted s m 1 (devAddr 0x80040) → d.get PIL_SAFECTL_FORCE = 0 → Answers (.safePermit m) s fun e =>
        e.on PIL_SAFECTL_PERMIT = true ∧ e.on PIL_SAFECTL_CONDUCT = true ∧ (d.on PIL_SAFECTL_CONDUCT = false → e.on (EVT_SRC_PENDING 426) = true) ∧ UnitsKept d e) ∧
      (Granted s m 1 (devAddr 0x80040) → d.get PIL_SAFECTL_FORCE ≠ 0 → Answers (.safePermit m) s fun e =>
        e.on PIL_SAFECTL_PERMIT = d.on PIL_SAFECTL_PERMIT ∧ e.on PIL_SAFECTL_CONDUCT = d.on PIL_SAFECTL_CONDUCT ∧ UnitsKept d e))

/-- PCMD_HOLD, PCMD_RUN and refused power commands (R424 to R426): HOLD stops every thread and snuffs every channel; a command that the state does not allow only reports it.
PCMD_DOZE, DOZE_ENTRY_COMPLETE and the wake (R427 to R430): what DOZE entry stops and saves, the DT it keeps, and the holdover in which the device wakes into HOLD. -/
def Obligations.HoldRunDoze : Prop :=
  (∀ (s : State) (m key : Nat), Granted s m 1 (devAddr 0xC) →
    let d := s.dev
    let st := d.get DEV_PSTATE_STATE
    let done := fun e : Device => e.resp = [⟨m, devAddr 0xC, [], 0⟩]
    let refused := fun (code : Nat) (e : Device) =>
      e.on DEV_PSTATE_REFUSED = true ∧ e.get DEV_PSTATE_REFCODE = code ∧ RegsOnly [DEV_PSTATE_REFUSED, DEV_PSTATE_REFCODE] d e ∧ done e
    (st = 1 → Answers (.pcmdHold m) s fun e => e.get DEV_PSTATE_STATE = 2 ∧
        (∀ k c, k < 16 → c < 64 → (e.thread k c).state = 0 ∨ (e.thread k c).haltReq = some 11) ∧
        (∀ n, n < 1024 → Snuffed (d.chan n) (e.chan n) 20 (sampledFrame d.dt)) ∧ e.on (EVT_SRC_PENDING 452) = true ∧ e.mem = d.mem ∧ done e) ∧
      (st ≠ 1 → Answers (.pcmdHold m) s (refused 1)) ∧
      (st = 2 → Answers (.pcmdRun m) s fun e => e.get DEV_PSTATE_STATE = 1 ∧ RegsOnly [DEV_PSTATE_STATE] d e ∧ done e) ∧
      (st ≠ 2 → Answers (.pcmdRun m) s (refused 1) ∧ Answers (.pcmdDoze m key) s (refused 1)) ∧
      (st = 2 → d.get DEV_POS_ROLE = 2 → d.get BCN_STAT_MEMBERS ≠ 0 → Answers (.pcmdDoze m key) s (refused 2)) ∧
      (st = 2 → d.get DEV_POS_ROLE ≠ 2 → (d.sec.op ≠ 0 ∨ d.sec.setup ≠ none ∨ d.on CT_STAT_FLUSHBUSY = true) → Answers (.pcmdDoze m key) s (refused 3)) ∧
      (st = 2 → d.get DEV_POS_ROLE ≠ 2 → d.sec.op = 0 → d.sec.setup = none → d.on CT_STAT_FLUSHBUSY = false →
        d.on PIL_WAKECFG_TIMER = false → d.on PIL_WAKECFG_CMP = false → d.on PIL_WAKECFG_ETH = false → Answers (.pcmdDoze m key) s (refused 4))) ∧
  (∀ (s : State) (m key fp p i : Nat),
    let d := s.dev
    let woken := fun (b : Nat) (e : Device) => e.pw.phase = 2 ∧ e.get DEV_PSTATE_STATE = 4 ∧ bit (e.get PIL_WAKESRC_SRC) b = true ∧
      d.get PIL_DOZEDT_DT ≤ e.dt ∧ e.get TB_STAT_SRC = 3 ∧ e.on TB_STAT_LOCKED = false ∧ e.on BCN_STAT_ALIGNED = false ∧ UnitsKept d e
    (Granted s m 1 (devAddr 0xC) → d.get DEV_PSTATE_STATE = 2 → d.get DEV_POS_ROLE ≠ 2 → d.sec.op = 0 → d.sec.setup = none → d.on CT_STAT_FLUSHBUSY = false →
        d.on PIL_WAKECFG_ETH = true → Answers (.pcmdDoze m key) s fun e => e.get DEV_PSTATE_STATE = 3 ∧
          (d.on PIL_SAFECTL_DOZEOFF = true → bit (e.get PIL_SAFECTL_FORCE) 4 = true ∧ e.on PIL_SAFECTL_CONDUCT = false) ∧
          (∀ n, n < 1024 → (e.capt n).state = 0 ∧ (e.chan n).on CH_RSTAT_PEND = false ∧ ∀ j, j < 4 → (e.chan n).on (CH_ESCTL_ARMED j) = false) ∧
          e.on MOT_CTL_EN = false ∧ e.on DEV_CTL_LANE_EN = false ∧ e.sec.flash.wear.head? = some d.wear ∧ e.resp = [⟨m, devAddr 0xC, [], 0⟩]) ∧
      (s.powered → d.get DEV_PSTATE_STATE = 3 → d.lanes = 0 → d.on CT_STAT_FLUSHBUSY = false → d.pw.wake = 0 → Answers (.dozeEntryComplete fp) s fun e =>
        e.pw.phase = 3 ∧ e.get PIL_DOZEDT_DT = d.dt % 2 ^ 64 ∧ (∀ a, a < 8 → (e.chip a).on AFE_TPRSTAT_RUN = false) ∧
        (∀ x, x < 2 → d.ddrHas x = true → e.on (DDR_CHSTAT_SR x) = true ∧ (e.ddrCh x).queue = []) ∧ e.mem = d.mem ∧ e.ch = d.ch) ∧
      (d.pw.phase = 3 → (d.sess.getD i {}).open_ = true → d.get PIL_WAKECFG_ETHPORT = p → d.on PIL_WAKECFG_ETH = true → Answers (.pcmdWake p i) s (woken 2)) ∧
      (d.pw.phase = 3 → d.get PIL_WAKEAT_TICKS ≤ d.get PIL_TIME_TICKS → d.on PIL_WAKECFG_TIMER = true → Answers .wakeTimer s (woken 0)) ∧
      (d.pw.phase = 2 → d.get DEV_PSTATE_STATE = 4 → Answers .wakeComplete s fun e => e.get DEV_PSTATE_STATE = 2 ∧ e.on DEV_CTL_LANE_EN = true ∧
        (∀ a, a < 8 → (e.chip a).on AFE_TPRSTAT_RUN = true) ∧ (∀ x, x < 2 → e.on (DDR_CHSTAT_SR x) = false) ∧ bit (e.get PIL_SAFECTL_FORCE) 4 = false ∧
        e.on (EVT_SRC_PENDING 424) = true ∧ e.mem = d.mem ∧ e.ch = d.ch ∧ e.dt = d.dt))

/-- PCMD_OUT, PCMD_RELOAD, CLUSTER_LOAD_DONE, CLUSTER_REJOIN and PCMD_RETRAIN (R435 to R438): the four service states of a cluster, and a link that retrains untrusted. -/
def Obligations.ClusterService : Prop :=
  ∀ (s : State) (m k l : Nat), k < 16 → l < 4 →
    let d := s.dev
    let others := fun e : Device => e.mem = d.mem ∧ ∀ j, j < 16 → j ≠ k → e.clState j = d.clState j
    let left := fun e : Device => (∀ c, c < 64 → (e.thread k c).state = 0) ∧ (∀ n, n < 1024 → n / 64 = k → (e.chan n).on CH_SNFSTAT_SNUFFED = true) ∧
      (∀ n, n < 1024 → n / 64 ≠ k → e.chan n = d.chan n) ∧ (e.clus k).on MCE_STAT_LOADED = false ∧ e.on (EVT_SRC_PENDING 373) = true
    (Granted s m 1 (devAddr 0xC) → Answers (.pcmdOut m k) s fun e => e.clState k = 1 ∧ left e ∧ others e) ∧
      (Granted s m 1 (devAddr 0xC) → d.clState k = 0 → Answers (.pcmdReload m k) s fun e => e.clState k = 2 ∧ left e ∧ others e) ∧
      (Granted s m 1 (devAddr 0xC) → d.clState k = 1 → Answers (.pcmdReload m k) s fun e => e.clState k = 2 ∧ others e ∧ UnitsKept d e) ∧
      (s.powered → d.clState k = 2 → d.get DEV_PSTATE_STATE ≠ 0 → Answers (.clusterLoadDone k true) s fun e =>
        e.clState k = 3 ∧ (e.clus k).on MCE_STAT_LOADED = true ∧ (e.clus k).failed = 0 ∧
        (∀ c, c < 64 → (e.thread k c).state = 0 ∧ (e.thread k c).get SEQ_TSTAT_CAUSE = 14) ∧ others e) ∧
      (s.powered → d.clState k = 2 → d.get DEV_PSTATE_STATE ≠ 0 → (d.clus k).failed = 0 → Answers (.clusterLoadDone k false) s fun e =>
        e.clState k = 1 ∧ (e.clus k).failed = 1 ∧ e.on (EVT_SRC_PENDING 375) = true ∧ others e ∧ e.ch = d.ch) ∧
      (s.powered → d.clState k = 3 → (d.get DEV_POS_ROLE = 0 → d.dt % msLen = 0) → Answers (.clusterRejoin k) s fun e =>
        e.clState k = 0 ∧ e.on (EVT_SRC_PENDING 374) = true ∧ others e ∧ e.ch = d.ch ∧ ∀ j c, e.thread j c = d.thread j c) ∧
      (Granted s m 1 (devAddr 0xC) → Answers (.pcmdRetrain m l) s fun e => e.on (FEF_TTSTAT_LOCK l) = false ∧ e.on (FEF_TTSTAT_TRUSTED l) = false ∧
        e.get (FEF_TTSTAT_CLEAN l) = 0 ∧ (d.on (FEF_TTSTAT_TRUSTED l) = true → e.on (EVT_SRC_PENDING (240 + l)) = true) ∧ UnitsKept d e ∧
        RegsKept [FEF_TTSTAT_LOCK l, FEF_TTSTAT_TRUSTED l, FEF_TTSTAT_CLEAN l] d e)

/-- The timebase and its islands (R50 to R58): REF_QUALIFY, TB_LOCK, TB_FREERUN, REF_LOSS, REFERENCE_REGAINED, ISLAND_UNLOCK and ISLAND_RELOCK. -/
def Obligations.TimebaseRuns : Prop :=
  ∀ (s : State) (src i : Nat) (f100 : Bool) (ofs amp : Int), s.powered → 1 ≤ i → i ≤ 25 →
    let d := s.dev
    let ev := fun (n : Nat) (e : Device) => e.on (EVT_SRC_PENDING n) = true
    (Answers (.refQualify 1 f100 ofs amp) s fun e => e.on TB_REFIN_QUAL = true ∧ e.on TB_REFIN_PRESENT = true ∧ e.on TB_REFIN_FREQ = f100 ∧
        e.get TB_REFIN_FOFS = uns 16 ofs ∧ e.get TB_REFIN_AMP = uns 8 amp ∧
        RegsOnly [TB_REFIN_QUAL, TB_REFIN_PRESENT, TB_REFIN_FREQ, TB_REFIN_FOFS, TB_REFIN_AMP] d e) ∧
      (Answers (.refQualify 2 f100 ofs amp) s fun e => e.on BCN_STAT_CLK_LOCK = true ∧ RegsOnly [BCN_STAT_CLK_LOCK] d e ∧
        (d.get DEV_POS_ROLE = 1 → d.get TB_STAT_SRC = 3 → e.tb.pullIn = some 2)) ∧
      (d.refChoice = some src → d.tb.locked = false → Answers .tbLock s fun e => e.get TB_STAT_SRC = src ∧ e.on TB_STAT_LOCKED = true ∧
        e.on TB_STAT_DT_VALID = true ∧ e.get TB_HOLDUNC_UNC = 0 ∧ bit (e.get TB_ISLOCK_LOCK) 0 = true ∧ e.tb.locked = true ∧
        RegsOnly [TB_STAT_SRC, TB_STAT_LOCKED, TB_STAT_DT_VALID, TB_STAT_FREERUN, TB_HOLDUNC_UNC, TB_ISLOCK_LOCK] d e) ∧
      (d.tb.locked = false → d.on TB_STAT_DT_VALID = false → d.refChoice = none → Answers .tbFreerun s fun e => e.get TB_STAT_SRC = 3 ∧
        e.on TB_STAT_FREERUN = true ∧ e.on TB_STAT_DT_VALID = true ∧ ev 226 e ∧
        RegsOnly [TB_STAT_SRC, TB_STAT_FREERUN, TB_STAT_DT_VALID, TB_ISLOCK_LOCK] d e) ∧
      ((d.get TB_STAT_SRC = 1 ∨ d.get TB_STAT_SRC = 2) → Answers .refLoss s fun e => e.get TB_STAT_SRC = 3 ∧ e.on TB_STAT_REF_LOST = true ∧
        ev 224 e ∧ ev 226 e ∧ e.tb.heldFrom = some d.dt ∧ (d.get TB_STAT_SRC = 1 → e.on TB_REFIN_QUAL = false) ∧
        (d.get TB_STAT_SRC = 2 → e.on BCN_STAT_CLK_LOCK = false ∧ ev 232 e) ∧
        RegsOnly [TB_STAT_SRC, TB_STAT_REF_LOST, TB_REFIN_QUAL, TB_REFIN_PRESENT, BCN_STAT_CLK_LOCK] d e) ∧
      (d.tb.pullIn = some src → src < 4 → Answers .referenceRegained s fun e => e.get TB_STAT_SRC = src ∧ e.on TB_STAT_LOCKED = true ∧ ev 225 e ∧
        e.tb.pullIn = none ∧ e.get TB_HOLDUNC_UNC = d.get TB_HOLDUNC_UNC ∧ RegsOnly [TB_STAT_SRC, TB_STAT_LOCKED, TB_STAT_FREERUN] d e) ∧
      (bit (d.get TB_ISLOCK_LOCK) (i - 1) = true → Answers (.islandUnlock i) s fun e => bit (e.get TB_ISLOCK_LOCK) (i - 1) = false ∧ ev 229 e ∧
        (i = 1 → e.on TB_STAT_LOCKED = false ∧ ev 227 e) ∧
        (∀ n, n < 1024 → (i = 1 ∨ n / 128 + 2 = i) → Snuffed (d.chan n) (e.chan n) 11 (sampledFrame d.dt)) ∧
        (∀ n, n < 1024 → i ≠ 1 → n / 128 + 2 ≠ i → e.chan n = d.chan n) ∧ e.mem = d.mem ∧ ∀ k c, e.thread k c = d.thread k c) ∧
      (Answers (.islandRelock i) s fun e => bit (e.get TB_ISLOCK_LOCK) (i - 1) = true ∧ RegsOnly [TB_ISLOCK_LOCK, TB_STAT_LOCKED] d e)

/-- TB_DTSET and PACE_WINDOW (R26, R27, R56): an idle device takes the written DT at the next tick boundary; a busy one or a member rejects it; a pace window counts the instructions of its millisecond.
The role (R60): ROLE_DECIDE fixes it once, ROLE_REQ_WRITE requests one, ROLE_REQ_SAVE keeps the request for the next boot. -/
def Obligations.TimeSetPaceRoles : Prop :=
  (∀ (s : State) (m lo hi k : Nat), lo < 2 ^ 32 → hi < 2 ^ 32 → k < 16 →
    let d := s.dev
    let g := Granted s m 1 (devAddr 0x10014) ∧ findWord m (devAddr 0x10010) d.held = some lo
    (g → d.get DEV_POS_ROLE ≠ 1 → d.idle = true → Answers (.tbDtset m hi) s fun e => e.tb.load = some ((lo + 2 ^ 32 * hi) / 128 * 128) ∧
        e.on TB_STAT_DTSET_DONE = true ∧ e.get TB_HOLDUNC_UNC = 0 ∧ e.dt = d.dt ∧ e.resp = [⟨m, devAddr 0x10014, [], 0⟩] ∧
        (d.get DEV_POS_ROLE = 2 → e.bcn.downQ = { typ := 4, payload := 3 } :: d.bcn.downQ) ∧ UnitsKept d e) ∧
      (g → (d.get DEV_POS_ROLE = 1 ∨ d.idle = false) → Answers (.tbDtset m hi) s fun e => e.tb = d.tb ∧ e.on TB_STAT_DTSET_REJ = true ∧
        e.on (EVT_SRC_PENDING 228) = true ∧ UnitsKept d e) ∧
      (s.powered → (d.clus k).paceAt + msLen ≤ d.dt → d.clState k = 0 → Answers (.paceWindow k) s fun e => (e.clus k).issued = 0 ∧ (e.clus k).paceAt = d.dt ∧
        e.get (DEV_PACE_RATE k) = min 65535 (openDiv (d.clus k).issued 100).toNat ∧
        e.get (DEV_PACE_FLOOR k) = min (e.get (DEV_PACE_RATE k)) (d.get (DEV_PACE_FLOOR k)) ∧
        (e.get (DEV_PACE_RATE k) < d.get DEV_PACE_CTL_LIM → d.on DEV_PACE_CTL_EVT_EN = true →
          (e.clus k).on SEQ_CAUSE_PACE_LOW = true ∧ e.on (EVT_SRC_PENDING (128 + k)) = true) ∧
        RegsKept [DEV_PACE_RATE k, DEV_PACE_FLOOR k] d e ∧ e.mem = d.mem ∧ e.ch = d.ch ∧ ∀ j c, e.thread j c = d.thread j c)) ∧
  (∀ (s : State) (m v : Nat) (clk term : Bool), v < 4 →
    let d := s.dev
    let r := if d.get BCN_CTL_ROLE_REQ = 1 then 0 else if clk then 1 else if term then 2 else 0
    (s.powered → d.roleDone = false → Answers (.roleDecide clk term) s fun e => e.get DEV_POS_ROLE = r ∧ e.roleDone = true ∧
        e.on DEV_POS_VALID = decide (r ≠ 1) ∧ (r = 1 → e.on BCN_STAT_CLK_LOCK = true) ∧ (r = 2 → e.on BCN_STAT_ALIGNED = true ∧ e.bcn.enumPos = some 1) ∧
        RegsOnly [DEV_POS_ROLE, DEV_POS_VALID, BCN_STAT_CLK_LOCK, BCN_STAT_ALIGNED] d e) ∧
      (s.powered → d.roleDone = true → Answers (.roleDecide clk term) s fun e => e.get DEV_POS_ROLE = d.get DEV_POS_ROLE ∧ RegsOnly [] d e) ∧
      (Granted s m 1 (devAddr 0x20000) → d.on DEV_CTL_LOCK = false → Answers (.roleReqWrite m v) s fun e =>
        e.get BCN_CTL_ROLE_REQ = v ∧ e.get DEV_POS_ROLE = d.get DEV_POS_ROLE ∧ e.roleDirty = true ∧ e.resp = [⟨m, devAddr 0x20000, [], 0⟩] ∧ UnitsKept d e) ∧
      (Granted s m 1 (devAddr 0x20000) → d.on DEV_CTL_LOCK = true → Answers (.roleReqWrite m v) s fun e =>
        e.get BCN_CTL_ROLE_REQ = d.get BCN_CTL_ROLE_REQ ∧ e.roleDirty = d.roleDirty ∧ UnitsKept d e) ∧
      (s.powered → d.roleDirty = true → Answers .roleReqSave s fun e => e.bootRole = d.get BCN_CTL_ROLE_REQ ∧ e.roleDirty = false ∧ RegsOnly [] d e))

/-- A member of the Beacon bus (R61, R63, R65 to R71): enumeration, delay, epoch, execute-at messages, its upstream frames, and the loss of messages or of the clock. -/
def Obligations.BeaconMember : Prop :=
  ∀ (s : State) (p dest t2 dp at_ arr num origin due typ pl : Nat) (force : Bool) (rest : List (Nat × Nat)), s.served → s.dev.get DEV_POS_ROLE = 1 → dp < 2 ^ BCN_DELAY_D.width →
    let d := s.dev
    let mine := d.on DEV_POS_VALID = true ∧ d.get DEV_POS_DEVICE = dest
    let heard := fun e : Device => e.on BCN_STAT_MSG_LOCK = true ∧ e.bcn.lastFrame = d.dt
    let r : Int := (at_ : Int) + (d.get BCN_DELAY_D : Int) - arr
    let slot := (d.dt + d.get BCN_DELAY_D) % (2 * usLen)
    (Answers .beaconIdle s fun e => heard e ∧ RegsOnly [BCN_STAT_MSG_LOCK] d e) ∧
      (1 ≤ p → p ≤ 15 → d.on DEV_POS_VALID = false → Answers (.beaconEnum p) s fun e => heard e ∧ e.get DEV_POS_DEVICE = p ∧ e.on DEV_POS_VALID = true ∧
        e.bcn.reply = some (d.dt + usLen, 0x81, idLow) ∧ RegsOnly [BCN_STAT_MSG_LOCK, DEV_POS_DEVICE, DEV_POS_VALID] d e) ∧
      (mine → Answers (.beaconDreq dest t2) s fun e => heard e ∧ e.bcn.reply = some (t2 + usLen, 0x82, usLen) ∧ RegsOnly [BCN_STAT_MSG_LOCK] d e) ∧
      (mine → Answers (.beaconOffset dest dp) s fun e => heard e ∧ e.get BCN_DELAY_D = dp ∧ e.on BCN_STAT_CAL_DONE = true ∧
        RegsOnly [BCN_STAT_MSG_LOCK, BCN_DELAY_D, BCN_STAT_CAL_DONE] d e) ∧
      (d.on BCN_STAT_CAL_DONE = true → (d.on BCN_STAT_ALIGNED = false ∨ force = true) → Answers (.beaconEpoch at_ arr true force) s fun e => heard e ∧
        e.get BCN_RESID_RES = uns 32 r ∧ e.on BCN_STAT_ALIGNED = true ∧ e.tb.stepBy = some r ∧ e.get TB_HOLDUNC_UNC = 0 ∧
        RegsOnly [BCN_STAT_MSG_LOCK, BCN_RESID_RES, BCN_STAT_ALIGNED, TB_HOLDUNC_UNC] d e) ∧
      (d.on BCN_STAT_CAL_DONE = true → d.on BCN_STAT_ALIGNED = true → 64 < r.natAbs → Answers (.beaconEpoch at_ arr false force) s fun e => heard e ∧
        e.get BCN_RESID_RES = uns 32 r ∧ e.on BCN_STAT_ALIGNED = false ∧ e.on (EVT_SRC_PENDING 234) = true ∧ e.tb = d.tb ∧
        RegsOnly [BCN_STAT_MSG_LOCK, BCN_RESID_RES, BCN_STAT_ALIGNED] d e) ∧
      (d.on BCN_STAT_ALIGNED = true → d.dt ≤ at_ →
        (Answers (.beaconTrig num origin at_) s fun e => heard e ∧ e.bcn.execs = putExec ⟨0, num, origin, at_⟩ d.bcn.execs ∧ RegsOnly [BCN_STAT_MSG_LOCK] d e) ∧
        (Answers (.beaconSync num origin at_) s fun e => heard e ∧ e.bcn.execs = putExec ⟨1, num, origin, at_⟩ d.bcn.execs ∧ RegsOnly [BCN_STAT_MSG_LOCK] d e) ∧
        (Answers (.beaconEstop num origin at_) s fun e => heard e ∧ e.bcn.execs = putExec ⟨2, num, origin, at_⟩ d.bcn.execs ∧ RegsOnly [BCN_STAT_MSG_LOCK] d e)) ∧
      (d.on BCN_STAT_ALIGNED = true → at_ < d.dt →
        (Answers (.beaconTrig num origin at_) s fun e => e.on BCN_STAT_LATE = true ∧ e.on (EVT_SRC_PENDING 235) = true ∧ e.bcn.trigs = putLatest num at_ d.bcn.trigs) ∧
        (Answers (.beaconEstop num origin at_) s fun e => e.on BCN_STAT_LATE = true ∧ e.on (EVT_SRC_PENDING 235) = true ∧
          ∀ n, n < 1024 → Snuffed (d.chan n) (e.chan n) 16 (sampledFrame d.dt))) ∧
      (d.on BCN_STAT_ALIGNED = false → Answers (.beaconEstop num origin at_) s fun e => e.on (EVT_SRC_PENDING 452) = true ∧
        (∀ n, n < 1024 → Snuffed (d.chan n) (e.chan n) 16 (sampledFrame d.dt)) ∧ e.mem = d.mem) ∧
      (d.bcn.reply = some (due, typ, pl) → due ≤ d.dt → Answers (.beaconUpstreamSend 0) s fun e => e.bcn = { d.bcn with reply := none, up := upBytes typ (d.get DEV_POS_DEVICE) pl } ∧ RegsOnly [] d e) ∧
      (d.bcn.upEstop = some origin → d.on BCN_STAT_ALIGNED = true → 14 * usLen ≤ 10 * slot → 10 * slot < 14 * usLen + 1280 → Answers (.beaconUpstreamSend 1) s fun e =>
        e.bcn = { d.bcn with upEstop := none, up := upEstopBytes origin } ∧ RegsOnly [] d e) ∧
      (d.bcn.upQ = (typ, num) :: rest → d.on BCN_STAT_ALIGNED = true → 16 * usLen ≤ 10 * slot → 10 * slot < 16 * usLen + 1280 → Answers (.beaconUpstreamSend 2) s fun e =>
        e.bcn = { d.bcn with upQ := rest, up := upBytes typ (d.get DEV_POS_DEVICE) num } ∧ RegsOnly [] d e) ∧
      (d.on BCN_STAT_MSG_LOCK = true → d.bcn.lastFrame + 10 * usLen ≤ d.dt → Answers .beaconMsgLoss s fun e => e.on BCN_STAT_MSG_LOCK = false ∧ e.on (EVT_SRC_PENDING 233) = true ∧
        (d.on BCN_CTL_ESTOP_ON_LOSS = true → ∀ n, n < 1024 → Snuffed (d.chan n) (e.chan n) 17 (sampledFrame d.dt)) ∧
        (d.on BCN_CTL_ESTOP_ON_LOSS = false → e.ch = d.ch) ∧ e.mem = d.mem) ∧
      (d.on BCN_STAT_CLK_LOCK = true → d.get TB_STAT_SRC = 2 → Answers .beaconClkLoss s fun e => e.on BCN_STAT_CLK_LOCK = false ∧ e.get TB_STAT_SRC = 3 ∧
        e.on (EVT_SRC_PENDING 232) = true ∧ e.on (EVT_SRC_PENDING 224) = true ∧ e.on BCN_STAT_ALIGNED = d.on BCN_STAT_ALIGNED ∧
        RegsOnly [BCN_STAT_CLK_LOCK, TB_STAT_SRC, TB_STAT_REF_LOST] d e)

/-- The Beacon master (R61, R65 to R70, R80): what each cycle sends, enumeration, delay calibration, requests that it reissues, and its commands; a frame with a bad CRC is counted.
Execute-at messages act (R69): a TRIG becomes visible, a SYNC fires the slots that wait for it, an ESTOP snuffs every channel in the frame of its boundary. -/
def Obligations.BeaconMaster : Prop :=
  (∀ (s : State) (m p t t4 turn num origin : Nat) (f : BFrame) (rest : List BFrame) (c : BCal), s.served → s.dev.get DEV_POS_ROLE = 2 →
    let d := s.dev
    let b := d.bcn
    let only := fun (e : Device) (b' : Beacon) => e.bcn = b' ∧ RegsOnly [] d e
    let sent := fun (g : BFrame) => ({ g with seq := b.seq % 256 } : BFrame).bytes
    let cmd := Granted s m 1 (devAddr 0x2000C)
    (d.dt % (2 * usLen) = 0 → b.hush ≠ 2 → b.downQ = [] → b.enumPos = none → b.cal = none → Answers .beaconCycle s fun e =>
        only e { b with hush := 0, down := sent { typ := 0 }, seq := (b.seq + 1) % 256 }) ∧
      (d.dt % (2 * usLen) = 0 → b.hush ≠ 2 → b.downQ = f :: rest → f.typ = 4 → Answers .beaconCycle s fun e =>
        only e { b with hush := 0, downQ := rest, down := sent { f with execAt := d.dt }, seq := (b.seq + 1) % 256 }) ∧
      (d.dt % (2 * usLen) = 0 → b.hush = 0 → b.downQ = [] → b.enumPos = some p → b.offeredAt = none → Answers .beaconCycle s fun e =>
        only e { b with hush := 2, down := sent { typ := 1, dest := 0xFF, payload := p }, seq := (b.seq + 1) % 256, offeredAt := some d.dt }) ∧
      (d.dt % (2 * usLen) = 0 → b.hush = 2 → Answers .beaconCycle s fun e => only e { b with hush := 1, down := [] }) ∧
      (Answers .beaconFrameBad s fun e => e.on BCN_STAT_CRC_ERR = true ∧ e.bcn = b ∧ RegsOnly [BCN_STAT_CRC_ERR, BCN_CNT_CRCCNT] d e) ∧
      (b.enumPos = some p → b.offeredAt = some t → p < 15 → Answers .beaconEnumAck s fun e => only e { b with found := p, enumPos := some (p + 1), offeredAt := none }) ∧
      (b.enumPos = some 255 → b.offeredAt = some t → Answers .beaconEnumAck s fun e => e.on BCN_STAT_OVERFLOW = true ∧ e.on (EVT_SRC_PENDING 238) = true ∧
        e.bcn.enumPos = none ∧ UnitsKept d e) ∧
      (b.enumPos = some p → b.offeredAt = some t → t + 128 * usLen ≤ d.dt → Answers .enumTimeout s fun e => e.get BCN_STAT_MEMBERS = b.found % 256 ∧
        e.bcn.enumPos = none ∧ e.on (EVT_SRC_PENDING 237) = true ∧ (b.found ≠ 0 → e.bcn.cal = some ⟨1, 0, 0⟩) ∧ RegsOnly [BCN_STAT_MEMBERS] d e) ∧
      (b.cal = some c → c.n < 255 → Answers (.beaconDrsp t4 turn) s fun e => only e { b with cal := some { c with n := c.n + 1, sum := c.sum + ((t4 : Int) - b.t1 - turn) } }) ∧
      (b.cal = some c → c.n = 255 → 1 ≤ c.pos → c.pos ≤ 15 → c.pos < d.get BCN_STAT_MEMBERS → Answers (.beaconDrsp t4 turn) s fun e =>
        e.bcn.cal = some ⟨c.pos + 1, 0, 0⟩ ∧ RegsOnly [BCN_MDLY_D c.pos] d e) ∧
      (Answers (.beaconTrigReq num origin) s fun e => only e { b with downQ := b.downQ ++ [{ typ := 5, payload := num % 256 + 256 * origin }] }) ∧
      (Answers (.beaconSyncReq num origin) s fun e => only e { b with downQ := b.downQ ++ [{ typ := 7, payload := num % 256 + 256 * origin }] }) ∧
      (Answers (.beaconEstopUp origin) s fun e => only e { b with downQ := { typ := 6, payload := origin } :: b.downQ }) ∧
      (d.on BCN_CTL_EPOCH_EN = true → b.epochAt + max 10 (d.get BCN_EPOCHPER_MS) * msLen ≤ d.dt → Answers .epochTimer s fun e =>
        only e { b with downQ := b.downQ ++ [{ typ := 4, payload := 0 }], epochAt := d.dt }) ∧
      (cmd → Answers (.bcnEnum m) s fun e => only e { b with enumPos := some 1, found := 0, offeredAt := none, cal := none }) ∧
      (cmd → d.get BCN_STAT_MEMBERS ≠ 0 → Answers (.bcnRecal m) s fun e => only e { b with cal := some ⟨1, 0, 0⟩ }) ∧
      (cmd → Answers (.bcnSetEpoch m) s fun e => only e { b with downQ := b.downQ ++ [{ typ := 4, payload := 1 }] }) ∧
      (Granted s m 1 (devAddr 0x20020) → num < 256 → Answers (.bcnSend m false num) s fun e => only e { b with downQ := b.downQ ++ [{ typ := 5, payload := num }] }) ∧
      (Granted s m 1 (devAddr 0x20020) → num < 256 → Answers (.bcnSend m true num) s fun e => only e { b with downQ := b.downQ ++ [{ typ := 7, payload := num }] })) ∧
  (∀ (s : State) (x : BExec) (rest : List BExec), s.served → s.dev.bcn.execs = x :: rest →
    let d := s.dev
    let b := boundaryAt x.at_
    (x.kind = 0 → x.at_ ≤ d.dt → Answers .beaconTrigExec s fun e => e.bcn = { d.bcn with execs := rest, trigs := putLatest x.num x.at_ d.bcn.trigs } ∧
        (∀ n, (e.chan n).regs = (d.chan n).regs) ∧ e.regs = d.regs ∧ e.mem = d.mem ∧ ∀ k c, e.thread k c = d.thread k c) ∧
      (x.kind = 1 → b ≤ d.dt → Answers .beaconSyncExec s fun e => e.bcn = { d.bcn with execs := rest, syncs := putLatest x.num b d.bcn.syncs } ∧
        (∀ n, n < 1024 → (∀ j, j < 4 → ¬ ((d.chan n).on (CH_ESCTL_ARMED j) = true ∧ (d.chan n).get (CH_ESCTL_ACT j) = 3 ∧ (d.chan n).get (CH_ESCTL_SYNCNO j) = x.num)) →
          (e.chan n).regs = (d.chan n).regs) ∧ e.regs = d.regs ∧ e.mem = d.mem ∧ ∀ k c, e.thread k c = d.thread k c) ∧
      (x.kind = 2 → b ≤ d.dt → Answers .beaconEstopExec s fun e => e.bcn.execs = rest ∧ e.on (EVT_SRC_PENDING 452) = true ∧
        (∀ n, n < 1024 → Snuffed (d.chan n) (e.chan n) 16 b) ∧ e.mem = d.mem ∧ ∀ k c, e.thread k c = d.thread k c))

/-- Fefitil links and PTP (R73, R74, R76, R396, R397): timing exchanges and trust, wall time, relayed events, acknowledgement and retransmission. -/
def Obligations.Fefitil : Prop :=
  ∀ (s : State) (l t1 t2 t3 t4 tai unc kind num hops origin oseq at_ ack : Nat) (f : FFrame) (u up : Bool), s.powered → l < 4 → unc < 2 ^ TB_WALLUNC_NS.width →
    let d := s.dev
    let x := d.flink l
    let due := fun g : FFrame => g.sent + 10 * usLen ≤ d.dt
    let rtt := ((t4 : Int) - t1) - ((t3 : Int) - t2)
    let evrel := Answers (.fefEvrel l kind num hops origin oseq at_) s
    (d.on (FEF_TTSTAT_LOCK l) = true → Answers (.fefTimingSend l) s fun e => (e.flink l).t1 = d.dt ∧ RegsOnly [] d e) ∧
      (d.on (FEF_TTSTAT_LOCK l) = true → Answers (.fefTimingFrame l t1 t2 t3 t4 false u) s fun e => e.get (FEF_TTSTAT_CLEAN l) = 0 ∧
        (x.unclean < 3 → e.on (FEF_TTSTAT_TRUSTED l) = d.on (FEF_TTSTAT_TRUSTED l)) ∧ (3 ≤ x.unclean → e.on (FEF_TTSTAT_TRUSTED l) = false) ∧
        RegsOnly [FEF_TTSTAT_CLEAN l, FEF_TTSTAT_TRUSTED l] d e) ∧
      (d.on (FEF_TTSTAT_LOCK l) = true → x.hist = [] → Answers (.fefTimingFrame l t1 t2 t3 t4 true false) s fun e =>
        e.get (FEF_TTDLY_DLY l) = uns 32 (openDiv rtt 2) ∧
        e.get (FEF_TTOFS_OFS l) = uns 32 (openDiv (((t2 : Int) - t1) - ((t4 : Int) - t3) - sgn 32 (d.get (FEF_TTASYM_ASYM l))) 2) ∧
        e.get (FEF_TTSTAT_CLEAN l) = min (d.get (FEF_TTSTAT_CLEAN l) + 1) 65535 ∧ UnitsKept d e) ∧
      (Answers (.ptpEventMessage tai unc up) s fun e => e.get TB_WALL_NS = uns 64 ((tai : Int) - openDiv ((d.dt / 128 : Nat) * 5) 8) ∧ e.get TB_WALLUNC_NS = unc ∧
        (up = true → e.on (EVT_SRC_PENDING 248) = true) ∧ RegsOnly [TB_WALL_NS, TB_WALLUNC_NS] d e) ∧
      (Answers (.fefLinkChange l up) s fun e => e.on (FEF_TTSTAT_LOCK l) = up ∧ e.get (FEF_TTSTAT_CLEAN l) = 0 ∧ e.on (FEF_TTSTAT_TRUSTED l) = false ∧
        (d.on (FEF_TTSTAT_TRUSTED l) = true → e.on (EVT_SRC_PENDING (240 + l)) = true) ∧
        RegsOnly [FEF_TTSTAT_LOCK l, FEF_TTSTAT_CLEAN l, FEF_TTSTAT_TRUSTED l] d e) ∧
      (d.on (FEF_EVCTL_RX l) = true → d.evSeen.contains (origin, oseq) = false → 5 ≤ hops →
        (d.get DEV_POS_ROLE = 2 → alignUp (d.dt + 1) (2 * usLen) + 2 * usLen ≤ at_ → evrel fun e => e.evSeen = (origin, oseq) :: d.evSeen.take 63 ∧ e.fef = d.fef ∧
          e.bcn = { d.bcn with downQ := d.bcn.downQ ++ [{ typ := 5 + 2 * kind, payload := num, execAt := at_, relayed := true }] } ∧
          RegsOnly [FEF_EVCNT_RELAYED l] d e) ∧
        (d.get DEV_POS_ROLE = 0 → d.dt + 2 * usLen ≤ at_ → evrel fun e => e.evSeen = (origin, oseq) :: d.evSeen.take 63 ∧ e.fef = d.fef ∧
          e.bcn = { d.bcn with execs := putExec ⟨kind, num, 0, at_⟩ d.bcn.execs } ∧ RegsOnly [FEF_EVCNT_RELAYED l] d e)) ∧
      (Answers (.fefAck l ack) s fun e => (e.flink l).tx.map (·.seq) = (x.tx.filter fun g => decide ((ack + 65536 - g.seq) % 65536 ≥ 32768)).map (·.seq) ∧ RegsOnly [] d e) ∧
      (Answers (.fefFrameBad l) s fun e => e.get (FEF_MSGCNT_CRCERR l) = min (d.get (FEF_MSGCNT_CRCERR l) + 1) (2 ^ (FEF_MSGCNT_CRCERR l).width - 1) ∧ e.fef = d.fef ∧
        RegsOnly [FEF_MSGCNT_CRCERR l] d e) ∧
      ((∀ g ∈ x.tx.take 32, ¬ (due g ∧ 8 ≤ g.tries)) → Answers (.fefRetransmit l) s fun e => (e.flink l).tx.length = x.tx.length ∧
        (∀ i, i < 32 → x.tx[i]? = some f → due f → (e.flink l).tx[i]? = some { f with sent := d.dt, tries := f.tries + 1 }) ∧ RegsOnly [] d e) ∧
      (f ∈ x.tx.take 32 → due f → 8 ≤ f.tries → Answers (.fefRetransmit l) s fun e => e.on (EVT_SRC_PENDING 350) = true ∧ e.on (FEF_TTSTAT_LOCK l) = false ∧
        e.on (FEF_TTSTAT_TRUSTED l) = false ∧ UnitsKept d e)

/-- The Taper of a chiplet (R82 to R87): the start and end of its half-ramps with the tap check, a new grid, TPR_EN with its refusal, and the stop. -/
def Obligations.Taper : Prop :=
  ∀ (s : State) (a m v : Nat) (stamps : List Nat) (locked : Bool), s.powered → a < 8 → v < 2 ^ 32 →
    let d := s.dev
    let x := d.chip a
    let start := x.get AFE_TPRSTART_DT
    let end_ := start + x.half * frameLen
    let rest := fun e : Device => (∀ b, b ≠ a → e.chip b = d.chip b) ∧ (∀ k c, e.thread k c = d.thread k c) ∧ (∀ g, e.group g = d.group g) ∧ RegsKept [] d e
    let only := fun e : Device => rest e ∧ e.mem = d.mem ∧ e.ch = d.ch
    let frame := d.dt % frameLen = 0
    let runs := x.on AFE_TPRSTAT_RUN = true
    let ends := x.ramping = true ∧ end_ ≤ d.dt ∧ x.lastEnd ≠ end_
    let counted := fun e : Device => (e.chip a).get AFE_TPRSTAT_HRCNT = (x.get AFE_TPRSTAT_HRCNT + 1) % 2 ^ 16 ∧ (e.chip a).lastEnd = end_ ∧
      (e.chip a).lastStart = start ∧ rest e ∧ e.mem = d.mem
    (frame → runs → bit (d.get TB_ISLOCK_LOCK) (1 + a) = true → x.grid.gridPos (d.dt / frameLen) = 0 → x.stopping = false → x.ramping = false → x.committing = false →
        Answers (.halfRampStart a) s fun e => (e.chip a).ramping = true ∧ (e.chip a).on AFE_TPRSTAT_DIR = false ∧ (e.chip a).on AFE_TPRSTAT_RETIME = false ∧
          (e.chip a).get AFE_TPRSTART_DT = d.dt % 2 ^ 64 ∧ (e.chip a).half = halfOf (x.get AFE_TPRHALF_HALF) ∧ (e.chip a).phase = x.get AFE_TPRPHASE_PHASE ∧ only e) ∧
      (frame → runs → bit (d.get TB_ISLOCK_LOCK) (1 + a) = true → x.gridPos (d.dt / frameLen) = x.half → 0 < x.half → x.ramping = true → x.committing = false →
        Answers (.halfRampStart a) s fun e => (e.chip a).ramping = true ∧ (e.chip a).on AFE_TPRSTAT_DIR = true ∧ (e.chip a).get AFE_TPRSTART_DT = d.dt % 2 ^ 64 ∧
          (e.chip a).half = x.half ∧ only e) ∧
      (ends → x.tapCheck stamps (x.on AFE_TPRSTAT_DIR) = true → Answers (.halfRampEnd a stamps []) s fun e => counted e ∧ (e.chip a).taperr = false ∧
        (e.chip a).on AFE_TPRSTAT_TAPFAIL4 = false ∧ (∀ n, (e.chan n).regs = (d.chan n).regs)) ∧
      (ends → x.tapCheck stamps (x.on AFE_TPRSTAT_DIR) = false → Answers (.halfRampEnd a stamps []) s fun e => counted e ∧ (e.chip a).taperr = true ∧
        (e.chip a).on AFE_TPRSTAT_TAPERR = true ∧ e.on (EVT_SRC_PENDING (352 + a)) = true ∧ (∀ n, n < 1024 → n / 128 ≠ a → (e.chan n).regs = (d.chan n).regs) ∧
        (x.badHalves = 3 → (e.chip a).on AFE_TPRSTAT_TAPFAIL4 = true ∧ ∀ n, n < 1024 → n / 128 = a → Snuffed (d.chan n) (e.chan n) 10 (sampledFrame d.dt)) ∧
        (x.badHalves ≠ 3 → ∀ n, (e.chan n).regs = (d.chan n).regs)) ∧
      (Granted s m 1 (afeAddr a 4) → Answers (.taperGridWrite m a false v) s fun e => (e.chip a).get AFE_TPRHALF_HALF = v % 2 ^ 18 ∧ (e.chip a).staged = true ∧
        (e.chip a).half = x.half ∧ e.resp = [⟨m, afeAddr a 4, [], 0⟩] ∧ only e) ∧
      (Granted s m 1 (afeAddr a 8) → Answers (.taperGridWrite m a true v) s fun e => (e.chip a).get AFE_TPRPHASE_PHASE = v % 2 ^ 18 ∧ (e.chip a).staged = true ∧
        (e.chip a).phase = x.phase ∧ e.resp = [⟨m, afeAddr a 8, [], 0⟩] ∧ only e) ∧
      (frame → runs → x.staged = true → x.ramping = true → x.on AFE_TPRSTAT_DIR = true → x.on AFE_TPRSTAT_RETIME = false → end_ ≤ d.dt → Answers (.taperRetime a) s fun e =>
        (e.chip a).on AFE_TPRSTAT_RETIME = true ∧ (e.chip a).ramping = false ∧ (e.chip a).staged = false ∧ (e.chip a).half = halfOf (x.get AFE_TPRHALF_HALF) ∧
        (e.chip a).phase = x.get AFE_TPRPHASE_PHASE ∧ (∀ b, b ≠ a → e.chip b = d.chip b) ∧ ∀ k c, e.thread k c = d.thread k c) ∧
      (Granted s m 1 (afeAddr a 0) → Answers (.taperEnSet m a) s fun e => (e.chip a).on AFE_CTL_TPR_EN = true ∧ (e.chip a).on AFE_TPRSTAT_RUN = true ∧
        (e.chip a).stopping = false ∧ only e) ∧
      (Granted s m 1 (afeAddr a 0) → x.on AFE_CTL_TPR_EN = true → (∀ n, n < 1024 → n / 128 = a → (d.chan n).on CH_SNFSTAT_EN = false) → Answers (.taperEnClear m a) s fun e =>
        (e.chip a).on AFE_CTL_TPR_EN = false ∧ (e.chip a).stopping = true ∧ (e.chip a).on AFE_TPRSTAT_RUN = x.on AFE_TPRSTAT_RUN ∧ only e) ∧
      (Granted s m 1 (afeAddr a 0) → x.on AFE_CTL_TPR_EN = true → (d.chan (128 * a)).on CH_SNFSTAT_EN = true → Answers (.taperEnClear m a) s fun e =>
        (e.chip a).on AFE_TPRSTAT_ENREJ = true ∧ (e.chip a).on AFE_CTL_TPR_EN = true ∧ (e.chip a).stopping = x.stopping ∧ only e) ∧
      (frame → x.stopping = true → (x.ramping = false ∨ end_ ≤ d.dt) → Answers (.taperStop a) s fun e => (e.chip a).on AFE_TPRSTAT_RUN = false ∧
        (e.chip a).ramping = false ∧ (e.chip a).stopping = false ∧ (∀ b, b ≠ a → e.chip b = d.chip b) ∧ ∀ k c, e.thread k c = d.thread k c) ∧
      (Answers (.tdcLockChange a locked) s fun e => (e.chip a).tdcBad = !locked ∧ (e.chip a).regs = x.regs ∧ only e)

/-- Calibration (R97, R98, R100, R104, R124): rounds, coefficients with their limits, traceable measurements and their candidates, commit, discard and expiry; deskew. -/
def Obligations.Calibration : Prop :=
  ∀ (s : State) (a m n tap sq : Nat) (ar af b ar2 af2 b2 delta sum : Int) (q : List (Nat × Bool)) (isI : Bool), s.powered → a < 8 → tap ≤ 8 → n < 1024 →
    let d := s.dev
    let x := d.chip a
    let go := Granted s m 1 (afeAddr a 0x64)
    let idle := ∀ b, b < 8 → (d.chip b).trace = none
    let fresh := x.trace = none ∧ x.roundQ = []
    let rest := fun e : Device => (∀ b, b ≠ a → e.chip b = d.chip b) ∧ (∀ k c, e.thread k c = d.thread k c) ∧ RegsKept [] d e
    let plain := fun e : Device => rest e ∧ e.mem = d.mem ∧ e.ch = d.ch
    let traces := fun (p : Nat) (e : Device) => (e.chip a).trace = some (p, x.get AFE_TPRSTAT_HRCNT) ∧ (e.chip a).on AFE_CALSTAT_BUSY = true ∧
      (e.chip a).get AFE_CALSTAT_RESULT = 0 ∧ plain e
    let dly := roundDiv ((ar - af) * (x.half * frameLen : Nat)) (2 * 416000000 * (2 ^ 32 : Nat))
    let ofs := openDiv (ar + af) (2 ^ 33 : Nat)
    let gain := (openDiv ((2 ^ 62 : Nat) * sgn 32 (x.get AFE_CALB_V)) (b - ofs * (2 ^ 32 : Nat))).toNat
    let skew := roundDiv sum 32
    let t20 := d.dt + 20 * usLen
    (x.roundAt + x.interval * 60 * 204800000000 ≤ d.dt → x.on AFE_TPRSTAT_RUN = true → fresh → Answers (.calRound a) s fun e =>
        (e.chip a).roundQ = d.roundList a false ∧ (e.chip a).roundAt = d.dt ∧ rest e) ∧
      (go → fresh → Answers (.calOpRound m a 0) s fun e => (e.chip a).roundQ = d.roundList a true ∧ (e.chip a).roundAt = d.dt ∧ rest e) ∧
      (go → idle → Answers (.calOpTraceTap m a tap 0) s (traces tap) ∧ Answers (.calOpTraceIcalH m a 0) s (traces 9) ∧ Answers (.calOpTraceIcalL m a 0) s (traces 10)) ∧
      (go → x.trace ≠ none → Answers (.calOpTraceTap m a tap 0) s fun e => (e.chip a).get AFE_CALSTAT_RESULT = 1 ∧ (e.chip a).trace = x.trace ∧ plain e) ∧
      (go → Answers (.calOpCommit m a 0) s fun e => (e.chip a).committing = true ∧ (e.chip a).cands = x.cands ∧ plain e) ∧
      (go → Answers (.calOpDiscard m a 0) s fun e => (e.chip a).cands = [] ∧ (e.chip a).candAt = none ∧ plain e) ∧
      (x.trace = some (tap, x.get AFE_TPRSTAT_HRCNT + 1) → x.get AFE_TPRSTAT_HRCNT < 65535 →
        (Answers (.traceDone a delta true sq) s fun e => (e.chip a).get AFE_CALSTAT_RESULT = 2 ∧ (e.chip a).trace = none ∧ (e.chip a).on AFE_CALSTAT_BUSY = false ∧
          (e.chip a).cands = x.cands ∧ e.on (EVT_SRC_PENDING (360 + a)) = true ∧ plain e) ∧
        (spreadOver delta sq = true → Answers (.traceDone a delta false sq) s fun e => (e.chip a).get AFE_CALSTAT_RESULT = 3 ∧ (e.chip a).trace = none ∧ (e.chip a).cands = x.cands ∧ plain e) ∧
        (spreadOver delta sq = false → Answers (.traceDone a delta false sq) s fun e => (e.chip a).get AFE_CALSTAT_RESULT = 0 ∧ (e.chip a).trace = none ∧ (e.chip a).candAt = some d.dt ∧
          (∃ w, (e.chip a).cands = ⟨tap, w, sgn 32 (x.get AFE_CALX_VAL), delta, x.pointNow tap⟩ :: x.cands.filter (fun c => decide (c.point ≠ tap)) ∧
            (e.chip a).get AFE_CALRES_RES = uns 32 (w - pointNominal tap)) ∧ plain e)) ∧
      (∀ t, x.candAt = some t → t + 86400 * 204800000000 ≤ d.dt → Answers (.calCandidateExpire a) s fun e => (e.chip a).cands = [] ∧ (e.chip a).candAt = none ∧ plain e) ∧
      (x.roundQ = (n, false) :: q → n / 128 = a → x.onBus = true → x.boundary d.dt = true → coefOk dly ofs gain = true → (∀ i, (n, i) ∉ q) →
        Answers (.calCoefLoad a ar af b ar2 af2 b2) s fun e => (e.chip a).roundQ = q ∧ (e.chan n).get CH_VDLY_DLY = uns 32 dly ∧
          (e.chan n).get CH_VOFS_OFS = uns 32 ofs ∧ (e.chan n).get CH_VGAIN_GAIN = gain ∧ (e.chan n).ageV = some d.dt ∧ (e.chan n).calV = false ∧
          t20 ≤ (e.chan n).blankV ∧ rest e) ∧
      (x.roundQ = (n, false) :: q → n / 128 = a → x.onBus = true → x.boundary d.dt = true → coefOk dly ofs gain = false → (∀ i, (n, i) ∉ q) →
        Answers (.calCoefLoad a ar af b ar2 af2 b2) s fun e => (e.chip a).roundQ = q ∧ (e.chan n).get CH_VOFS_OFS = (d.chan n).get CH_VOFS_OFS ∧
          (e.chan n).get CH_VDLY_DLY = (d.chan n).get CH_VDLY_DLY ∧ (e.chan n).get CH_VGAIN_GAIN = (d.chan n).get CH_VGAIN_GAIN ∧ e.on (EVT_SRC_PENDING (360 + a)) = true ∧ rest e) ∧
      (Granted s m 1 (afeAddr a 0x80) → Answers (.afeSkcmdGo m a 0) s fun e => (e.chip a).on AFE_SKSTAT_BUSY = true ∧ (e.chip a).on AFE_SKSTAT_ERR = false ∧
        (∀ i, i < 1024 → i / 128 = a → (d.chan i).on CH_SNFSTAT_EN = false → (e.chan i).calV = true ∧ (e.chan i).calI = true) ∧ rest e) ∧
      (n / 128 = a → (if isI then (d.chan n).calI else (d.chan n).calV) = true → x.on AFE_SKSTAT_BUSY = true → 0 ≤ skew → skew ≤ 204800 → Answers (.deskewLoad n isI sum) s fun e =>
        (e.chan n).get (if isI then CH_ISKEW_SKEW else CH_VSKEW_SKEW) = skew.toNat ∧ (if isI then (e.chan n).calI else (e.chan n).calV) = false ∧
        (∀ i, i ≠ n → e.chan i = d.chan i) ∧ rest e ∧ e.mem = d.mem)

/-- CONVERSION, WINDOW_TRANSITION and WINDOW_MASK_END (R88 to R92, R105, R109 to R115): the result registers of the input; a comparator's new state, its entry in the event FIFO and its snuff.
Interval units (R119 to R123): arming clears the results, disarming ends without one, DONE gives stop − start, TIMEOUT none. -/
def Obligations.WindowsAndIntervals : Prop :=
  (∀ (s : State) (n k stamp t : Nat) (isI falling merged into unc held now before : Bool) (stamps : List Nat), s.powered → n < 1024 → k < 4 →
    let d := s.dev
    let x := d.chip (n / 128)
    let c := d.chan n
    let done := x.lastStart ≤ stamp ∧ stamp < x.lastEnd
    let volts := (List.range stamps.length).map fun j => sgn 32 (x.get (AFE_TAPV_V (if falling then 8 - j else j)))
    let v := c.convert isI falling (x.taperr && decide done) x.tdcBad merged stamp stamps volts x.lastEnd
    let others := fun e : Device => (∀ i, i ≠ n → e.chan i = d.chan i) ∧ e.mem = d.mem ∧ ∀ a, e.chip a = d.chip a
    let moved := tdcShared held (if 2 ≤ k then c.tdcI else c.tdcV) t
    let entry : WEntry := ⟨k, into, moved.2.1, unc, false, into && c.cmpSnf k, ((moved.1 : Int) - sgn 32 (c.get (if 2 ≤ k then CH_ISKEW_SKEW else CH_VSKEW_SKEW))).toNat⟩
    (2 ≤ stamps.length → (x.held = false ∨ done) → Answers (.conversion n isI falling merged stamp stamps) s fun e =>
        (e.chan n).get (if isI then CH_ICODE_CODE else CH_VCODE_CODE) = uns 32 v.code ∧ (e.chan n).get (if isI then CH_IDT_DT else CH_VDT_DT) = v.dt % 2 ^ 64 ∧
        (e.chan n).get (if isI then CH_IFLG_SEQ else CH_VFLG_SEQ) = (c.get (if isI then CH_IFLG_SEQ else CH_VFLG_SEQ) + 1) % 2 ^ 8 ∧
        (e.chan n).get (if isI then CH_IFLG_FLAGS else CH_VFLG_FLAGS) = v.flags % 2 ^ (if isI then 12 else 11) ∧
        (v.valid = true → if isI then (e.chan n).gic = c.gic ++ [v.code] else (e.chan n).gv = c.gv ++ [v.code]) ∧ others e) ∧
      (c.cmpEn k = true → c.masked k = false → c.tripped k = !into → edgeSelects (c.cmpEdge k) into = true → c.fifo.length < 16 →
        Answers (.windowTransition n k into unc held t) s fun e => (e.chan n).tripped k = into ∧ (e.chan n).fifo = c.fifo ++ [entry] ∧
          (into = true → c.cmpSnf k = true → (e.chan n).on CH_SNFSTAT_SNUFFED = true ∧ bit ((e.chan n).get CH_SNFCAUSE_CAUSE) k = true ∧ e.on (EVT_SRC_PENDING (n / 8)) = true) ∧
          ((into && c.cmpSnf k) = false → (e.chan n).get CH_SNFCAUSE_CAUSE = c.get CH_SNFCAUSE_CAUSE) ∧ others e) ∧
      ((c.cmpEn k = false ∨ c.masked k = true ∨ c.tripped k = into) → Answers (.windowTransition n k into unc held t) s fun e => e.chan n = c ∧ others e ∧ e.regs = d.regs) ∧
      (c.masks.getD k none = some ⟨some t, before⟩ → t ≤ d.dt → c.cmpEn k = true → now = before → c.cmpSnf k = false → Answers (.windowMaskEnd n k now) s fun e =>
        (e.chan n).masks.getD k none = none ∧ (e.chan n).tripped k = now ∧ (e.chan n).fifo = c.fifo ∧ others e) ∧
      (c.masks.getD k none = some ⟨some t, false⟩ → t ≤ d.dt → c.cmpEn k = true → c.cmpSnf k = true → c.fifo.length < 16 → Answers (.windowMaskEnd n k true) s fun e =>
        (e.chan n).masks.getD k none = none ∧ (e.chan n).tripped k = true ∧ (e.chan n).fifo = c.fifo ++ [⟨k, true, false, false, true, true, t⟩] ∧
        (e.chan n).on CH_SNFSTAT_SNUFFED = true ∧ bit ((e.chan n).get CH_SNFCAUSE_CAUSE) k = true ∧ others e)) ∧
  (∀ (s : State) (m k u : Nat) (a b : Stamp), k < 16 → u < 8 →
    let d := s.dev
    let x := d.sti k u
    let adr := stiAddr k u 0x10
    let kept := fun e : Device => e.mem = d.mem ∧ e.ch = d.ch ∧ (∀ j i, (j, i) ≠ (k, u) → e.sti j i = d.sti j i) ∧ (∀ j c, e.thread j c = d.thread j c) ∧ RegsKept [] d e
    let res : Int := (b.dt : Int) - a.dt
    let told := fun e : Device => x.on STI_CTL_EVT = true → (e.clus k).on SEQ_CAUSE_STI = true ∧ e.on (EVT_SRC_PENDING (128 + k)) = true
    (Granted s m 1 adr → 1 ≤ x.mode → x.mode ≤ 4 → selClass (x.get STI_START_SEL) < 2 → selClass (x.get STI_STOP_SEL) < 2 → Answers (.stiArm m k u) s fun e =>
        (e.sti k u).armed = some d.dt ∧ (e.sti k u).get STI_TARM_DT = d.dt % 2 ^ 64 ∧ (e.sti k u).on STI_STAT_ARMED = true ∧ (e.sti k u).on STI_STAT_DONE = false ∧
        (e.sti k u).get STI_RES_VAL = 0 ∧ (e.sti k u).starts = [] ∧ (e.sti k u).stops = [] ∧ kept e ∧ e.resp = [⟨m, adr, [], 0⟩]) ∧
      (Granted s m 1 adr → 2 ≤ selClass (x.get STI_START_SEL) → Answers (.stiArm m k u) s fun e => (e.sti k u).on STI_STAT_ERR = true ∧
        (e.sti k u).armed = none ∧ kept e) ∧
      (Granted s m 1 adr → Answers (.stiDisarm m k u) s fun e => (e.sti k u).armed = none ∧ (e.sti k u).on STI_STAT_ARMED = false ∧
        (e.sti k u).get STI_RES_VAL = x.get STI_RES_VAL ∧ (e.sti k u).on STI_STAT_DONE = x.on STI_STAT_DONE ∧ kept e) ∧
      (s.powered → x.armed ≠ none → x.mode ≤ 2 → x.pair = some (a, b) → a.dt + usLen ≤ d.dt → b.dt + usLen ≤ d.dt → Answers (.stiDone k u) s fun e =>
        (e.sti k u).get STI_RES_VAL = uns 64 res ∧ (e.sti k u).get STI_TSTART_DT = a.dt % 2 ^ 64 ∧ (e.sti k u).get STI_TSTOP_DT = b.dt % 2 ^ 64 ∧
        (e.sti k u).on STI_STAT_DONE = true ∧ (e.sti k u).on STI_STAT_ARMED = false ∧ (e.sti k u).on STI_STAT_ORDER = decide (x.mode = 1 ∧ res < 0) ∧
        (e.sti k u).on STI_STAT_SUB_RES = decide (res.natAbs < a.q + b.q) ∧ (e.sti k u).armed = none ∧ told e ∧ kept e) ∧
      (s.powered → x.armed = some a.dt → x.mode ≤ 2 → x.pair = none → x.get STI_TMO_VAL ≠ 0 → a.dt + x.get STI_TMO_VAL * 128 + usLen ≤ d.dt → Answers (.stiTimeout k u) s fun e =>
        (e.sti k u).on STI_STAT_TIMEOUT = true ∧ (e.sti k u).on STI_STAT_ARMED = false ∧ (e.sti k u).get STI_RES_VAL = x.get STI_RES_VAL ∧
        (e.sti k u).armed = none ∧ told e ∧ kept e))

/-- Edges of the motion lines (R310, R311, R317, R330): quadrature counts with their filter and error, the index, the gauge line, contact proofs and the coast input; and the velocity.
Commands of the motion engine (R313, R315, R330, R331, R339): entries that the host adds with their status, coast, resume, and the clearing of the schedule. -/
def Obligations.MotionInputs : Prop :=
  (∀ (s : State) (a b high : Bool) (t held k n : Nat) (w : MWindow), s.powered → k < 4 → n < 1024 →
    let d := s.dev
    let ca := bit d.mot.ab 0 != a
    let cb := bit d.mot.ab 1 != b
    let fwd := (if ca then a != b else a == b) != d.on MOT_CTL_DIR
    let at_ := fun l => (tdcStamp (d.mot.tdc.getD l none) t).1
    let kept := fun (fs : List Fld) (e : Device) => RegsKept fs d e ∧ e.mem = d.mem ∧ (∀ j c, e.thread j c = d.thread j c) ∧ ∀ g, e.group g = d.group g
    let coasts := fun (src at_ : Nat) (e : Device) => e.on MOT_STAT_COAST = true ∧ e.get MOT_STAT_COASTSRC = 2 ^ src ∧ e.get MOT_COASTDT_DT = at_ % 2 ^ 64 ∧
      e.on (EVT_SRC_PENDING 257) = true
    (ca != cb → d.on MOT_CTL_EN = true → d.get MOT_CTL_FILT * 1024 ≤ held → Answers (.motCount a b t held) s fun e =>
        e.get MOT_POS_POS = uns 64 (sgn 48 (uns 48 (if fwd then d.motPos + 1 else d.motPos - 1))) ∧
        e.get MOT_POSDT_DT = at_ (if ca then 0 else 1) % 2 ^ 64 ∧ e.mot.ab = b2n a + 2 * b2n b ∧ kept [MOT_POS_POS, MOT_POSDT_DT] e ∧ e.ch = d.ch) ∧
      (d.mot.ab < 4 → ca = true → cb = true → d.on MOT_CTL_EN = true → d.get MOT_CTL_FILT * 1024 ≤ held → d.on MOT_STAT_COAST = false → Answers (.motCount a b t held) s fun e =>
        e.on MOT_STAT_QERR = true ∧ e.on (EVT_SRC_PENDING 256) = true ∧ coasts 4 (at_ 0) e ∧ e.get MOT_POS_POS = d.get MOT_POS_POS ∧
        kept [MOT_STAT_QERR, MOT_STAT_COAST, MOT_STAT_COASTSRC, MOT_COASTDT_DT] e) ∧
      (held < d.get MOT_CTL_FILT * 1024 → Answers (.motCount a b t held) s fun e => e.mot.ab = d.mot.ab ∧ kept [] e ∧ e.ch = d.ch) ∧
      (a ≠ d.on MOT_CTL_ZPOL → Answers (.motZEdge a t) s fun e => e.get MOT_ZPOS_POS = d.get MOT_POS_POS % 2 ^ 64 ∧ e.get MOT_ZDT_DT = at_ 2 % 2 ^ 64 ∧
        (d.on MOT_CTL_ZRESET = true → d.mot.sched = [] → e.get MOT_POS_POS = 0) ∧ (d.on MOT_CTL_ZRESET = false → e.get MOT_POS_POS = d.get MOT_POS_POS) ∧
        kept [MOT_ZPOS_POS, MOT_ZDT_DT, MOT_POS_POS] e ∧ e.ch = d.ch) ∧
      (a = d.on MOT_CTL_ZPOL → Answers (.motZEdge a t) s fun e => kept [] e ∧ e.ch = d.ch) ∧
      (Answers (.motXgEdge a t) s fun e => e.on MOT_STAT_XG = a ∧ kept [MOT_STAT_XG] e ∧ e.ch = d.ch) ∧
      (Answers (.motCpEdge k true t) s fun e => bit (e.get MOT_STAT_CP) k = true ∧ kept [MOT_STAT_CP] e ∧ e.ch = d.ch) ∧
      (Answers (.motCpEdge k false t) s fun e => bit (e.get MOT_STAT_CP) k = false ∧ kept [MOT_STAT_CP] e ∧
        ((d.chan n).on CH_MWSTAT_OPEN = true → (d.chan n).get CH_MWOPEN_DT ≤ t → w ∈ (d.chan n).wins → w.opened = true → w.guard = true → w.cp = some k →
          (e.chan n).on CH_MWSTAT_CPLOSS = true ∧ ((d.chan n).on CH_SNFSTAT_EN = true → (e.chan n).on CH_SNFSTAT_SNUFFED = true ∧
            bit ((e.chan n).get CH_SNFCAUSE_CAUSE) 19 = true)) ∧
        ((d.chan n).on CH_MWSTAT_OPEN = false → e.chan n = d.chan n)) ∧
      (high ≠ d.on MOT_CTL_COASTPOL → d.on MOT_CTL_COASTEN = true → d.on MOT_STAT_COAST = false → Answers (.motCoastEdge high t) s fun e =>
        e.on MOT_STAT_COASTIN = true ∧ coasts 0 (t / 1024 * 1024) e ∧ kept [MOT_STAT_COASTIN, MOT_STAT_COAST, MOT_STAT_COASTSRC, MOT_COASTDT_DT] e) ∧
      (high = d.on MOT_CTL_COASTPOL → Answers (.motCoastEdge high t) s fun e => e.on MOT_STAT_COASTIN = false ∧ kept [MOT_STAT_COASTIN] e ∧ e.ch = d.ch) ∧
      (d.mot.velAt + 100 * usLen ≤ d.dt → Answers .motVelUpdate s fun e =>
        e.get MOT_VEL_CPS = uns 32 (1000 * (d.mot.counts.filter fun c => d.dt < c.2 + 1000 * usLen).foldl (fun (y : Int) c => y + c.1) 0) ∧
        e.mot.velAt = d.dt ∧ kept [MOT_VEL_CPS] e ∧ e.ch = d.ch)) ∧
  (∀ (s : State) (m act arg : Nat), act < 256 → arg < 2 ^ 16 →
    let d := s.dev
    let cmd := Granted s m 1 (devAddr 0xA0044)
    let pos := sgn 64 (d.get MOT_SADDPOS_POS)
    let entry : Sched := { pos := pos, code := act, arg := arg, host := true }
    let good := (act = 4 ∧ arg < 8) ∨ (act = 6 ∧ schedSource arg = true)
    let kept := fun (fs : List Fld) (e : Device) => RegsKept fs d e ∧ e.mem = d.mem ∧ ∀ j c, e.thread j c = d.thread j c
    let add := fun (st : Nat) (p : Device → Prop) => Answers (.hostScheduleAdd m act arg) s fun e => e.get MOT_SADDRES_STATUS = st ∧ p e ∧ kept [MOT_SADDRES_STATUS] e ∧ e.ch = d.ch
    let same := fun e : Device => e.mot = d.mot
    let granted := Granted s m 1 (devAddr 0xA0068)
    (granted → d.on MOT_CTL_EN = false → add stDisabled same) ∧
      (granted → d.on MOT_CTL_EN = true → (¬ good ∨ pos ≠ sgn 48 (uns 48 pos)) → add stBadReq same) ∧
      (granted → d.on MOT_CTL_EN = true → good → pos = sgn 48 (uns 48 pos) → pos ≤ d.motPos → add stPast same) ∧
      (granted → d.on MOT_CTL_EN = true → good → pos = sgn 48 (uns 48 pos) → d.motPos < pos → 4096 ≤ d.mot.sched.length → add stSchFull same) ∧
      (granted → d.on MOT_CTL_EN = true → good → pos = sgn 48 (uns 48 pos) → d.motPos < pos → d.mot.sched.length < 4096 → add stOk fun e => e.mot = { d.mot with sched := putSched entry d.mot.sched }) ∧
      (cmd → d.on MOT_STAT_COAST = false → Answers (.motCoastCmd m) s fun e => e.on MOT_STAT_COAST = true ∧ e.get MOT_STAT_COASTSRC = 8 ∧ e.get MOT_COASTDT_DT = d.dt % 2 ^ 64 ∧
        e.on (EVT_SRC_PENDING 257) = true ∧ e.mot = d.mot ∧ kept [MOT_STAT_COAST, MOT_STAT_COASTSRC, MOT_COASTDT_DT] e) ∧
      (cmd → (d.on MOT_CTL_COASTEN && d.on MOT_STAT_COASTIN) = false → (d.on MOT_CTL_ESTOPCOAST && d.ilkOpen) = false → (∀ e ∈ d.mot.sched, e.code ≠ 4) → Answers (.motResume m) s fun e =>
        e.on MOT_STAT_COAST = false ∧ e.on (EVT_SRC_PENDING 258) = true ∧ e.mot = d.mot ∧ kept [MOT_STAT_COAST] e ∧ e.ch = d.ch) ∧
      (cmd → (d.on MOT_CTL_COASTEN && d.on MOT_STAT_COASTIN) = true → Answers (.motResume m) s fun e => e.on MOT_STAT_RESREJ = true ∧ e.mot = d.mot ∧ kept [MOT_STAT_RESREJ] e ∧ e.ch = d.ch) ∧
      (cmd → (d.on MOT_STAT_COAST = true ∨ d.on MOT_CTL_EN = false) → Answers (.motSchclr m) s fun e => e.mot.sched = [] ∧ (∀ n, (e.chan n).wins = (d.chan n).wins.filter fun w => w.opened) ∧ kept [] e) ∧
      (cmd → d.on MOT_STAT_COAST = false → d.on MOT_CTL_EN = true → Answers (.motSchclr m) s fun e => e.mot = d.mot ∧ e.ch = d.ch ∧ kept [] e))

/-- The position schedule (R313 to R317, R328 to R330): what each kind of due entry does on time, and that a late one is counted. -/
def Obligations.Schedule : Prop :=
  ∀ (s : State) (x : DueEntry) (rest : List DueEntry) (v : SortSlot) (k n : Nat), s.powered → s.dev.mot.due = x :: rest → x.e.arg = n →
    let d := s.dev
    let timely := d.dt ≤ x.stamp + usLen
    let kept := fun (fs : List Fld) (e : Device) => e.mot.due = rest ∧ RegsKept fs d e ∧ ∀ j c, e.thread j c = d.thread j c
    let c := d.chan n
    (timely → x.e.code = 1 → n < 1024 → c.on CH_SNFSTAT_EN = true → Answers .schedGuard s fun e => (e.chan n).on CH_MWSTAT_GUARDED = true ∧
        Snuffed c (e.chan n) 19 (sampledFrame d.dt) ∧ (∀ i, i ≠ n → e.chan i = d.chan i) ∧ kept [] e ∧ e.mem = d.mem) ∧
      (timely → x.e.code = 1 → c.on CH_SNFSTAT_EN = false → Answers .schedGuard s fun e => e.ch = d.ch ∧ kept [] e ∧ e.mem = d.mem) ∧
      (timely → x.e.code = 2 → n < 1024 → Answers .schedWclose s fun e => (e.chan n).get CH_MWCLOSE_DT = x.stamp % 2 ^ 64 ∧ (e.chan n).on CH_MWSTAT_OPEN = false ∧
        (e.chan n).wins = c.wins.tail ∧ (∀ i, i ≠ n → e.chan i = d.chan i) ∧ kept [] e ∧ e.mem = d.mem) ∧
      (timely → x.e.code = 3 → d.sortSlot n = none → Answers .schedDeadline s fun e => kept [] e ∧ e.ch = d.ch ∧ e.mem = d.mem) ∧
      (timely → x.e.code = 3 → d.sortSlot n = some v → v.owner ≠ none → (v.cell = 0 ∨ (d.retest v.cell true false false).2 ≠ 3) → Answers .schedDeadline s fun e =>
        e.on (EVT_SRC_PENDING 262) = true ∧ e.get MOT_LATECNT_LATE = min (d.get MOT_LATECNT_LATE + 1) (2 ^ MOT_LATECNT_LATE.width - 1) ∧ e.mot.due = rest ∧ e.ch = d.ch) ∧
      (timely → x.e.code = 4 → x.e.host = true → d.coastAt x.stamp = false → Answers .schedGate s fun e =>
        e.mot.gates = d.mot.gates ++ [(n, x.stamp + 2 * usLen, x.stamp + 2 * usLen + d.get (MOT_SGW_US n) * usLen)] ∧ kept [MOT_CNT_GATES] e ∧ e.ch = d.ch ∧ e.mem = d.mem) ∧
      (x.stamp + 2 * usLen < d.dt → x.e.code = 4 → x.e.host = true → Answers .schedGate s fun e => e.mot.gates = d.mot.gates ∧ e.on (EVT_SRC_PENDING 261) = true ∧
        e.on (EVT_SRC_PENDING 259) = true ∧ e.on MOT_STAT_SCHLATE = true ∧ kept [MOT_CNT_CANCEL, MOT_STAT_SCHLATE, MOT_LATECNT_SCHLATE] e ∧ e.ch = d.ch ∧ e.mem = d.mem) ∧
      (timely → x.e.code = 5 → n < 1024 → x.e.act = 0 → Answers .schedWopen s fun e => (e.chan n).get CH_MWOPEN_DT = x.stamp % 2 ^ 64 ∧
        (e.chan n).get CH_MWPOS_POS = uns 64 x.e.pos ∧ (e.chan n).on CH_MWSTAT_OPEN = true ∧ (e.chan n).get CH_MWCLOSE_DT = 0 ∧
        (e.chan n).wins = (c.wins.modifyHead fun w => { w with opened := true }) ∧ (e.chan n).on CH_MWSTAT_COAST = d.coastAt x.stamp ∧
        wearOf (3072 + n) e.wear = wearOf (3072 + n) d.wear + 1 ∧ (∀ i, i ≠ n → e.chan i = d.chan i) ∧ kept [] e ∧ KeepsOutside (d.wearAt (3072 + n)) 8 d e) ∧
      (timely → x.e.code = 6 → 480 ≤ n → n < 512 → Answers .schedEvent s fun e => e.get (EVT_DBDATA_DATA (n - 480)) = uns 32 x.e.pos ∧ e.on (EVT_SRC_PENDING n) = true ∧
        e.mot.due = rest ∧ e.ch = d.ch ∧ e.mem = d.mem) ∧
      (timely → x.e.code = 6 → 268 ≤ n → n ≤ 287 → Answers .schedEvent s fun e => e.on (EVT_SRC_PENDING n) = true ∧ kept [] e ∧ e.ch = d.ch ∧ e.mem = d.mem) ∧
      (Answers (.gatePulseEnd k) s fun e => e.mot = { d.mot with gates := d.mot.gates.filter fun g => decide (g.1 ≠ k ∨ d.dt < g.2.2) } ∧ e.regs = d.regs ∧ e.ch = d.ch ∧ e.mem = d.mem)

/-- The cell table's batches and maintenance (R321, R322, R416): sealing on command and by age, the signature, flush, enable and recount.
FEF_CELLREC (R324): a record that is newer by UPDDT replaces the one held, an older one is discarded and reported, and nothing is taken while the table is off, the link's RX is off or a recount runs. -/
def Obligations.CellTable : Prop :=
  (∀ (s : State) (m : Nat) (b : Batch) (rest : List Batch) (sig : List Nat),
    let d := s.dev
    let kept := fun (fs : List Fld) (e : Device) => RegsKept fs d e ∧ e.mem = d.mem ∧ e.ch = d.ch ∧ ∀ j c, e.thread j c = d.thread j c
    let num := d.get CT_BATCH_NUM
    let closes := fun e : Device => e.ct = { d.ct with leaves := [], closed := d.ct.closed ++ [⟨num, d.ct.leaves, d.dt⟩] } ∧ e.get CT_BATCH_NUM = (num + 1) % 2 ^ 64 ∧
      e.get CT_BSTAT_LEAVES = 0 ∧ e.on (EVT_SRC_PENDING 264) = true ∧ kept [CT_BATCH_NUM, CT_BSTAT_LEAVES, CT_BSTAT_QUEUED] e
    let cmd := Granted s m 1 (devAddr 0xB0030)
    (cmd → d.ct.leaves ≠ [] → Answers (.ctSealCmd m) s closes) ∧
      (cmd → d.ct.leaves = [] → Answers (.ctSealCmd m) s fun e => e.ct = d.ct ∧ kept [] e) ∧
      (s.powered → d.on CT_CTL_AUTOSEAL = true → d.ct.leaves ≠ [] → d.ct.first + d.maxMs * 1000 * usLen ≤ d.dt → Answers .batchAgeClose s closes) ∧
      (s.powered → d.ct.closed = b :: rest → d.records.length < 256 → d.on SEC_STAT_IDERR = false → (d.markSealed b.num 0 b.leaves).2 ≠ 3 → Answers (.batchSigned sig) s fun e =>
        e.ct.closed = rest ∧ e.get CT_SEALDONE_NUM = b.num % 2 ^ 64 ∧ e.on (EVT_SRC_PENDING 265) = true ∧
        e.records.map (·.kind) = d.records.map (·.kind) ++ [2] ∧ e.ch = d.ch ∧ ∀ j c, e.thread j c = d.thread j c) ∧
      (cmd → d.on CT_CTL_EN = true → Answers (.ctFlush m) s fun e => e.on CT_STAT_FLUSHBUSY = true ∧ e.ct = d.ct ∧ kept [CT_STAT_FLUSHBUSY] e) ∧
      (cmd → d.on CT_CTL_EN = false → Answers (.ctFlush m) s fun e => e.ct = d.ct ∧ kept [] e) ∧
      (s.powered → d.on CT_STAT_FLUSHBUSY = true → (∀ l ∈ d.ct.lines, l.dirty = false) → Answers .ctFlushDone s fun e => e.on CT_STAT_FLUSHBUSY = false ∧ e.ct = d.ct ∧ kept [CT_STAT_FLUSHBUSY] e) ∧
      (Granted s m 1 (devAddr 0xB0000) → d.on CT_CTL_EN = false → Answers (.ctEnable m) s fun e => e.on CT_CTL_EN = true ∧ e.on CT_STAT_RECOUNT = true ∧ e.ct = { d.ct with lines := [] } ∧
        e.mem = d.mem ∧ e.ch = d.ch) ∧
      (Granted s m 1 (devAddr 0xB0000) → d.on CT_CTL_EN = true → Answers (.ctEnable m) s fun e => e.on CT_CTL_EN = true ∧ e.ct = d.ct ∧ e.mem = d.mem ∧ e.ch = d.ch) ∧
      (s.powered → d.on CT_STAT_RECOUNT = true → Answers .ctRecountDone s fun e => e.on CT_STAT_RECOUNT = false ∧
        e.get CT_STAT_LIVE = liveCount (d.get CT_BASE_ADDR) none d.mem % 2 ^ CT_STAT_LIVE.width ∧ e.ct = d.ct ∧ kept [CT_STAT_LIVE, CT_STAT_RECOUNT] e)) ∧
  (∀ (s : State) (l img car lcn upd h old : Nat) (map : Bool) (x y : Device), s.powered → l < 4 →
    let d := s.dev
    let id := cellId img
    let open_ := d.on CT_CTL_EN = true ∧ d.on (CT_REPCTL_RX l) = true ∧ badId id = false ∧ d.on CT_STAT_RECOUNT = false
    let new := setFields (img % 2 ^ 1024) [(92, 1, 1), (640, 64, upd)]
    let cnt := fun (f : Fld) (e : Device) => e.get f = min (d.get f + 1) (2 ^ f.width - 1)
    let kept := fun e : Device => e.ch = d.ch ∧ ∀ j c, e.thread j c = d.thread j c
    ((d.on CT_CTL_EN = false ∨ d.on (CT_REPCTL_RX l) = false ∨ badId id = true ∨ d.on CT_STAT_RECOUNT = true) →
        Answers (.fefCellrec l img car lcn upd map) s fun e => e.regs = d.regs ∧ e.ct = d.ct ∧ UnitsKept d e) ∧
      (open_ → d.ctFind id = (x, 0, some h) → x.ctRead h = (y, 0, old) → cellUpd old < upd → (y.ctWrite h new).2 ≠ 3 →
        Answers (.fefCellrec l img car lcn upd false) s fun e => cnt (CT_REPSTAT_APPLIED l) e ∧ e.mem = (y.ctWrite h new).1.mem ∧ kept e) ∧
      (open_ → d.ctFind id = (x, 0, some h) → x.ctRead h = (y, 0, old) → upd < cellUpd old →
        Answers (.fefCellrec l img car lcn upd map) s fun e => cnt (CT_REPSTAT_DISCARD l) e ∧ e.on (EVT_SRC_PENDING 266) = true ∧ e.mem = y.mem ∧ kept e))

/-- COMMIT (R129 to R131, R165, R169, R171): a due commit without a pending set only reports it; a first enabling commit changes the power-stage range first; a commit takes the shadow set, the start boundary and the step index, and starts enabled only with the lanes on, the status lane locked and the channel not snuffed.
Step ends by TIME, FMT_DONE and ABORT, the format's edges, and the edge slots (R141 to R144, R147): cause, end boundary and GRP event; a fired slot is disarmed, FIRED, and LATE where its boundary had passed. -/
def Obligations.CommitsAndSteps : Prop :=
  (∀ (s : State) (n C : Nat), s.powered → n < 1024 → (s.dev.chan n).commitAt = some C →
    let d := s.dev
    let x := d.chan n
    let due := C ≤ d.dt ∧ x.on CH_RSTAT_STEP_TRANSITION = false
    let first := x.wantsEnable = true ∧ x.setupAcked = false ∧ d.on DEV_CTL_LANE_EN = true ∧ x.on CH_SNFSTAT_SNUFFED = false
    let lock := (d.group (n / 8)).on GRP_SLSTAT_LOCK
    let live := x.wantsEnable = true ∧ x.on CH_SNFSTAT_SNUFFED = false
    (¬ due → Answers (.commit n) s fun e => e.chan n = x ∧ OnlyChan n d e ∧ e.regs = d.regs) ∧
      (due → x.on CH_RSTAT_PEND = false → Answers (.commit n) s fun e => (e.chan n).on CH_RSTAT_NOPEND = true ∧ (e.chan n).commitAt = none ∧
        (e.chan n).ac = x.ac ∧ (e.chan n).sh = x.sh ∧ (e.chan n).get CH_STEPIDX_IDX = x.get CH_STEPIDX_IDX ∧ OnlyChan n d e ∧ e.regs = d.regs) ∧
      (due → x.on CH_RSTAT_PEND = true → first → x.ps ≠ none → Answers (.commit n) s fun e => (e.chan n).commitAt = none ∧ (e.chan n).on CH_RSTAT_PEND = true ∧
        (∃ p, (e.chan n).ps = some p ∧ p.commits = some C) ∧ (e.chan n).ac = x.ac ∧ OnlyChan n d e ∧ e.regs = d.regs) ∧
      (due → x.on CH_RSTAT_PEND = true → first → x.ps = none → Answers (.commit n) s fun e => (e.chan n).commitAt = none ∧ (e.chan n).on CH_RSTAT_PEND = true ∧
        (e.chan n).on CH_PSCTL_BUSY = true ∧ (e.chan n).get CH_PSCTL_TARGET = x.psr % 4 ∧ (∃ p, (e.chan n).ps = some p ∧ p.commits = some C ∧ p.b0 = boundaryAfter d.dt + x.deskew) ∧
        (e.chan n).ac = x.ac ∧ OnlyChan n d e ∧ e.regs = d.regs) ∧
      (due → x.on CH_RSTAT_PEND = true → ¬ first → x.lateBy = 0 → x.sh.regs.get SET_MODE_IRANGE = x.get CH_MCTL_IRANGE → Answers (.commit n) s fun e =>
        (e.chan n).ac = { x.sh with regs := x.sh.regs.setB SET_MODE_UNC false } ∧ (e.chan n).get CH_TSTART_DT = C % 2 ^ 64 ∧
        (e.chan n).get CH_STEPIDX_IDX = (x.get CH_STEPIDX_IDX + 1) % 2 ^ CH_STEPIDX_IDX.width ∧ (e.chan n).on CH_RSTAT_PEND = false ∧ (e.chan n).commitAt = none ∧
        (12 ≤ x.sh.mode → (e.chan n).mode = 0 ∧ (e.chan n).on CH_RSTAT_MODEERR = true) ∧
        (x.on CH_SNFSTAT_SNUFFED = true → (e.chan n).running = false ∧ (e.chan n).get CH_RSTAT_CAUSE = 10 ∧ (e.chan n).get CH_ENDDT_DT = C % 2 ^ 64) ∧
        (live → d.on DEV_CTL_LANE_EN = true → lock = true → (e.chan n).running = true ∧ (e.chan n).enWant = true ∧ (e.chan n).on CH_SNFSTAT_SNUFFED = false) ∧
        (live → d.on DEV_CTL_LANE_EN = false → (e.chan n).on CH_SNFSTAT_SNUFFED = true ∧ (e.chan n).get CH_SNFFIRST_CAUSE = 20) ∧
        (live → d.on DEV_CTL_LANE_EN = true → lock = false → (e.chan n).on CH_SNFSTAT_SNUFFED = true ∧ (e.chan n).get CH_SNFFIRST_CAUSE = 6) ∧
        (x.running = true → e.on (EVT_SRC_PENDING (n / 8)) = true) ∧ OnlyChan n d e)) ∧
  (∀ (s : State) (m n j b e0 f act : Nat) (es : List Nat), s.powered → n < 1024 → j < 4 → act < 4 →
    let d := s.dev
    let x := d.chan n
    let ends := fun (cause at_ : Nat) (e : Device) => (e.chan n).on CH_RSTAT_ENDED = true ∧ (e.chan n).get CH_RSTAT_CAUSE = cause ∧
      (e.chan n).get CH_ENDDT_DT = at_ % 2 ^ 64 ∧ (e.chan n).running = false ∧ e.on (EVT_SRC_PENDING (n / 8)) = true ∧ OnlyChan n d e
    let only := fun e : Device => OnlyChan n d e ∧ e.regs = d.regs
    let adr := chAddr n (0x328 + 16 * j)
    let armed := x.on (CH_ESCTL_ARMED j) = true ∧ x.get (CH_ESCTL_ACT j) ≠ 3
    let fires := fun (at_ : Nat) (e : Device) => (e.chan n).on (CH_ESCTL_ARMED j) = false ∧ (e.chan n).on (CH_ESCTL_FIRED j) = true ∧
      (x.get (CH_ESCTL_ACT j) = 1 → x.on CH_RSTAT_PEND = true → x.trig = 1 → (e.chan n).commitAt = some at_) ∧
      (x.get (CH_ESCTL_ACT j) = 1 → x.on CH_RSTAT_PEND = false → (e.chan n).on CH_RSTAT_NOPEND = true ∧ (e.chan n).commitAt = x.commitAt) ∧
      (x.get (CH_ESCTL_ACT j) = 2 → (modeType x.mode).isSome = true → x.on CH_RSTAT_ENDED = false → (e.chan n).fmtStart = some at_ ∧ (e.chan n).fmtLevel = x.ac.levelAt 0)
    (x.timeDue d.dt = e0 :: es → x.running = true → Answers (.stepEndTime n) s (ends 1 (es.foldl (fun b i => min b (x.timeEnd i)) (x.timeEnd e0)))) ∧
      (x.timeDue d.dt = [] → Answers (.stepEndTime n) s fun e => e.chan n = x ∧ only e) ∧
      (x.fmtStart = some f → (modeType x.mode).isSome = true → f ≤ d.dt → (d.dt - f) % frameLen = 0 → x.ac.edgeAt ((d.dt - f) / frameLen) = true →
        Answers (.formatEdge n) s fun e => (e.chan n).fmtLevel = x.ac.levelAt ((d.dt - f) / frameLen) ∧ (e.chan n).fmtEdge = d.dt ∧ (e.chan n).regs = x.regs ∧ only e) ∧
      (x.fmtDoneAt = some b → b ≤ d.dt → x.fmtDone = false → x.ac.fmtDoneEnd = true → x.running = true → Answers (.formatDone n) s (ends 9 b)) ∧
      (x.fmtDoneAt = some b → b ≤ d.dt → x.fmtDone = false → x.ac.fmtDoneEnd = false → Answers (.formatDone n) s fun e =>
        (e.chan n).fmtLevel = x.ac.lastLevel ∧ (e.chan n).fmtDone = true ∧ (e.chan n).regs = x.regs ∧ (e.chan n).running = x.running ∧ only e) ∧
      (x.abortAt = some b → b ≤ d.dt → x.running = true → Answers (.stepAbortEnd n) s fun e => ends 11 b e ∧ (e.chan n).abortAt = none) ∧
      (armed → x.slotDue j = (b, false) → b ≤ d.dt → Answers (.edgeSlotFire n j) s fun e => fires b e ∧
        (e.chan n).on (CH_ESCTL_LATE j) = x.on (CH_ESCTL_LATE j) ∧ only e) ∧
      (armed → x.slotDue j = (b, true) → b ≤ d.dt → Answers (.edgeSlotFire n j) s fun e => fires b e ∧
        (e.chan n).on (CH_ESCTL_LATE j) = true ∧ (e.thread (n / 64) (n % 64)).on SEQ_TSTAT_OVR = true ∧ (∀ i, i ≠ n → e.chan i = d.chan i) ∧ e.mem = d.mem) ∧
      ((x.on (CH_ESCTL_ARMED j) = false ∨ d.dt < (x.slotDue j).1) → Answers (.edgeSlotFire n j) s fun e => e.chan n = x ∧ only e) ∧
      (Granted s m 1 adr → act ≠ 0 → Answers (.edgeSlotArm m n j act) s fun e => (e.chan n).get (CH_ESCTL_ACT j) = act ∧ (e.chan n).on (CH_ESCTL_ARMED j) = true ∧
        (e.chan n).on (CH_ESCTL_FIRED j) = false ∧ (e.chan n).on (CH_ESCTL_LATE j) = false ∧
        (act ≠ 3 → (e.chan n).slotDue j = if x.slotAt j < d.dt then (boundaryAfter d.dt, true) else (x.slotAt j, false)) ∧ e.resp = [⟨m, adr, [], 0⟩] ∧ only e) ∧
      (Granted s m 1 adr → Answers (.edgeSlotDisarm m n j) s fun e => (e.chan n).get (CH_ESCTL_ACT j) = 0 ∧ (e.chan n).on (CH_ESCTL_ARMED j) = false ∧
        e.resp = [⟨m, adr, [], 0⟩] ∧ only e))

/-- The loop update, the accumulators, FS and the impedance window (R133, R134, R135, R145, R146, R151, R152), with no expectation enabled: a frozen update keeps the loop; an interval joins the totals and the step; the totals clear; FS 0 under regulation stops it; a window opens at a phase wrap and reports at its end. -/
def Obligations.LoopAndTotals : Prop :=
  ∀ (s : State) (m n r v f w w0 : Nat) (b a : IPoint) (va : Int) (rest : List IPoint) (z : Imped), s.powered → n < 1024 → r < 4 → v < 2 ^ 32 →
    (∀ i, i < 16 → (s.dev.chan n).ac.xEn i = false) →
    let d := s.dev
    let x := d.chan n
    let chip := d.chip (chipOf n)
    let only := fun e : Device => OnlyChan n d e ∧ e.regs = d.regs
    let vb := (x.vAt b.dt chip.period).getD 0
    let q := deltaQE a b va vb
    let adr := chAddr n (0x304 + 8 * r)
    let e_ := x.ac.windowEnd f w0 z.periods
    (chip.groupEnds d.dt = false ∨ chip.held = true → Answers (.loopUpdate n) s fun e => e.chan n = x ∧ only e) ∧
      (chip.groupEnds d.dt = true → chip.held = false → x.on CH_RSTAT_ENDED = false → x.frozenBy d.dt false = true → x.ps = none → (∀ i, i < 16 → x.ac.endEn i = false) → Answers (.loopUpdate n) s fun e =>
        (e.chan n).on CH_RSTAT_FROZEN = true ∧ (e.chan n).ai = x.ai ∧ (e.chan n).av = x.av ∧ (e.chan n).lterm = x.lterm ∧ (e.chan n).upd = x.upd ∧
        (e.chan n).gv = [] ∧ (e.chan n).gi = [] ∧ (e.chan n).running = x.running ∧ only e) ∧
      (chip.groupEnds d.dt = true → chip.held = false → Answers (.loopUpdate n) s fun e => e.chan n = x.loopUpdate d.dt false ∧
        (x.running = true → (x.loopUpdate d.dt false).running = false → e.on (EVT_SRC_PENDING (n / 8)) = true) ∧ OnlyChan n d e) ∧
      (x.ipts = b :: rest → x.vKnown b.dt chip.period d.dt = true → Answers (.accIntegrate n) s fun e => (e.chan n).ipts = rest ∧ (e.chan n).accPrev = some (b, vb) ∧
        (x.accPrev = none → (e.chan n).qtot = x.qtot ∧ (e.chan n).etot = x.etot ∧ (e.chan n).qstep = x.qstep ∧ (e.chan n).estep = x.estep) ∧
        (x.accPrev = some (a, va) → (e.chan n).qtot = sat 96 (x.qtot + q.1) ∧ (e.chan n).etot = sat 96 (x.etot + q.2) ∧
          (x.get CH_TSTART_DT ≤ a.dt → (e.chan n).qstep = sat 96 (x.qstep + q.1) ∧ (e.chan n).estep = sat 96 (x.estep + q.2))) ∧
        ((x.vAt b.dt chip.period = none ∨ b.shunt = 0 ∨ 4 < b.halves) → (e.chan n).on CH_RSTAT_QGAP = true) ∧ only e) ∧
      (x.ipts = b :: rest → x.vKnown b.dt chip.period d.dt = false → Answers (.accIntegrate n) s fun e => e.chan n = x ∧ only e) ∧
      (Granted s m 1 (chAddr n 0x3A8) → x.on CH_ACCCTL_CLRTOT = false → Answers (.clrtot m n) s fun e => (e.chan n).qtot = 0 ∧ (e.chan n).etot = 0 ∧
        (e.chan n).qstep = x.qstep ∧ (e.chan n).estep = x.estep ∧ (e.chan n).on CH_ACCCTL_CLRTOT = true ∧ e.resp = [⟨m, chAddr n 0x3A8, [], 0⟩] ∧ only e) ∧
      (Granted s m 1 adr → Answers (.psfsWrite m n r v) s fun e => (e.chan n).get (CH_PSFS_FS r) = (if d.on DEV_CTL_LOCK then x.get (CH_PSFS_FS r) else v) ∧
        (r = x.psr → d.on DEV_CTL_LOCK = false → v = 0 → x.enWant = true → (e.chan n).on CH_RSTAT_MODEERR = true ∧ (e.chan n).fsDead = true) ∧
        (∀ i, i < 4 → i ≠ r → (e.chan n).get (CH_PSFS_FS i) = x.get (CH_PSFS_FS i)) ∧ e.resp = [⟨m, adr, [], 0⟩] ∧ only e) ∧
      (x.imp = some z → z.w0 = none → x.fmtStart = some f → (x.ac.wrapFrom f z.req).2 = w → w ≤ d.dt → Answers (.impedWindowStart n) s fun e =>
        (e.chan n).imp = some { z with w0 := some w } ∧ (e.chan n).regs = x.regs ∧ only e) ∧
      (x.imp = some z → z.w0 = some w0 → x.fmtStart = some f → e_ ≤ d.dt → Answers (.impedWindowEnd n) s fun e => (e.chan n).on CH_ZSTAT_DONE = true ∧
        (e.chan n).on CH_ZSTAT_BUSY = false ∧ (e.chan n).get CH_ZSTAT_PER = z.periods % 2 ^ 16 ∧ (e.chan n).get CH_ZCNT_NV = min 65535 z.vs.length ∧
        (e.chan n).get CH_ZCNT_NI = min 65535 z.is.length ∧ (e.chan n).imp = none ∧
        ((z.low = true ∨ z.vs.length < 3 * z.periods ∨ z.is.length < 3 * z.periods) → (e.chan n).on CH_ZSTAT_LOWN = true) ∧
        (fitPhasor z.is = none → (e.chan n).get CH_ZRE_NOHM = 0 ∧ (e.chan n).get CH_ZIM_NOHM = 0 ∧ (e.chan n).get CH_ZMAG_NOHM = 0 ∧ (e.chan n).on CH_ZSTAT_LOWN = true) ∧
        (∀ i, i ≠ n → e.chan i = d.chan i) ∧ e.mem = d.mem ∧ e.regs = d.regs)

/-- DRIVE_FRAME and the status lane (R157 to R160, R163, R167, R169): what a drive frame carries; what a good status frame leaves in the registers, what it snuffs and what it acknowledges; bad frames and the loss of lock. -/
def Obligations.LaneFrames : Prop :=
  ∀ (s : State) (g fault range temp echo tag flags desc i t : Nat) (p : PsChange), s.powered → g < 128 → i < 8 →
    let d := s.dev
    let x := d.group g
    let n := 8 * g + i
    let c := d.chan n
    let F := d.dt / frameLen
    let outside := fun e : Device => e.mem = d.mem ∧ (∀ k c, e.thread k c = d.thread k c) ∧ (∀ j, j ≠ g → e.group j = d.group j) ∧ ∀ j, j / 8 ≠ g → e.chan j = d.chan j
    let live := d.lanes = 2 ∧ x.on GRP_SLSTAT_LOCK = true ∧ bit (x.get GRP_DLSTAT_RUN) i = true ∧ ¬ (c.on CH_SNFSTAT_SNUFFED = true ∧ c.get CH_SNFDT_DT ≤ d.dt) ∧
      (c.enWant = true ∨ (c.on CH_SNFSTAT_SNUFFED = true ∧ c.on CH_SNFSTAT_EN = true))
    let late := 8 < (x.get GRP_DLSTAT_SFSEQ + 256 - echo % 256) % 256
    let status := Instr.statusFrame g fault range temp echo tag flags desc
    let calm := bit flags 0 = true ∧ fault % 256 = 0 ∧ ¬ late ∧ temp < x.get GRP_SLCFG_TMAX
    let snuffs := fun (cause j : Nat) (e : Device) => (e.chan (8 * g + j)).on CH_SNFSTAT_SNUFFED = true ∧ bit ((e.chan (8 * g + j)).get CH_SNFCAUSE_CAUSE) cause = true
    (2 ≤ d.lanes → d.dt % frameLen = 0 → c.on CH_RSTAT_ENDED = false → Answers (.driveFrame g) s fun e =>
        (∃ a b k, (e.group g).frame = [a, b, k, crc8 [a, b, k]] ∧ (F % 64 = 0 → k = 0xBC) ∧ (bit b i = true ↔ live) ∧
          (¬ live → (bit a i = true ↔ (F % 2 = 0 ↔ c.polInv = false)))) ∧
        ((e.chan n).on CH_SNFSTAT_EN = true ↔ live) ∧ (¬ live → (e.chan n).get CH_DENS_D = 0 ∧ (e.chan n).ai = 0 ∧ (e.chan n).lterm = 0) ∧
        (e.group g).comma = decide (F % 64 = 0) ∧ outside e ∧ e.regs = d.regs) ∧
      (d.lanes < 2 → Answers (.driveFrame g) s fun e => e.ch = d.ch ∧ e.grp = d.grp ∧ outside e ∧ e.regs = d.regs) ∧
      (Answers status s fun e => (e.group g).get GRP_SLSTAT_TAG = tag % 256 ∧ (e.group g).get GRP_SLSTAT_FAULT = fault % 256 ∧
        (e.group g).get GRP_SLSTAT_TEMP = temp % 256 ∧ (e.group g).get GRP_SLRANGE_RANGE = range % 2 ^ 16 ∧ (e.group g).get GRP_SLRANGE_ECHO = echo % 256 ∧
        ((e.group g).on GRP_SLSTAT_READY = bit flags 0) ∧ ((e.group g).on GRP_SLSTAT_HBOK = true ↔ ¬ late) ∧
        ((e.group g).on GRP_SLSTAT_LOCK = true ↔ 3 ≤ x.good ∨ x.on GRP_SLSTAT_LOCK = true) ∧ (e.group g).good = min 4 (x.good + 1) ∧ (e.group g).lastGood = some d.dt ∧
        (bit flags 0 = false → snuffs 5 i e ∧ e.on (EVT_SRC_PENDING g) = true) ∧ (bit fault i = true → snuffs 5 i e ∧ e.on (EVT_SRC_PENDING g) = true) ∧
        (late → x.on GRP_SLCFG_HBCHK = true → x.hbBad = false → snuffs 7 i e ∧ e.on (EVT_SRC_PENDING (456 + g / 8)) = true) ∧
        (x.get GRP_SLCFG_TMAX ≤ temp → x.hot = 3 → x.tempBad = false → snuffs 8 i e ∧ e.on (EVT_SRC_PENDING (456 + g / 8)) = true) ∧
        (bit flags 1 = true → x.on GRP_SLSTAT_TWARN = false → e.on (EVT_SRC_PENDING 472) = true) ∧ outside e) ∧
      (calm → c.ps = none → Answers status s fun e => e.chan n = c) ∧
      (calm → c.ps = some p → p.tag = some tag → p.resume = none →
        (∀ j, j < 8 → (d.chan (8 * g + j)).waitsTag tag = true → ∃ q, (d.chan (8 * g + j)).ps = some q ∧ bits range (2 * j) 2 = q.target) →
        Answers status s fun e => (e.chan n).get CH_RSTAT_PSR = p.target % 4 ∧ (e.chan n).setupAcked = true ∧ (e.chan n).polInv = p.pol ∧
          (e.chan n).ps = some { p with resume := some (boundaryAfter d.dt + c.deskew) }) ∧
      (calm → c.ps = some p → p.tag = some tag → p.resume = none → bits range (2 * i) 2 ≠ p.target → Answers status s fun e => e.chan n = c) ∧
      (Answers (.statusFrameBad g) s fun e => (e.group g).get GRP_SLCNT_CRCERR = min (x.get GRP_SLCNT_CRCERR + 1) (2 ^ 16 - 1) ∧ (e.group g).good = 0 ∧
        (e.group g).on GRP_SLSTAT_LOCK = x.on GRP_SLSTAT_LOCK ∧ e.ch = d.ch ∧ outside e ∧ e.regs = d.regs) ∧
      (x.on GRP_SLSTAT_LOCK = true → x.lastGood = some t → t + 10 * usLen ≤ d.dt → Answers (.statusLockLoss g) s fun e => (e.group g).on GRP_SLSTAT_LOCK = false ∧
        (e.group g).get GRP_SLCNT_LOCKLOSS = min (x.get GRP_SLCNT_LOCKLOSS + 1) (2 ^ 16 - 1) ∧ Snuffed c (e.chan n) 6 (sampledFrame d.dt) ∧
        e.on (EVT_SRC_PENDING g) = true ∧ e.on (EVT_SRC_PENDING (456 + g / 8)) = true ∧ outside e) ∧
      ((x.on GRP_SLSTAT_LOCK = false ∨ ∃ u, x.lastGood = some u ∧ d.dt < u + 10 * usLen) → Answers (.statusLockLoss g) s fun e =>
        e.ch = d.ch ∧ e.grp = d.grp ∧ outside e ∧ e.regs = d.regs)

/-- The lane states, IDENTIFY and the rest of a range change (R160, R165 to R167): LANE_EN set and cleared, IDLE at a superframe boundary, OFF after a full superframe; the repeated SETUP, the timeout and the resume boundary. -/
def Obligations.LaneStates : Prop :=
  ∀ (s : State) (m g n mask tg r : Nat) (p : PsChange), g < 128 → n < 1024 →
    let d := s.dev
    let x := d.chan n
    let sf := 64 * frameLen
    let ctl := Granted s m 1 (devAddr 4)
    let told := fun (a : Nat) (e : Device) => e.resp = [⟨m, a, [], 0⟩]
    let sent := fun (bs : List Nat) (e : Device) => (e.group g).queue = (d.group g).queue ++ [⟨bs, d.dt / frameLen⟩] ∧ (e.group g).regs = (d.group g).regs ∧
      (∀ j, j ≠ g → e.group j = d.group j) ∧ e.ch = d.ch ∧ e.mem = d.mem ∧ e.regs = d.regs ∧ told (grpAddr g 4) e
    (ctl → d.on DEV_CTL_LANE_EN = false → Answers (.laneEnable m) s fun e => e.on DEV_CTL_LANE_EN = true ∧ e.lanes = (if d.lanes = 0 then 1 else d.lanes) ∧
        (d.lanes = 0 → e.lanesAt = d.dt) ∧ UnitsKept d e ∧ RegsKept [DEV_CTL_LANE_EN] d e ∧ told (devAddr 4) e) ∧
      (s.powered → d.lanes = 1 → d.dt % sf = 0 → d.lanesAt < d.dt → Answers .lanesIdle s fun e => e.lanes = 2 ∧ e.regs = d.regs ∧ UnitsKept d e) ∧
      (s.powered → (d.lanes ≠ 1 ∨ d.dt % sf ≠ 0) → Answers .lanesIdle s fun e => e.lanes = d.lanes ∧ e.regs = d.regs ∧ UnitsKept d e) ∧
      (ctl → d.on DEV_CTL_LANE_EN = true → Answers (.laneDisable m) s fun e => e.on DEV_CTL_LANE_EN = false ∧ e.lanes = (if d.lanes = 2 then 3 else 0) ∧
        (∀ i, i < 1024 → Snuffed (d.chan i) (e.chan i) 20 (sampledFrame d.dt)) ∧ e.mem = d.mem ∧ e.grp = d.grp ∧ (∀ k c, e.thread k c = d.thread k c) ∧ told (devAddr 4) e) ∧
      (s.powered → d.lanes = 3 → d.dt % sf = 0 → alignUp (sampledFrame d.lanesAt) sf + sf ≤ d.dt → Answers .lanesOff s fun e => e.lanes = (if d.on DEV_CTL_LANE_EN then 1 else 0) ∧
        (e.group g).get GRP_DLSTAT_RUN = 0 ∧ (e.group g).queue = [] ∧ (e.group g).frame = [] ∧ (e.chan n).on CH_SNFSTAT_EN = false ∧ (e.chan n).setupAcked = false ∧
        (e.chan n).enWant = false ∧ e.mem = d.mem ∧ e.regs = d.regs ∧ ∀ k c, e.thread k c = d.thread k c) ∧
      (Granted s m 1 (grpAddr g 4) → mask % 256 ≠ 0 → Answers (.identifyOn m g mask) s (sent (identifyMsg (mask % 256) 1)) ∧
        Answers (.identifyOff m g mask) s (sent (identifyMsg (mask % 256) 0))) ∧
      (s.powered → x.ps = some p → p.resume = none → p.b0 + 1000 * usLen ≤ d.dt → Answers (.setupAckTimeout n) s fun e => (e.chan n).on CH_PSCTL_TMO = true ∧
        Snuffed x (e.chan n) 9 (sampledFrame d.dt) ∧ (e.chan n).get CH_RSTAT_PSR = x.get CH_RSTAT_PSR ∧
        (e.chan n).ps = some { p with timedOut := true, resume := some (boundaryAfter d.dt + x.deskew) } ∧ e.on (EVT_SRC_PENDING (456 + n / 64)) = true ∧ OnlyChan n d e) ∧
      (s.powered → x.ps = some p → p.tag = some tg → p.resume = none → p.sent + 16 * sf ≤ d.dt → Answers (.setupRepeat n) s fun e =>
        (∃ ms, bit ms (n % 8) = true ∧ (e.group (n / 8)).queue = (d.group (n / 8)).queue ++
          [⟨setupMsg ms p.target (b2n p.pol) p.sstart tg, d.dt / frameLen⟩]) ∧
        (e.chan n).ps = some { p with sent := d.dt } ∧ (e.chan n).regs = x.regs ∧ (∀ j, j / 8 ≠ n / 8 → e.chan j = d.chan j) ∧ e.mem = d.mem ∧ e.regs = d.regs) ∧
      (s.powered → x.ps = some p → p.resume = some r → r ≤ d.dt → Answers (.rangeResume n) s fun e => (e.chan n).on CH_PSCTL_BUSY = false ∧ (e.chan n).ps = none ∧
        (e.chan n).psOk = !p.timedOut ∧ (e.chan n).rampUp = (if x.get CH_PSCTL_SOFT = 0 then none else some r) ∧
        (e.chan n).commitAt = (if p.commits.isSome then some r else x.commitAt) ∧ (e.chan n).get CH_RSTAT_PSR = x.get CH_RSTAT_PSR ∧ OnlyChan n d e ∧ e.regs = d.regs) ∧
      (s.powered → x.ps = some p → (p.resume = none ∨ ∃ u, p.resume = some u ∧ d.dt < u) → Answers (.rangeResume n) s fun e => e.chan n = x ∧ OnlyChan n d e ∧ e.regs = d.regs)

/-- Host snuffs and re-arms and the e-stop loop (R168, R169, R172, R178, R426, R441): cause HOST, the re-arm that a level source or HOLD refuses, the snuff of every channel, and safe-off while the loop is open. -/
def Obligations.Snuffs : Prop :=
  ∀ (s : State) (m n : Nat), n < 1024 →
    let d := s.dev
    let x := d.chan n
    let adr := chAddr n 0x498
    let told := fun (a : Nat) (e : Device) => e.resp = [⟨m, a, [], 0⟩]
    let asked := Granted s m 1 adr ∧ x.on CH_SNFCTL_REARM = false
    let rej := fun e : Device => (e.chan n).on CH_SNFSTAT_REJ = true ∧ (e.chan n).on CH_SNFSTAT_SNUFFED = x.on CH_SNFSTAT_SNUFFED ∧ OnlyChan n d e ∧ e.regs = d.regs ∧ told adr e
    (Granted s m 1 adr → x.on CH_SNFCTL_SNUFF = false → Answers (.hostSnuff m n) s fun e => Snuffed x (e.chan n) 20 (sampledFrame d.dt) ∧
        e.on (EVT_SRC_PENDING (n / 8)) = true ∧ (e.chan n).on CH_SNFCTL_SNUFF = true ∧ OnlyChan n d e ∧ told adr e) ∧
      (asked → d.inHold = false → d.levels n = 0 → Answers (.hostRearm m n) s fun e => (e.chan n).on CH_SNFSTAT_SNUFFED = false ∧
        (x.on CH_SNFSTAT_SNUFFED = true → (e.chan n).on CH_SNFFIRST_VALID = false) ∧ (e.chan n).get CH_SNFCAUSE_CAUSE = x.get CH_SNFCAUSE_CAUSE ∧
        (e.chan n).enWant = x.enWant ∧ (e.chan n).on CH_SNFSTAT_REJ = x.on CH_SNFSTAT_REJ ∧ OnlyChan n d e ∧ e.regs = d.regs ∧ told adr e) ∧
      (asked → d.inHold = false → x.on CH_SNFSTAT_SNUFFED = true → d.levels n ≠ 0 → Answers (.hostRearm m n) s rej) ∧
      (asked → d.inHold = true → Answers (.hostRearm m n) s rej) ∧
      (Granted s m 1 (devAddr 0x304) → d.on DEV_SNFCMD_ALL = false → Answers (.snuffAll m) s fun e => Snuffed x (e.chan n) 20 (sampledFrame d.dt) ∧
        e.on (EVT_SRC_PENDING 452) = true ∧ e.on (EVT_SRC_PENDING (n / 8)) = true ∧ e.on DEV_SNFCMD_ALL = true ∧ e.mem = d.mem ∧ (∀ k c, e.thread k c = d.thread k c) ∧ told (devAddr 0x304) e) ∧
      (s.served → Answers .ilkEstopOpen s fun e => Snuffed x (e.chan n) 13 (sampledFrame d.dt) ∧ e.on (EVT_SRC_PENDING 448) = true ∧ e.on (EVT_SRC_PENDING 452) = true ∧
        e.ilkOpen = true ∧ bit (e.get PIL_SAFECTL_FORCE) 1 = true ∧ e.on PIL_SAFECTL_CONDUCT = false ∧ e.on PIL_SAFECTL_PERMIT = false ∧
        (d.get DEV_POS_ROLE = 1 → d.on BCN_STAT_ALIGNED = true → d.bcn.upEstop = none → e.bcn.upEstop ≠ none) ∧
        (d.on MOT_CTL_ESTOPCOAST = true → e.on MOT_STAT_COAST = true) ∧ e.mem = d.mem ∧ ∀ k c, e.thread k c = d.thread k c) ∧
      (s.served → d.ilkOpen = true → Answers .ilkEstopClose s fun e => e.ilkOpen = false ∧ bit (e.get PIL_SAFECTL_FORCE) 1 = false ∧
        e.on (EVT_SRC_PENDING 449) = true ∧ e.on PIL_SAFECTL_PERMIT = d.on PIL_SAFECTL_PERMIT ∧ UnitsKept d e) ∧
      (s.served → d.ilkOpen = false → Answers .ilkEstopClose s fun e => e.regs = d.regs ∧ UnitsKept d e)

/-- INSTRUCTION_FETCH (R183, R188, R209, R250, R251, R258): a READY thread of a loaded cluster in service issues the word at its PC; PCRANGE past the program, PRIV, ILLEGAL, the routine that an unlisted opcode's dispatch entry names, and a machine check found at dispatch. -/
def Obligations.Fetch : Prop :=
  ∀ (s : State) (k c w tb kind addr slices : Nat) (i : Instr), s.powered → k < 16 → c < 64 →
    let d := s.dev
    let x := d.clus k
    let t := d.thread k c
    let at_ := targetBase k + x.get SEQ_PBASE_BASE + 8 * t.pc
    let en := x.entry (bits w 56 8)
    let ready := x.on MCE_CTL_LOADED = true ∧ d.clState k = 0 ∧ t.state = 1 ∧ t.issued = none ∧ t.traps = []
    let held := t.pc < x.get SEQ_PSIZE_WORDS ∧ BankOpen d k 3 at_ 8 tb ∧ w = memRead d.mem at_ 8
    let barred := bit en 14 = true ∧ t.on SEQ_TCFG_PRIV = false
    let store := listedOp (bits w 56 8) = false ∧ en % 8192 ≠ 0x80
    let fetch := Instr.instructionFetch k c none
    let issued := fun e : Device => (e.thread k c).state = 2 ∧ (e.thread k c).issued = some w ∧ (e.thread k c).pc = t.pc ∧ (e.thread k c).flags = t.flags ∧
      (∀ j, (e.thread k c).g j = t.g j) ∧ (∀ j b, (j, b) ≠ (k, c) → e.thread j b = d.thread j b) ∧ ∀ n, n ≠ 64 * k + c → e.chan n = d.chan n
    (ready → x.get SEQ_PSIZE_WORDS ≤ t.pc → Halts fetch s k c 3) ∧
      (ready → held → barred → Halts fetch s k c 15) ∧
      (ready → held → ¬ barred → ¬ store → decodeThread k c w = none → Halts fetch s k c 2) ∧
      (ready → held → ¬ barred → ¬ store → decodeThread k c w = some i → bits w 56 8 ≠ 0x81 → Answers fetch s fun e => issued e ∧ e.mem = d.mem ∧
        ((e.chan (64 * k + c)).on CH_RSTAT_STEP_TRANSITION = true ↔ writesShadow w = true ∨ (d.chan (64 * k + c)).on CH_RSTAT_STEP_TRANSITION = true)) ∧
      (ready → held → ¬ barred → store → Answers fetch s fun e => issued e ∧ (∃ m, (e.thread k c).micro = some m ∧ m.upc = en % 8192 ∧ m.own = true) ∧
        e.mem = d.mem ∧ e.chan (64 * k + c) = d.chan (64 * k + c)) ∧
      (ready → held → d.get DEV_RSTCFG_MCKLIM = 0 → Answers (.instructionFetch k c (some (kind, addr, slices))) s fun e => MachineChecked k kind addr slices d e ∧
        (e.thread k c).get SEQ_TSTAT_CAUSE = 13 ∧ (e.thread k c).pc = t.pc) ∧
      ((x.on MCE_CTL_LOADED = false ∨ d.clState k ≠ 0 ∨ t.state ≠ 1) → Answers fetch s fun e => (∀ j b, e.thread j b = d.thread j b) ∧ e.mem = d.mem ∧ e.ch = d.ch ∧ e.regs = d.regs)

/-- RUN, HALT, ABORT, the masks, QUIESCE and its release (R199, R208 to R211, R426): which threads start, stop and show QUIESCED, with which cause, and what a release gives back. -/
def Obligations.ThreadControl : Prop :=
  ∀ (s : State) (m k c lo v w st : Nat) (tf : Bool) (wt : Wait) (cls arg : Nat), k < 16 → c < 64 → lo < 2 ^ 32 → v < 2 ^ 32 →
    let d := s.dev
    let t := d.thread k c
    let x := d.clus k
    let quiet := x.on SEQ_CTL_QUIESCE = false
    let told := fun (a : Nat) (e : Device) => e.resp = [⟨m, a, [], 0⟩] ∧ e.mem = d.mem
    let cmd := Granted s m 1 (thrAddr k c 0)
    let same := fun e : Device => e.thread k c = t ∧ told (thrAddr k c 0) e ∧ e.regs = d.regs
    let stopped := fun (cause : Nat) (e : Device) => Halted t (e.thread k c) cause ∧ told (thrAddr k c 0) e
    let mask := lo + 2 ^ 32 * v
    (cmd → t.state = 0 → d.inHold = false → quiet → Answers (.threadRun m k c) s fun e => (e.thread k c).state = 1 ∧ (e.thread k c).get SEQ_TSTAT_CAUSE = 0 ∧
        (e.thread k c).pc = t.pc ∧ (∀ j, (e.thread k c).g j = t.g j) ∧ (∀ j b, (j, b) ≠ (k, c) → e.thread j b = d.thread j b) ∧ told (thrAddr k c 0) e) ∧
      (cmd → t.state = 0 → d.inHold = false → ¬ quiet → Answers (.threadRun m k c) s fun e => (e.thread k c).state = 4 ∧ (e.thread k c).former = 1) ∧
      (cmd → (t.state ≠ 0 ∨ d.inHold = true) → Answers (.threadRun m k c) s same) ∧
      (cmd → t.state ≠ 0 → t.onStore = false → t.issued = none → Answers (.hostHalt m k c) s (stopped 11) ∧ Answers (.hostAbort m k c) s fun e => stopped 12 e ∧
        ((d.chan (64 * k + c)).running = true → (e.chan (64 * k + c)).abortAt = some (boundaryAfter d.dt + (d.chan (64 * k + c)).deskew))) ∧
      (cmd → t.state ≠ 0 → t.onStore = false → t.issued = some w → longRoutine w = true → Answers (.hostHalt m k c) s (stopped 11)) ∧
      (cmd → t.state ≠ 0 → t.onStore = false → t.issued = some w → longRoutine w = false → Answers (.hostHalt m k c) s fun e =>
        (e.thread k c).haltReq = some 11 ∧ (e.thread k c).regs = t.regs ∧ told (thrAddr k c 0) e) ∧
      (cmd → t.state = 0 → Answers (.hostHalt m k c) s same) ∧
      (Granted s m 1 (clAddr k 0x24) → findWord m (clAddr k 0x20) d.held = some lo → quiet → d.inHold = false → Answers (.runmaskWrite m k v) s fun e =>
        (bit mask c = true → t.state = 0 → (e.thread k c).state = 1 ∧ (e.thread k c).get SEQ_TSTAT_CAUSE = 0) ∧
        ((bit mask c = false ∨ t.state ≠ 0) → e.thread k c = t) ∧ (∀ j b, j ≠ k → e.thread j b = d.thread j b) ∧ told (clAddr k 0x24) e) ∧
      (Granted s m 1 (clAddr k 0x2C) → findWord m (clAddr k 0x28) d.held = some lo → t.state ≠ 0 → t.onStore = false → t.issued = none → (∀ b, t.inSync b = false) →
        Answers (.haltreqWrite m k v) s fun e => (bit mask c = true → Halted t (e.thread k c) 11) ∧ (bit mask c = false → e.thread k c = t) ∧
          (∀ j b, j ≠ k → e.thread j b = d.thread j b) ∧ told (clAddr k 0x2C) e) ∧
      (Granted s m 1 (clAddr k 0) → quiet → Answers (.quiesce m k) s fun e => (e.clus k).on SEQ_CTL_QUIESCE = true ∧
        (t.state = 1 ∨ t.state = 3 → (e.thread k c).state = 4 ∧ (e.thread k c).former = t.state ∧ (e.thread k c).pc = t.pc ∧ (e.thread k c).wait = t.wait) ∧
        (t.state = 0 → e.thread k c = t) ∧ (t.state = 2 → t.issued = some w → longRoutine w = false → e.thread k c = t) ∧
        ((∀ b, b < 64 → (d.thread k b).state = 0 ∨ (d.thread k b).state = 1 ∨ (d.thread k b).state = 3 ∨ (d.thread k b).state = 4) → (e.clus k).on SEQ_STAT_QUIESCED = true) ∧
        (∀ j b, j ≠ k → e.thread j b = d.thread j b) ∧ e.ch = d.ch ∧ told (clAddr k 0) e) ∧
      (Granted s m 1 (clAddr k 0) → ¬ quiet → t.state = 4 → Answers (.quiesceRelease m k) s fun e => (e.clus k).on SEQ_CTL_QUIESCE = false ∧
        (t.held = none → (e.thread k c).state = t.former % 8 ∧ (e.thread k c).pc = t.pc ∧ (e.thread k c).wait = t.wait ∧ (e.thread k c).flags = t.flags) ∧
        (t.held = some (tf, st) → t.wait = some wt → wt.kind = .cond cls arg → t.former = 3 → t.micro = none → Woke t (e.thread k c) tf st) ∧ told (clAddr k 0) e)

/-- Writes of a thread's state and of the program region, and the redirect of a LOG+ABORT (R185, R212, R223): open to a HALTED thread only, WREJ otherwise; CFGREJ while a thread runs or the region does not fit; the redirect pushes the PC and clears P. -/
def Obligations.ThreadState : Prop :=
  ∀ (s : State) (m k c j v h : Nat), k < 16 → c < 64 → v < 2 ^ 32 → j < 4 →
    let d := s.dev
    let t := d.thread k c
    let x := d.clus k
    let u := fun e : Device => e.thread k c
    let only := fun (a : Nat) (e : Device) => e.resp = [⟨m, a, [], 0⟩] ∧ e.mem = d.mem ∧ e.ch = d.ch ∧ e.regs = d.regs ∧ ∀ i b, (i, b) ≠ (k, c) → e.thread i b = d.thread i b
    let put := fun (off : Nat) (f : Fld) (val : Nat) => Granted s m 1 (thrAddr k c off) → t.state = 0 → Answers (.threadStateWrite m k c off v) s fun e =>
      (u e).get f = val ∧ (∀ i, (u e).g i = t.g i) ∧ (u e).get SEQ_TSTAT_CAUSE = t.get SEQ_TSTAT_CAUSE ∧ (u e).state = 0 ∧ only (thrAddr k c off) e
    let size := fun b : Bool => clAddr k (if b then 0xC else 8)
    let idle := ∀ b, b < 64 → (d.thread k b).state = 0
    put 0x8 SEQ_TPC_PC v ∧ put 0x10 SEQ_TFLAGS_FLAGS (v % 64) ∧ put 0x14 SEQ_TSP_DEPTH (min 16 (v % 32)) ∧ put (0x20 + 4 * j) (SEQ_TL_CNT j) v ∧
      (∀ off, off = 0x8 ∨ off = 0x10 ∨ off = 0x14 ∨ off = 0x20 + 4 * j → Granted s m 1 (thrAddr k c off) → t.state ≠ 0 →
        Answers (.threadStateWrite m k c off v) s fun e => (u e).on SEQ_TSTAT_WREJ = true ∧ (u e).pc = t.pc ∧ (u e).flags = t.flags ∧ (u e).l j = t.l j ∧
          (u e).get SEQ_TSP_DEPTH = t.get SEQ_TSP_DEPTH ∧ (u e).state = t.state ∧ only (thrAddr k c off) e) ∧
      (Granted s m 1 (size false) → idle → v + 8 * x.get SEQ_PSIZE_WORDS ≤ 0x300000 → Answers (.programRegionWrite m k false v) s fun e =>
        (e.clus k).get SEQ_PBASE_BASE = v ∧ (e.clus k).get SEQ_PSIZE_WORDS = x.get SEQ_PSIZE_WORDS ∧ only (size false) e ∧ u e = t) ∧
      (Granted s m 1 (size true) → idle → x.get SEQ_PBASE_BASE + 8 * (v % 2 ^ 19) ≤ 0x300000 → Answers (.programRegionWrite m k true v) s fun e =>
        (e.clus k).get SEQ_PSIZE_WORDS = v % 2 ^ 19 ∧ (e.clus k).get SEQ_PBASE_BASE = x.get SEQ_PBASE_BASE ∧ only (size true) e ∧ u e = t) ∧
      (Granted s m 1 (size false) → (t.state ≠ 0 ∨ 0x300000 < v + 8 * x.get SEQ_PSIZE_WORDS) → Answers (.programRegionWrite m k false v) s fun e =>
        (e.clus k).on SEQ_STAT_CFGREJ = true ∧ (e.clus k).get SEQ_PBASE_BASE = x.get SEQ_PBASE_BASE ∧ only (size false) e ∧ u e = t) ∧
      (s.powered → t.redirect = some h → t.onStore = false → t.state = 1 → t.get SEQ_TSP_DEPTH < 16 → Answers (.redirect k c) s fun e =>
        (u e).pc = h % 2 ^ 32 ∧ (u e).get (SEQ_TSTK_PC (t.get SEQ_TSP_DEPTH)) = t.pc ∧ (u e).get SEQ_TSP_DEPTH = t.get SEQ_TSP_DEPTH + 1 ∧ (u e).flag 5 = false ∧
        (u e).state = 1 ∧ (u e).redirect = none ∧ (∀ i, (u e).g i = t.g i) ∧ e.mem = d.mem ∧ e.ch = d.ch ∧ e.regs = d.regs) ∧
      (s.powered → t.redirect = some h → t.onStore = false → t.state ≠ 0 → 16 ≤ t.get SEQ_TSP_DEPTH → Halts (.redirect k c) s k c 4) ∧
      (s.powered → t.redirect = none → Answers (.redirect k c) s fun e => (∀ i b, e.thread i b = d.thread i b) ∧ e.mem = d.mem ∧ e.ch = d.ch ∧ e.regs = d.regs)

/-- ASYNC_TRAP, BUDGET_EXCEEDED, ENGINE_WAIT_TIMEOUT and CONTROL_STORE_SCRUB (R248, R252 to R254, R258): the lowest pending cause is taken with its save frame; the base handlers of XREQ and BUDGET; the machine checks of kinds 7 to 10, escalation off. -/
def Obligations.EngineTraps : Prop :=
  ∀ (s : State) (k c cause addr slices : Nat) (mi : Micro), s.powered → k < 16 → c < 64 → s.dev.get DEV_RSTCFG_MCKLIM = 0 →
    let d := s.dev
    let x := d.clus k
    let t := d.thread k c
    let at_ := d.trapArea k + c * 0x100
    let serves := x.on MCE_CTL_LOADED = true ∧ d.clState k = 0
    let idle := t.state = 1 ∧ t.issued = none ∧ t.wait = none ∧ t.micro = none
    let takes := t.traps.foldl min 16 = cause ∧ cause < 16
    let framed := (d.saveFrame k c 1 (frameWords {} false true cause 0 d.dt)).mem
    let taken := fun e : Device => (e.thread k c).traps = t.traps.filter (fun i => decide (i ≠ cause)) ∧ (e.thread k c).pc = t.pc ∧ (e.thread k c).flags = t.flags ∧
      (∀ i, (e.thread k c).g i = t.g i) ∧ (e.clus k).get MCE_TRAPCNT_ASYNC = min (x.get MCE_TRAPCNT_ASYNC + 1) (2 ^ 16 - 1) ∧ e.mem = framed ∧ KeepsOutside at_ 0x40 d e ∧
      ∀ n, e.chan n = d.chan n
    let nothing := fun e : Device => (∀ j b, e.thread j b = d.thread j b) ∧ e.mem = d.mem ∧ e.ch = d.ch ∧ e.regs = d.regs
    (serves → idle → takes → x.csWritten (8 * cause) = true → Answers (.asyncTrap k c none) s fun e => taken e ∧ (e.thread k c).state = 2 ∧
        ∃ q, (e.thread k c).micro = some q ∧ q.upc = 8 * cause ∧ q.level = 1 ∧ q.latch = 0 ∧ q.loop = 0 ∧ q.stack = []) ∧
      (serves → idle → takes → cause = 13 → x.csWritten (8 * cause) = false → Answers (.asyncTrap k c none) s fun e => taken e ∧ (e.thread k c).state = 1 ∧
        bit ((e.clus k).get MCE_XREQ_MASK) c = false) ∧
      (serves → idle → takes → cause = 12 → x.csWritten (8 * cause) = false → Answers (.asyncTrap k c none) s fun e => (e.thread k c).state = 0 ∧
        (e.thread k c).get SEQ_TSTAT_CAUSE = 13 ∧ (e.clus k).on MCE_STAT_MCK = true ∧ (x.on MCE_STAT_MCK = false → (e.clus k).get MCE_MCKINFO_KIND = 9) ∧ e.mem = framed) ∧
      ((t.traps = [] ∨ t.state = 0 ∨ x.on MCE_CTL_LOADED = false) → Answers (.asyncTrap k c none) s nothing) ∧
      (serves → t.micro = some mi → t.onStore = true → 4 ≤ mi.level → takes → t.state ≠ 0 → t.wait = none →
        Answers (.asyncTrap k c (some (0, 0, 0, 0, []))) s (MachineChecked k 7 mi.upc 0 d)) ∧
      (x.on MCE_CTL_BUDGET_EN = true → t.active = true → t.traps.contains 12 = false → Answers (.budgetExceeded k c) s fun e =>
        (e.thread k c).traps = t.traps ++ [12] ∧ (e.thread k c).regs = t.regs ∧ (∀ j b, (j, b) ≠ (k, c) → e.thread j b = d.thread j b) ∧ e.mem = d.mem ∧ e.ch = d.ch ∧ e.regs = d.regs) ∧
      ((x.on MCE_CTL_BUDGET_EN = false ∨ t.active = false) → Answers (.budgetExceeded k c) s nothing) ∧
      (t.active = true → x.on MCE_CTL_LOADED = true → Answers (.engineWaitTimeout k c addr) s (MachineChecked k 8 addr 0 d)) ∧
      (t.active = false → Answers (.engineWaitTimeout k c addr) s nothing) ∧
      (x.on MCE_CTL_LOADED = true → x.on MCE_CTL_SCRUB_EN = true → Answers (.controlStoreScrub k (some (addr, slices))) s (MachineChecked k 10 addr slices d)) ∧
      (Answers (.controlStoreScrub k none) s nothing)

/-- The control store, the dispatch table, LOADED and XREQ (R243, R250, R252, R259, R260, R262): the Lamplighter's writes with generated parity and BCAST, WREJ and RREJ for every other master, and no store write into a loaded cluster. -/
def Obligations.ControlStore : Prop :=
  ∀ (s : State) (m k j c op v : Nat) (bcast : Bool), k < 16 → j < 16 → c < 64 → op < 256 → v < 2 ^ 32 →
    let d := s.dev
    let x := d.clus k
    let ws := x.csCopy m
    let word := withParity (csData ws)
    let cmd := Granted s m 1 (clAddr k 0x10034)
    let told := fun (off : Nat) (e : Device) => e.resp = [⟨m, clAddr k off, [], 0⟩] ∧ e.mem = d.mem ∧ e.ch = d.ch
    let threads := fun e : Device => ∀ i b, e.thread i b = d.thread i b
    let open_ := x.on MCE_CTL_LOADED = false
    let rejected := fun (off : Nat) (e : Device) => (e.clus k).on MCE_STAT_WREJ = true ∧ (e.clus k).on MCE_CTL_LOADED = x.on MCE_CTL_LOADED ∧
      (∀ i, (e.clus i).cs = (d.clus i).cs ∧ (e.clus i).dispSet = (d.clus i).dispSet) ∧ threads e ∧ e.regs = d.regs ∧ told off e
    (cmd → m = 35 → open_ → Answers (.mceCsWrite m k bcast) s fun e => (e.clus k).cs = csPut (ws.getD 0 0 % 8192) word x.cs ∧
        (j ≠ k → (e.clus j).cs = if bcast && !(d.clus j).on MCE_CTL_LOADED then csPut (ws.getD 0 0 % 8192) word (d.clus j).cs else (d.clus j).cs) ∧
        (e.clus k).on MCE_STAT_WREJ = x.on MCE_STAT_WREJ ∧ threads e ∧ told 0x10034 e) ∧
      (cmd → (m ≠ 35 ∨ (bcast = false ∧ ¬ open_)) → Answers (.mceCsWrite m k bcast) s (rejected 0x10034)) ∧
      (cmd → m = 35 → Answers (.mceCsRead m k) s fun e => (e.clus k).csCopy m = ws.getD 0 0 :: (List.range 6).map (fun i => bits (x.csAt (ws.getD 0 0 % 8192)) (32 * i) 32) ∧
        (e.clus k).cs = x.cs ∧ threads e ∧ e.regs = d.regs ∧ told 0x10034 e) ∧
      (cmd → m ≠ 35 → Answers (.mceCsRead m k) s fun e => (e.clus k).on MCE_STAT_RREJ = true ∧ (e.clus k).csCopy m = ws.getD 0 0 :: List.replicate 6 0 ∧
        (e.clus k).cs = x.cs ∧ threads e ∧ e.regs = d.regs ∧ told 0x10034 e) ∧
      (Granted s m 1 (clAddr k (0x10400 + 4 * op)) → m = 35 → open_ → Answers (.mceDispWrite m k op v) s fun e => (e.clus k).entry op = v % 65536 ∧
        (e.clus k).get (MCE_DISP_PAR op) = oddParity (v % 65536) ∧ (∀ i, i < 256 → i ≠ op → (e.clus k).entry i = x.entry i) ∧ (e.clus k).cs = x.cs ∧ threads e ∧
        told (0x10400 + 4 * op) e) ∧
      (Granted s m 1 (clAddr k (0x10400 + 4 * op)) → (m ≠ 35 ∨ ¬ open_) → Answers (.mceDispWrite m k op v) s (rejected (0x10400 + 4 * op))) ∧
      (Granted s m 1 (clAddr k 0x10000) → m = 35 → Answers (.mceLoadedSet m k) s fun e => (e.clus k).on MCE_CTL_LOADED = true ∧ (open_ → (e.clus k).on MCE_STAT_LOADED = true) ∧
        (e.clus k).get MCE_CTL_BUDGET_EN = x.get MCE_CTL_BUDGET_EN % 2 ∧ (e.clus k).cs = x.cs ∧ threads e ∧ told 0x10000 e) ∧
      (Granted s m 1 (clAddr k 0x10000) → m ≠ 35 → Answers (.mceLoadedSet m k) s (rejected 0x10000)) ∧
      (Granted s m 1 (clAddr k (0x10028 + 4 * (c / 32))) → m = 35 → Answers (.mceXreqSet m k c) s fun e => bit ((e.clus k).get MCE_XREQ_MASK) c = true ∧
        13 ∈ (e.thread k c).traps ∧ (e.thread k c).regs = (d.thread k c).regs ∧ (∀ i b, (i, b) ≠ (k, c) → e.thread i b = d.thread i b) ∧ e.regs = d.regs ∧
        told (0x10028 + 4 * (c / 32)) e) ∧
      (Granted s m 1 (clAddr k (0x10028 + 4 * (c / 32))) → m ≠ 35 → Answers (.mceXreqSet m k c) s (rejected (0x10028 + 4 * (c / 32))))

/-- FAIL_RECORD_WRITE, FAIL_SPILL_MOVE and the SPILL bit (R264 to R270, R292): the oldest failure becomes a 32-byte record with its SEQ in the bank ring; a full ring or EN = 0 loses it; a record 1 ms old moves to the spill ring; SPILL changes only with both rings empty. -/
def Obligations.FailUnit : Prop :=
  ∀ (s : State) (m tb t v : Nat) (it : FailItem) (rest : List FailItem) (d1 d2 : Device) (on_ : Bool), s.powered →
    let d := s.dev
    let w := d.get FAIL_RWR_IDX
    let a := 0x3000000 + 32 * w
    let took := fun e : Device => e.fail.queue = rest ∧ e.get FAIL_SEQ_SEQ = (d.get FAIL_SEQ_SEQ + 1) % 2 ^ 32 ∧ e.ch = d.ch ∧ e.afe = d.afe ∧
      ∀ k c, e.thread k c = d.thread k c
    let lost := fun e : Device => took e ∧ e.get FAIL_RWR_IDX = w ∧ e.mem = d.mem ∧ e.get FAIL_LOST_CNT = min (d.get FAIL_LOST_CNT + 1) (2 ^ 32 - 1)
    let free := d.stalled a 32 = false ∧ (d.fail.carried.find? fun x => x.1 == it.ch && x.2.1 == it.src) = none
    let full := (w + 1) % 262144 = d.get FAIL_RRD_IDX
    let r := d.get FAIL_RRD_IDX
    let dst := d1.get FAIL_SBASE_ADDR + 32 * d1.get FAIL_SWR_IDX
    let empty := d.failOcc = 0 ∧ d.spillOcc = 0
    let cmd := Granted s m 1 (devAddr 0xE0000)
    (d.fail.queue = it :: rest → free → d.on FAIL_CTL_EN = true → ¬ full → BankOpen d 32 5 a 32 tb → Answers .failRecordWrite s fun e => took e ∧
        e.get FAIL_RWR_IDX = (w + 1) % 262144 ∧ memRead e.mem a 32 = ofBytes (it.bytes.take 28 ++ toBytes 4 (d.get FAIL_SEQ_SEQ)) % 2 ^ 256 ∧
        KeepsOutside a 32 d e ∧ e.get FAIL_LOST_CNT = d.get FAIL_LOST_CNT) ∧
      (d.fail.queue = it :: rest → free → d.on FAIL_CTL_EN = true → full → Answers .failRecordWrite s fun e => lost e ∧ e.on FAIL_STAT_RING_FULL = true ∧
        (d.fail.dropped = false → e.on (EVT_SRC_PENDING 177) = true)) ∧
      (d.fail.queue = it :: rest → free → d.on FAIL_CTL_EN = false → Answers .failRecordWrite s lost) ∧
      (d.fail.queue = [] → Answers .failRecordWrite s fun e => e.fail = d.fail ∧ e.regs = d.regs ∧ UnitsKept d e) ∧
      (d.on FAIL_CTL_SPILL = true → d.spillSize ≠ 0 → d.failOcc = 1 → d.fail.waiting = [t] → t + 1000 * usLen ≤ d.dt → d.fail.stopped = false → d.spillOcc + 1 ≠ d.spillSize →
        d.readMem 32 4 (0x3000000 + 32 * r) 32 = (d1, ⟨v, 0⟩) → d1.writeMem 32 5 dst 32 v false = (d2, ⟨0, 0⟩) → Answers .failSpillMove s fun e =>
          e.get FAIL_RRD_IDX = (r + 1) % 262144 ∧ e.get FAIL_SWR_IDX = (d.get FAIL_SWR_IDX + 1) % d.spillSize ∧ e.fail.waiting = [] ∧ e.mem = d2.mem ∧ e.ch = d.ch ∧
          ∀ k c, e.thread k c = d.thread k c) ∧
      ((d.on FAIL_CTL_SPILL = false ∨ d.spillSize = 0) → Answers .failSpillMove s fun e => e.regs = d.regs ∧ UnitsKept d e) ∧
      (cmd → empty → (on_ = true → d.spillSize ≠ 0) → Answers (.failSpillModeWrite m on_) s fun e => e.on FAIL_CTL_SPILL = on_ ∧ e.fail = { d.fail with stopped := false } ∧
        e.get FAIL_CTL_EN = d.get FAIL_CTL_EN % 2 ∧ RegsKept [FAIL_CTL_SPILL, FAIL_CTL_EN, FAIL_CTL_CNT_EN] d e ∧ UnitsKept d e) ∧
      (cmd → (¬ empty ∨ (on_ = true ∧ d.spillSize = 0)) → Answers (.failSpillModeWrite m on_) s fun e => e.on FAIL_CTL_SPILL = d.on FAIL_CTL_SPILL ∧
        e.fail = { d.fail with stopped := false } ∧ UnitsKept d e)

/-- Arming, disarming and forcing a capture by register, and its triggers, samples and hold-off (R272, R276, R277, R279, R282 to R284): the arm code, the reservation of an accepted trigger, a full ring, the pre-trigger buffer, a stored post sample and the re-arm. -/
def Obligations.Captures : Prop :=
  ∀ (s : State) (m k c i tb g : Nat) (o : Nat × Bool) (ws : List Nat) (d1 : Device), k < 16 → c < 64 →
    let n := 64 * k + c
    let d := s.dev
    let u := d.capt n
    let code := (d.capArm n (i % 256)).2
    let told := fun (off : Nat) (e : Device) => e.resp = [⟨m, capAddr n off, [], 0⟩]
    let rest := fun e : Device => e.ch = d.ch ∧ (∀ j b, e.thread j b = d.thread j b) ∧ ∀ j, j < 1024 → j ≠ n → (e.capt j).regs = (d.capt j).regs
    let same := fun e : Device => (e.capt n).regs = u.regs ∧ (e.capt n).samples = u.samples ∧ e.mem = d.mem ∧ rest e
    let half := (d.chip (n / 128)).half
    let p := max 1 (u.period half)
    let due := s.powered ∧ u.state = 1 ∧ earliest (u.offers.filter fun x => decide (u.armDt ≤ x.1)) = some o ∧ o.1 + usLen ≤ d.dt ∧ u.indexOf (u.period half) o.1 = some i
    let ring := d.capRing k u.spill
    let need := 256 + u.post * u.ssize
    let a := g + u.next * p
    let ripe := s.powered ∧ u.grid = some g ∧ a + p + usLen ≤ d.dt
    let v := sampleWord false u.avgN a (a + p) false u.conv
    let at_ := ring.1 + (u.ofs + 256 + (u.npre + u.npost) * 8) % max 1 ring.2.1
    (Granted s m 1 (capAddr n 0) → Answers (.capArmWrite m n i) s fun e => (e.capt n).get CAP_ERR_CODE = code % 8 ∧
        (code = 0 → (e.capt n).state = 1 ∧ (e.capt n).get CAP_STAT_DESC = i % 256 ∧ (e.capt n).get CAP_NCAP_CNT = 0 ∧ (e.capt n).armDt = d.dt ∧ (e.capt n).capseq = u.capseq) ∧
        (code ≠ 0 → (e.capt n).state = u.state ∧ (e.capt n).desc = u.desc) ∧ (code = 2 → (e.clus k).on CAP_CAUSE_NOSPACE = true) ∧
        (d.readWords (16 + k) 0 4 16 (targetBase k + (d.clus k).get CAP_DBASE_BASE + 64 * (i % 256)) = (d1, ws, 0) → ({ u with desc := ws } : CapCh).badDesc = true →
          (e.capt n).get CAP_ERR_CODE = 1) ∧ e.mem = d.mem ∧ rest e ∧ told 0 e) ∧
      (Granted s m 1 (capAddr n 0) → Answers (.capDisarmWrite m n) s fun e => (e.capt n).state = 0 ∧ (e.capt n).offers = [] ∧ (e.capt n).trig = none ∧
        (u.state ≠ 2 → (e.capt n).capseq = u.capseq ∧ e.mem = d.mem) ∧ (u.state = 2 → (e.capt n).capseq = (u.capseq + 1) % 2 ^ 32) ∧ rest e ∧ told 0 e) ∧
      (Granted s m 1 (capAddr n 0x10) → u.on CAP_FORCE_TRIG = false → Answers (.capForce m n) s fun e => (e.capt n).on CAP_FORCE_TRIG = true ∧ (e.capt n).state = u.state ∧
        (u.state ≠ 0 → (d.dt, false) ∈ (e.capt n).offers) ∧ (u.state = 0 → (e.capt n).offers = u.offers) ∧ e.mem = d.mem ∧ rest e ∧ told 0x10 e) ∧
      (due → u.skip = 0 → u.spill = false → u.samples = [] → u.bcnout = false → ring.2.1 ≠ 0 → need ≤ ringRoom ring.2.1 ring.2.2.1 ring.2.2.2 →
        Answers (.captureTrigger n) s fun e => (e.capt n).state = 2 ∧ (e.capt n).trig = some (o.1, o.2, (d.chan n).get CH_STEPIDX_IDX) ∧ (e.capt n).t0 = i ∧
          (e.capt n).npre = 0 ∧ (e.capt n).npost = 0 ∧ (e.capt n).ofs = ring.2.2.1 ∧ (e.capt n).len = need ∧ (e.clus k).get CAP_RWR_OFS = (ring.2.2.1 + need) % ring.2.1 % 2 ^ 32 ∧
          rest e) ∧
      (due → u.skip = 0 → u.spill = false → u.samples = [] → ring.2.1 ≠ 0 → ringRoom ring.2.1 ring.2.2.1 ring.2.2.2 < need → Answers (.captureTrigger n) s fun e =>
        (e.capt n).state = 1 ∧ (e.clus k).get CAP_CNT_RINGFULL = min ((d.clus k).get CAP_CNT_RINGFULL + 1) (2 ^ 16 - 1) ∧ (e.clus k).on CAP_CAUSE_RINGFULL = true ∧
        (e.clus k).on CAP_CAUSE_MISSED = true ∧ (e.clus k).get CAP_RWR_OFS = (d.clus k).get CAP_RWR_OFS ∧ e.mem = d.mem ∧ rest e) ∧
      (due → 0 < u.skip → Answers (.captureTrigger n) s fun e => (e.capt n).skip = u.skip - 1 ∧ (e.capt n).state = 1 ∧ e.mem = d.mem ∧ rest e) ∧
      (s.powered → u.state = 0 → Answers (.captureTrigger n) s same) ∧
      (ripe → u.state = 1 → u.sel = 1 → u.pre = 0 → u.tsrc ≠ 6 → u.bufFrom ≤ a → (u.offers.any fun x => decide (u.armDt ≤ x.1) && decide (g ≤ x.1) && decide (x.1 + usLen ≤ d.dt)) = false →
        Answers (.captureSample n) s fun e => (e.capt n).next = u.next + 1 ∧ (e.capt n).samples = [(u.next, v, 0)] ∧ (e.capt n).regs = u.regs ∧ e.mem = d.mem ∧ rest e) ∧
      (ripe → u.state = 2 → u.sel = 1 → u.spill = false → u.maskOn = false → u.tsrc ≠ 6 → bit u.flags 2 = false → bit u.flags 10 = false → (d.clus k).stage = [] → u.t0 ≤ u.next →
        u.npost + 1 < u.post → u.npost + 1 < u.room → BankOpen d (16 + k) 1 at_ 8 tb → Answers (.captureSample n) s fun e => (e.capt n).next = u.next + 1 ∧
          (e.capt n).npost = u.npost + 1 ∧ (e.capt n).state = 2 ∧ memRead e.mem at_ 8 = v ∧ KeepsOutside at_ 8 d e ∧ rest e) ∧
      (s.powered → (u.grid = none ∨ u.state = 0 ∨ (u.grid = some g ∧ d.dt < a + p + usLen)) → Answers (.captureSample n) s same) ∧
      (s.powered → u.state = 4 → u.armDt ≤ d.dt → Answers (.captureHoldoffEnd n) s fun e => (e.capt n).state = 1 ∧ (e.capt n).samples = [] ∧ (e.capt n).armDt = u.armDt ∧
        e.mem = d.mem ∧ rest e) ∧
      (s.powered → (u.state ≠ 4 ∨ d.dt < u.armDt) → Answers (.captureHoldoffEnd n) s same)

/-- The stream unit (R294 to R304, R308): a slot plays the next sample, or begins an underrun, or ends the step; a resume records the slip, or catches up without one; a wait ends at its origin; entries are read ahead; CH_STWR, JUMP and GO. -/
def Obligations.Streams : Prop :=
  ∀ (s : State) (m n tb b0 w v seg h a i : Nat) (passEnd pe : Bool) (p : SegPos) (y : Int) (d1 : Device), n < 1024 → v < 2 ^ 32 →
    let d := s.dev
    let x := d.chan n
    let z := x.stream
    let rest := fun e : Device => e.mem = d.mem ∧ (∀ j, j ≠ n → e.chan j = d.chan j) ∧ ∀ k c, e.thread k c = d.thread k c
    let same := fun e : Device => e.chan n = x ∧ rest e ∧ e.regs = d.regs
    let told := fun (off : Nat) (e : Device) => e.resp = [⟨m, chAddr n off, [], 0⟩]
    let live := s.powered ∧ x.on CH_RSTAT_ENDED = false ∧ x.running = true ∧ z.play = true
    let b := z.origin + z.slot * x.streamT
    let slot := live ∧ z.under = none ∧ z.wait = none ∧ z.jump = none ∧ b ≤ d.dt
    let ends := fun e : Device => (e.chan n).on CH_RSTAT_ENDED = true ∧ (e.chan n).get CH_RSTAT_CAUSE = 13 ∧ (e.chan n).get CH_ENDDT_DT = boundaryAt b % 2 ^ 64 ∧
      (e.chan n).running = false ∧ e.on (EVT_SRC_PENDING (n / 8)) = true ∧ rest e
    let plays := fun (at_ : Nat) (e : Device) => (e.chan n).stream.cur = y ∧ (e.chan n).stream.at_ = at_ ∧ (e.chan n).stream.pos = some p ∧
      (e.chan n).get CH_STRD_IDX = p.rd % 2 ^ 32 ∧ (e.chan n).get CH_STRET_IDX = p.ret % 2 ^ 32 ∧ (e.chan n).on CH_STSTAT_UNDERRUN = false ∧
      (e.chan n).on CH_STSTAT_WAITING = false ∧ (e.chan n).stream.under = none ∧ (e.chan n).running = true ∧ rest e
    let late := live ∧ z.under = some b0 ∧ z.jump = none ∧ d.dt % frameLen = 0
    let start := d.modChan n (Chan.beginAt h w true)
    let rd := x.get CH_STRD_IDX
    let back := 2 ^ 31 ≤ ahead (x.get CH_STWR_IDX) v ∨ x.ringLen < ahead (x.get CH_STRET_IDX) v
    let wr := Granted s m 1 (chAddr n 0x5A0) ∧ x.on CH_RSTAT_ENDED = false
    let cmd := Granted s m 1 (chAddr n 0x5AC)
    (slot → d.natural n z.pos b = (d1, .sample p y) → Answers (.streamSlot n) s fun e => plays b e ∧ (e.chan n).stream.slot = z.slot + 1 ∧
        (e.chan n).get CH_STPOS_SEGNO = p.segno % 256) ∧
      (slot → d.natural n z.pos b = (d1, .absent) → Answers (.streamSlot n) s fun e => (e.chan n).on CH_STSTAT_UNDERRUN = true ∧ (e.chan n).on CH_STSTAT_URF = true ∧
        (e.chan n).get CH_STURDT_DT = b % 2 ^ 64 ∧ (e.chan n).stream.under = some b ∧ (e.chan n).get CH_STCNT_UNDERRUNS = min (x.get CH_STCNT_UNDERRUNS + 1) (2 ^ 16 - 1) ∧
        (x.on CH_STCFG_POLICY = true → (e.chan n).stream.level = sgn 32 (x.get CH_STSAFE_LEVEL)) ∧ (x.on CH_STCFG_UREVT = true → e.on (EVT_SRC_PENDING (n / 8)) = true) ∧
        (e.chan n).running = true ∧ rest e) ∧
      (slot → d.natural n z.pos b = (d1, .last) → Answers (.streamSlot n) s ends) ∧
      (slot → d.natural n z.pos b = (d1, .failed) → Answers (.streamSlot n) s fun e => ends e ∧ (e.chan n).on CH_STSTAT_RDERR = true) ∧
      (slot → d.natural n z.pos b = (d1, .bad) → Answers (.streamSlot n) s fun e => ends e ∧ (e.chan n).on CH_STSTAT_FMTERR = true) ∧
      (slot → d.natural n z.pos b = (d1, .wait i) → Answers (.streamSlot n) s fun e => (e.chan n).on CH_STSTAT_WAITING = true ∧ (e.chan n).stream.wait = some (i, b) ∧
        (e.chan n).get CH_STRD_IDX = i % 2 ^ 32 ∧ (e.chan n).get CH_STRET_IDX = i % 2 ^ 32 ∧ (e.chan n).running = true ∧ rest e) ∧
      (live → d.dt < b → Answers (.streamSlot n) s same) ∧
      (late → x.on CH_STCFG_CATCHUP = false → d.natural n z.pos d.dt = (d1, .sample p y) → Answers (.streamResume n) s fun e => plays d.dt e ∧
        (e.chan n).get CH_STLSLIP_TICKS = (d.dt - b0) / 128 % 2 ^ 64 ∧ (e.chan n).get CH_STSLIP_TICKS = (x.get CH_STSLIP_TICKS + (d.dt - b0) / 128) % 2 ^ 64 ∧
        (e.chan n).stream.origin = z.origin + (d.dt - b0) ∧ (e.chan n).stream.slot = z.slot + 1) ∧
      (late → x.on CH_STCFG_CATCHUP = true → (d.dt - z.origin) / x.streamT = z.slot → d.natural n z.pos d.dt = (d1, .sample p y) → Answers (.streamResume n) s fun e => plays b e ∧
        (e.chan n).get CH_STSLIP_TICKS = x.get CH_STSLIP_TICKS ∧ (e.chan n).get CH_STSKIP_CNT = x.get CH_STSKIP_CNT ∧ (e.chan n).stream.slot = z.slot + 1) ∧
      (late → x.on CH_STCFG_CATCHUP = false → d.natural n z.pos d.dt = (d1, .absent) → Answers (.streamResume n) s same) ∧
      (live → z.wait = some (h, a) → z.jump = none → z.go = some w → w ≤ d.dt → start.enter n h w true = (d1, .sample p y) → Answers (.streamWaitEnd n) s fun e => plays w e ∧
        (e.chan n).stream.origin = w ∧ (e.chan n).stream.slot = 1 ∧ (e.chan n).stream.wait = none) ∧
      (live → z.wait = some (h, a) → z.jump = none → z.go = some w → d.dt < w → Answers (.streamWaitEnd n) s same) ∧
      (live → z.wait = some (h, a) → z.go = none → z.jump = some (seg, pe, b0) → boundaryAt (b0 + usLen) ≤ d.dt → d.jumpTarget n seg (boundaryAt (b0 + usLen)) = none →
        Answers (.streamWaitEnd n) s fun e => (e.chan n).on CH_STSTAT_JMISS = true ∧ (e.chan n).on CH_STSTAT_JPEND = false ∧ (e.chan n).stream.wait = some (h, a) ∧
          (e.chan n).stream.jump = none ∧ rest e) ∧
      (s.powered → z.play = true → z.read = [] → x.present rd d.dt = true → BankOpen d (n / 64) 0 (d.ringAddr n rd) 8 tb → Answers (.streamRingRead n) s fun e =>
        (e.chan n).stream.read = [(rd, some (memRead d.mem (d.ringAddr n rd) 8))] ∧ (e.chan n).regs = x.regs ∧ rest e) ∧
      (s.powered → z.play = false → Answers (.streamRingRead n) s same) ∧
      (wr → ¬ back → Answers (.stwrWrite m n v) s fun e => (e.chan n).get CH_STWR_IDX = v ∧ (e.chan n).stream.wrs.head? = some (v, d.dt) ∧
        (e.chan n).on CH_STSTAT_WRERR = x.on CH_STSTAT_WRERR ∧ (e.chan n).get CH_STRD_IDX = rd ∧ rest e ∧ told 0x5A0 e) ∧
      (wr → back → Answers (.stwrWrite m n v) s fun e => (e.chan n).on CH_STSTAT_WRERR = true ∧ (e.chan n).get CH_STWR_IDX = x.get CH_STWR_IDX ∧ rest e ∧ e.regs = d.regs ∧ told 0x5A0 e) ∧
      (cmd → z.play = true → Answers (.stcmdJump m n seg passEnd) s fun e => (e.chan n).on CH_STSTAT_JPEND = true ∧ (e.chan n).stream.jump = some (seg % 256, passEnd, d.dt) ∧
        rest e ∧ e.regs = d.regs ∧ told 0x5AC e) ∧
      (cmd → z.play = false → Answers (.stcmdJump m n seg passEnd) s fun e => same e ∧ told 0x5AC e) ∧
      (cmd → Answers (.stcmdGo m n) s fun e => (e.chan n).stream.go = (if d.waitsFor n 0 0 d.dt then some (boundaryAt d.dt + x.deskew) else z.go) ∧ (e.chan n).regs = x.regs ∧
        rest e ∧ e.regs = d.regs ∧ told 0x5AC e)

/-- Banks, their background test and the regions (R346 to R356, R360): what a slot answers and stores, writes before reads, collisions, errors of one and of two bits; a borrowed slice, skipped pinned slices and the end of a pass; a region write that counts 1 µs later. -/
def Obligations.Banks : Prop :=
  ∀ (s : State) (m b u v mast t i a_ bit_ : Nat) (hi cut : Bool) (r1 r2 : BankReq), s.powered → b < 20 → v < 2 ^ 32 →
    let d := s.dev
    let a := r1.addr
    let n := r1.size
    let both := r2.addr = a ∧ r2.size = n ∧ r1.ecc = 0 ∧ r2.ecc = 0 ∧ n ≠ 0
    let opened := fun (r : BankReq) => BankOpen d r.master r.kind r.addr r.size b
    let cnt := fun (f : Fld) (e : Device) => e.get f = min (d.get f + 1) (2 ^ f.width - 1)
    let quiet := fun e : Device => e.ch = d.ch ∧ ∀ k c, e.thread k c = d.thread k c
    let slice := d.btNext
    let seeks := d.on MEM_CTL_BT_EN = true ∧ d.on MEM_BTSTAT_BORROWED = false ∧ d.btAt + max 1 (d.get MEM_BTCFG_GAP) * usLen ≤ d.dt ∧ slice < 16384
    let open_ := fun x => bit (d.get MEM_BTMASK_BANKS) (bankOf (x * 4096)) = true
    let cur := d.get MEM_BTCUR_SLICE
    let sound := d.on MEM_BTSTAT_BORROWED = true ∧ ∀ x ∈ d.bad, x / 4096 ≠ cur
    let back := fun e : Device => e.on MEM_BTSTAT_BORROWED = false ∧ e.btAt = d.dt ∧ UnitsKept d e
    let adr := devAddr (0xC2000 + 1408 * mast + 64 * t + 8 * i + 4 * b2n hi)
    (r1.kind = 0 → r1.ecc = 0 → opened r1 → Answers (.bankAccess b [r1]) s fun e => e.resp = [⟨r1.master, a, [memRead d.mem a n], 0⟩] ∧ e.mem = d.mem ∧ quiet e) ∧
      (r1.kind = 0 → r1.ecc = 1 → n ≤ 8 → a % 8 + n ≤ 8 → opened r1 → d.soft = [] → Answers (.bankAccess b [r1]) s fun e =>
        e.resp = [⟨r1.master, a, [memRead d.mem a n], 0⟩] ∧ cnt (MEM_ECCCNT_CE b) e ∧ (d.on MEM_ECCSTAT_CE = false → e.on MEM_ECCSTAT_CE = true ∧ e.on (EVT_SRC_PENDING 192) = true) ∧
        (d.on MEM_CTL_SCRUBWB = true → a / 8 * 8 ∈ e.wback) ∧ e.mem = d.mem ∧ quiet e) ∧
      (r1.kind = 0 → r1.ecc = 2 → n ≤ 8 → a % 8 + n ≤ 8 → opened r1 → Answers (.bankAccess b [r1]) s fun e =>
        e.resp = [⟨r1.master, a, [0], 2⟩] ∧ cnt (MEM_ECCCNT_UE b) e ∧ e.on MEM_ECCSTAT_UE = true ∧ e.on (EVT_SRC_PENDING 193) = true ∧
        (d.on MEM_UEADDR_VALID = false → e.get MEM_UEADDR_MASTER = r1.master % 64 ∧ e.get MEM_UEADDR_ADDR = a / 8 * 8 % 2 ^ 40) ∧ e.mem = d.mem ∧ quiet e) ∧
      (r1.kind = 1 → r2.kind = 0 → both → opened r1 → opened r2 → Answers (.bankAccess b [r2, r1]) s fun e =>
        e.resp = [⟨r1.master, a, [0], 0⟩, ⟨r2.master, a, [r1.value % 2 ^ (8 * n)], 0⟩] ∧ memRead e.mem a n = r1.value % 2 ^ (8 * n) ∧ KeepsOutside a n d e ∧
        e.get (MEM_COLLIDE_CNT b) = d.get (MEM_COLLIDE_CNT b) ∧ quiet e) ∧
      (r1.kind = 1 → r2.kind = 1 → both → opened r1 → opened r2 → reqRank b r1 < reqRank b r2 → Answers (.bankAccess b [r2, r1]) s fun e => cnt (MEM_COLLIDE_CNT b) e ∧
        memRead e.mem a n = r2.value % 2 ^ (8 * n) ∧ KeepsOutside a n d e ∧ e.resp.map (·.err) = [0, 0] ∧ quiet e) ∧
      (r1.kind = 1 → r1.ecc = 0 → targetOf a = some b → d.allowed r1.master b 1 (a / 4096) false = false → Answers (.bankAccess b [r1]) s fun e =>
        e.resp = [⟨r1.master, a, [0], 1⟩] ∧ cnt MEM_AECNT_CNT e ∧ e.on (EVT_SRC_PENDING 195) = true ∧ e.mem = d.mem ∧ quiet e) ∧
      (d.wback.find? (fun x => bankOf x == b) = some u → Answers (.eccWriteback b) s fun e => u ∉ e.wback ∧ (∀ x ∈ e.soft, x.1 ≠ u) ∧ e.bad = d.bad ∧ e.regs = d.regs ∧ UnitsKept d e) ∧
      (d.wback.find? (fun x => bankOf x == b) = none → Answers (.eccWriteback b) s fun e => e.wback = d.wback ∧ e.soft = d.soft ∧ e.regs = d.regs ∧ UnitsKept d e) ∧
      (seeks → open_ slice → d.pinned slice = false → Answers .btBorrow s fun e => e.on MEM_BTSTAT_BORROWED = true ∧ e.get MEM_BTCUR_SLICE = slice ∧
        RegsOnly [MEM_BTSTAT_BORROWED, MEM_BTCUR_SLICE] d e) ∧
      (seeks → slice + 1 < 16384 → open_ slice → d.pinned slice = true → open_ (slice + 1) → d.pinned (slice + 1) = false → Answers .btBorrow s fun e => e.on MEM_BTSTAT_BORROWED = true ∧
        e.get MEM_BTCUR_SLICE = slice + 1 ∧ e.btSkipped = countAt (bankOf (slice * 4096)) d.btSkipped ∧ UnitsKept d e) ∧
      ((d.on MEM_CTL_BT_EN = false ∨ d.on MEM_BTSTAT_BORROWED = true ∨ d.dt < d.btAt + max 1 (d.get MEM_BTCFG_GAP) * usLen) → Answers .btBorrow s fun e => e.regs = d.regs ∧ UnitsKept d e) ∧
      (sound → cur + 1 ≠ 16384 → Answers (.btReturn none false) s fun e => back e ∧ e.btNext = cur + 1 ∧ e.btTested = countAt (bankOf (cur * 4096)) d.btTested ∧
        RegsOnly [MEM_BTSTAT_BORROWED] d e) ∧
      (sound → cur + 1 = 16384 → Answers (.btReturn none false) s fun e => back e ∧ e.btNext = 0 ∧ e.btTested = [] ∧ e.get MEM_BTSTAT_PASSES = (d.get MEM_BTSTAT_PASSES + 1) % 2 ^ 16 ∧
        e.on (EVT_SRC_PENDING 197) = true) ∧
      (sound → cur + 1 ≠ 16384 → Answers (.btReturn (some (a_, bit_)) false) s fun e => back e ∧ e.on MEM_BTSTAT_FAULT = true ∧ e.on (EVT_SRC_PENDING 196) = true ∧
        (d.on MEM_BTFADDR_VALID = false → e.get MEM_BTFADDR_ADDR = a_ % 2 ^ 40 ∧ e.get MEM_BTFADDR_BIT = bit_ % 2 ^ 7)) ∧
      (sound → cur + 1 ≠ 16384 → Answers (.btReturn none true) s fun e => back e ∧ e.on MEM_BTSTAT_ABORT = true ∧ e.on (EVT_SRC_PENDING 198) = true ∧ e.btTested = d.btTested) ∧
      (d.on MEM_BTSTAT_BORROWED = true → (∃ x ∈ d.bad, x / 4096 = cur) → cur + 1 ≠ 16384 → Answers (.btReturn none cut) s fun e => back e ∧ e.on MEM_ECCSTAT_UE = true ∧
        e.on (EVT_SRC_PENDING 193) = true ∧ e.btTested = d.btTested) ∧
      (Granted s m 1 adr → mast < 38 → t < 22 → i < 8 → d.fixedRegion mast t i = none → Answers (.regionWrite m mast t i hi v) s fun e => e.resp = [⟨m, adr, [], 0⟩] ∧
        (hi = true → e.get (MEM_RHI_LIMIT mast t i) = if d.on DEV_CTL_LOCK then d.get (MEM_RHI_LIMIT mast t i) else v % 2 ^ 28) ∧
        (hi = false → e.get (MEM_RLO_BASE mast t i) = if d.on DEV_CTL_LOCK then d.get (MEM_RLO_BASE mast t i) else v % 2 ^ 28) ∧
        e.region mast t i = d.region mast t i ∧ UnitsKept d e) ∧
      (Granted s m 1 adr → mast < 38 → t < 22 → i < 8 → d.fixedRegion mast t i ≠ none → Answers (.regionWrite m mast t i hi v) s fun e => e.regs = d.regs ∧
        e.regWait = d.regWait ∧ UnitsKept d e ∧ e.resp = [⟨m, adr, [], 0⟩])

/-- The DDR5 controller (R361 to R363, R366, R369 to R373, R377 to R379): training, the order of a command slot, owed refreshes and their rate, activate counts, patrol and self-refresh. -/
def Obligations.Ddr5 : Prop :=
  ∀ (s : State) (x r u code n err arr i : Nat) (q : DReq) (act : Nat × Nat × Nat) (acts debts : List (Nat × Nat × Nat)) (ranks2 dens32 drfm : Bool), s.powered → x < 2 → r < 4 →
    let d := s.dev
    let c := d.ddrCh x
    let cnt := fun (f : Fld) (e : Device) => e.get f = min (d.get f + 1) (2 ^ f.width - 1)
    let same := fun e : Device => e.ddr = d.ddr ∧ e.regs = d.regs ∧ UnitsKept d e
    let live := d.ddrHas x = true ∧ d.on (DDR_CHSTAT_SR x) = false
    let ranked := d.ddrRanks.contains r = true
    let unit := u ∈ d.refreshUnits
    let hot := d.get DDR_REFCFG_RRTHR ≤ code % 8
    let doubled := d.on (DDR_RKSTAT_DOUBLED x r)
    let cap := d.get DDR_STAT_CAPGIB * 2 ^ 30
    let stop := min cap (d.ddr.patrol + 64 * n)
    let ripe := d.ddrHas x = true ∧ d.on DDR_CTL_SR_EN = true ∧ d.on (DDR_CHSTAT_SR x) = false ∧ c.queue = [] ∧ c.emptyAt + d.get DDR_PWRCFG_IDLEUS * usLen ≤ d.dt
    let untrained := d.on DDR_STAT_AVAIL = false ∧ d.get SEC_BOOT_STATE ≠ 15
    let train := Instr.ddrTrainingDone err arr ranks2 dens32 drfm
    (untrained → err = 0 → 1 ≤ arr → arr ≤ 3 → ¬ (ranks2 = true ∧ dens32 = true) → Answers train s fun e => e.on DDR_STAT_AVAIL = true ∧ e.get DDR_STAT_ARR = arr ∧
        e.get DDR_STAT_CAPGIB = (if arr = 3 then 4 else arr) * 32 * (if ranks2 then 2 else 1) * (if dens32 then 2 else 1) ∧ e.get DDR_STAT_SPEED = (if arr = 3 then 1 else 2) ∧
        e.on (DDR_CHSTAT_TRAINED 0) = true ∧ (2 ≤ arr → e.on (DDR_CHSTAT_TRAINED 1) = true) ∧ e.on (DDR_CHSTAT_ALLBANK 0) = decide (arr = 3) ∧ e.on (EVT_SRC_PENDING 207) = true ∧
        e.ddr.ranks2 = ranks2 ∧ e.ddr.dens32 = dens32 ∧ UnitsKept d e) ∧
      (untrained → err % 16 ≠ 0 → Answers train s fun e => e.on DDR_STAT_AVAIL = false ∧ e.get DDR_STAT_ERR = err % 16 ∧ e.on (EVT_SRC_PENDING 208) = true ∧ e.ddr = d.ddr ∧ UnitsKept d e) ∧
      (d.on DDR_STAT_AVAIL = true → Answers train s same) ∧
      (live → d.mustRefresh x = some (r, u) → Answers (.ddrCommandSlot x) s fun e => (e.ddrCh x).debtOf r u = c.debtOf r u - 1 ∧ cnt (DDR_REFFORCE_CNT x) e ∧
        (d.get (DDR_REFFORCE_CNT x) = 0 → e.on (EVT_SRC_PENDING 206) = true) ∧ (e.ddrCh x).queue = c.queue ∧ UnitsKept d e) ∧
      (live → d.mustRefresh x = none → c.acts = act :: acts → d.on (DDR_CHSTAT_DRFM x) = true → d.on DDR_RHCFG_NODRFM = false → Answers (.ddrCommandSlot x) s fun e =>
        (e.ddrCh x).acts = acts ∧ cnt (DDR_RHCNT_DRFM x) e ∧ (c.rhSeen = false → e.on (EVT_SRC_PENDING 203) = true) ∧ (e.ddrCh x).queue = c.queue ∧ UnitsKept d e) ∧
      (live → d.mustRefresh x = none → c.acts = act :: acts → (d.on (DDR_CHSTAT_DRFM x) = false ∨ d.on DDR_RHCFG_NODRFM = true) → Answers (.ddrCommandSlot x) s fun e =>
        cnt (DDR_RHCNT_NBR x) e ∧ (c.rhSeen = false → e.on (EVT_SRC_PENDING 203) = true) ∧ (e.ddrCh x).queue = c.queue ∧ UnitsKept d e) ∧
      (live → d.mustRefresh x = none → c.acts = [] → d.pick x = some (i, q) → Answers (.ddrCommandSlot x) s fun e =>
        (e.ddrCh x).queue = (c.queue.take i).map (fun y => { y with bypassed := y.bypassed + 1 }) ++ c.queue.drop (i + 1) ∧
        ((d.ddrLoc q.line).rank, (d.ddrLoc q.line).bank, (d.ddrLoc q.line).row) ∈ (e.ddrCh x).open_ ∧ (e.ddrCh x).debt = c.debt ∧ UnitsKept d e) ∧
      (live → d.mustRefresh x = none → c.acts = [] → d.pick x = none → c.debt = (r, u, n) :: debts → Answers (.ddrCommandSlot x) s fun e =>
        (e.ddrCh x).debtOf r u = n - 1 ∧ e.get (DDR_REFFORCE_CNT x) = d.get (DDR_REFFORCE_CNT x) ∧ UnitsKept d e) ∧
      ((d.ddrHas x = false ∨ d.on (DDR_CHSTAT_SR x) = true) → Answers (.ddrCommandSlot x) s same ∧ Answers (.ddrRefreshInterval x r) s same) ∧
      (live → ranked → unit → Answers (.ddrRefreshInterval x r) s fun e =>
        (e.ddrCh x).debtOf r u = (if d.debtLimit x r ≤ c.debtOf r u then c.debtOf r u - 1 + 1 else c.debtOf r u + 1) ∧ (e.ddrCh x).queue = c.queue ∧ UnitsKept d e) ∧
      (d.ddrHas x = true → ranked → hot → doubled = false → unit → Answers (.ddrMr4Poll x r code) s fun e => e.on (DDR_RKSTAT_DOUBLED x r) = true ∧
        e.get (DDR_RKSTAT_RRCODE x r) = code % 8 ∧ (e.ddrCh x).debtOf r u = min 8 (2 * c.debtOf r u) ∧ e.on (EVT_SRC_PENDING 204) = true ∧ UnitsKept d e) ∧
      (d.ddrHas x = true → ranked → ¬ hot → doubled = true → unit → Answers (.ddrMr4Poll x r code) s fun e => e.on (DDR_RKSTAT_DOUBLED x r) = false ∧
        (e.ddrCh x).debtOf r u = (c.debtOf r u + 1) / 2 ∧ e.on (EVT_SRC_PENDING 205) = true ∧ UnitsKept d e) ∧
      (d.ddrHas x = true → ranked → (hot ↔ doubled = true) → Answers (.ddrMr4Poll x r code) s fun e => e.ddr = d.ddr ∧ e.get (DDR_RKSTAT_RRCODE x r) = code % 8 ∧
        RegsOnly [DDR_RKSTAT_RRCODE x r] d e) ∧
      (8192 ≤ ((c.ivals.find? fun e => e.1 == r).map (·.2)).getD 0 → Answers (.ddrRhTableClear x r) s fun e => (e.ddrCh x).rh = c.rh.filter (fun y => y.rank != r) ∧
        (e.ddrCh x).rhSeen = false ∧ (e.ddrCh x).debt = c.debt ∧ e.regs = d.regs ∧ UnitsKept d e) ∧
      (((c.ivals.find? fun e => e.1 == r).map (·.2)).getD 0 < 8192 → Answers (.ddrRhTableClear x r) s same) ∧
      (d.on DDR_CTL_SCRUB_EN = true → d.on DDR_STAT_AVAIL = true → (d.ddrCh 0).queue = [] → (d.ddrCh 1).queue = [] → (∀ y ∈ d.soft, y.1 < 0x1000000000) → (∀ y ∈ d.bad, y < 0x1000000000) →
        Answers (.ddrPatrolScrub n) s fun e => e.ddr.patrol = (if stop = cap then 0 else stop) ∧ (stop = cap → e.on (EVT_SRC_PENDING 209) = true) ∧ RegsOnly [] d e) ∧
      ((d.on DDR_CTL_SCRUB_EN = false ∨ d.on DDR_STAT_AVAIL = false) → Answers (.ddrPatrolScrub n) s same) ∧
      (ripe → c.debt = [] → Answers (.ddrSrEntry x) s fun e => e.on (DDR_CHSTAT_SR x) = true ∧ cnt (DDR_SRCNT_ENTRY x) e ∧ (e.ddrCh x).open_ = [] ∧ UnitsKept d e) ∧
      (ripe → c.debt ≠ [] → c.entering = false → Answers (.ddrSrEntry x) s fun e => (e.ddrCh x).entering = true ∧ e.regs = d.regs ∧ UnitsKept d e) ∧
      (c.queue ≠ [] → Answers (.ddrSrEntry x) s same) ∧
      (c.queue ≠ [] → Answers (.ddrSrExit x) s fun e => e.on (DDR_CHSTAT_SR x) = false ∧ e.ddr = d.ddr ∧ RegsOnly [DDR_CHSTAT_SR x] d e) ∧
      (c.queue = [] → Answers (.ddrSrExit x) s same)

/-- LAP requests (R295, R390 to R395): in SEQ order, once each, answered by the numbered messages that leave; READ, WRITE, BULK and STREAM over the banks; a register READ; the NAKs; a request held until the gap fills; a duplicate; the discards; a clear READ of DEV_ID. -/
def Obligations.LapRequests : Prop :=
  ∀ (s : State) (p sid seq ack addr count len lcn first i : Nat) (data es : List Nat) (ms : List LMsg), s.served → s.dev.portOn p = true →
    let d := s.dev
    let x := d.sessOf i
    let known := sid ≠ 0 ∧ d.findSess sid = some i
    let next := known ∧ seq = x.rx + 1 ∧ x.held = [] ∧ x.unacked = []
    let msg := fun (q kind flags : Nat) (body : List Nat) => (⟨q, kind, flags, seq % 2 ^ 32, body, d.dt, 0⟩ : LMsg)
    let heard := fun e : Device => (e.sessOf i).open_ = true ∧ (e.sessOf i).id = x.id ∧ (e.sessOf i).port = p ∧ (e.sessOf i).last = d.dt ∧ e.get (LAP_SESS_PORT i) = p % 2 ∧
      (∀ j, j ≠ i → e.sessOf j = d.sessOf j)
    let answered := fun (ls : List LMsg) (e : Device) => e.lapOut = (ls.take 64).map (fun m => (i, m)) ∧ (e.sessOf i).rx = seq ∧ (e.sessOf i).tx = x.tx + ls.length ∧
      (e.sessOf i).unacked = ls ∧ (e.sessOf i).held = [] ∧ (e.sessOf i).done.head? = some (seq, ls) ∧ heard e
    let nakked := fun (code detail : Nat) (e : Device) => answered [msg x.tx 8 1 (toBytes 4 code ++ toBytes 4 detail)] e
    let kept := fun e : Device => UnitsKept d e ∧ RegsKept [LAP_SESS_ID i, LAP_SESS_PORT i, LAP_SESS_OPEN i, LAP_STAT_SESSIONS] d e
    let opened := fun (kind a n : Nat) => d.soft = [] ∧ ∀ q ∈ pieces 8 (n + 1) a n, ∃ t, BankOpen d 36 kind q.1 q.2 t
    let bank := fun a n : Nat => ∃ t, t < 20 ∧ targetOf a = some t ∧ targetOf (a + n - 1) = some t
    let wrote := fun (a : Nat) (bs : List Nat) (e : Device) => memRead e.mem a bs.length = ofBytes bs ∧ KeepsOutside a bs.length d e ∧ e.ch = d.ch ∧
      ∀ k c, e.thread k c = d.thread k c
    let ch := d.chunk
    let parts := (len + ch - 1) / ch
    let size := fun j : Nat => min (len - j * ch) ch
    let done := match x.bulk with | some (a, l, n) => if a = addr ∧ l = len then n else 0 | none => 0
    let chunkOk := bulkOk addr len = true ∧ bank addr len ∧ data ≠ [] ∧ data.length ≤ ch ∧ done + data.length ≤ len ∧ opened 1 (addr + done) data.length ∧ ∀ b ∈ data, b < 256
    let n := lcn % 1024
    let z := d.chan n
    let mine := d.lcn n = lcn ∧ d.clState (n / 64) = 0
    let read := Instr.lapRead p sid seq ack addr count
    let strm := Instr.lapStream p sid seq ack lcn first es
    let dropped := fun e : Device => e.lapOut = [] ∧ e.get LAP_CNT_AUTHFAIL = min (d.get LAP_CNT_AUTHFAIL + 1) (2 ^ LAP_CNT_AUTHFAIL.width - 1) ∧
      (d.get LAP_CNT_AUTHFAIL = 0 → e.on (EVT_SRC_PENDING 348) = true) ∧ e.sess = d.sess ∧ UnitsKept d e
    (next → accessOk addr count = true → bank addr count → opened 0 addr count → Answers read s fun e =>
        answered [msg x.tx 1 1 (toBytes count (memRead d.mem addr count))] e ∧ kept e) ∧
      (next → Granted s 36 0 addr → addr % 4 = 0 → regLoc addr = some (.dev, 0) → Answers (.lapRead p sid seq ack addr 4) s fun e =>
        answered [msg x.tx 1 1 (toBytes 4 (wordOf d.regs (DEV_ID.fields []) 0))] e ∧ kept e) ∧
      (next → targetOf addr = some 21 → addr % 4 = 0 → d.regRefused 36 0 addr = true → Answers (.lapRead p sid seq ack addr 4) s fun e => nakked 2 0 e ∧
        e.on (EVT_SRC_PENDING 195) = true ∧ UnitsKept d e) ∧
      (next → accessOk addr count = false → Answers read s fun e => nakked 1 0 e ∧ kept e) ∧
      (next → accessOk addr data.length = true → bank addr data.length → opened 1 addr data.length → (∀ b ∈ data, b < 256) → Answers (.lapWrite p sid seq ack addr data) s fun e =>
        answered [msg x.tx 2 1 []] e ∧ wrote addr data e) ∧
      (next → accessOk addr data.length = false → Answers (.lapWrite p sid seq ack addr data) s fun e => nakked 1 0 e ∧ kept e) ∧
      (next → bulkOk addr len = true → bank addr len → (∀ j, j < parts → opened 0 (addr + j * ch) (size j)) → Answers (.lapBulkRead p sid seq ack addr len) s fun e =>
        answered ((List.range parts).map fun j => msg (x.tx + j) 3 (if j + 1 < parts then 3 else 1)
          (toBytes 8 (j * ch) ++ toBytes 4 (size j) ++ toBytes 4 0 ++ toBytes (size j) (memRead d.mem (addr + j * ch) (size j)))) e ∧ kept e) ∧
      (next → bulkOk addr len = false → Answers (.lapBulkRead p sid seq ack addr len) s fun e => nakked 1 0 e ∧ kept e) ∧
      (next → chunkOk → done + data.length < len → Answers (.lapBulkWrite p sid seq ack addr len data) s fun e => answered [] e ∧
        (e.sessOf i).bulk = some (addr, len, done + data.length) ∧ wrote (addr + done) data e) ∧
      (next → chunkOk → done + data.length = len → Answers (.lapBulkWrite p sid seq ack addr len data) s fun e => answered [msg x.tx 3 1 []] e ∧
        (e.sessOf i).bulk = none ∧ wrote (addr + done) data e) ∧
      (next → mine → first = z.get CH_STWR_IDX → es ≠ [] → es.length ≤ z.ringFree → z.on CH_RSTAT_ENDED = false → d.soft = [] → (∀ j, j < es.length → ∃ t, BankOpen d 36 1 (d.ringAddr n (first + j)) 8 t) →
        Answers strm s fun e => answered [msg x.tx 4 1 (toBytes 4 ((first + es.length) % 2 ^ 32))] e ∧ (e.chan n).get CH_STWR_IDX = (first + es.length) % 2 ^ 32 ∧
          (∀ j, j < es.length → (∀ h, j < h → h < es.length → d.ringAddr n (first + h) ≠ d.ringAddr n (first + j)) →
            memRead e.mem (d.ringAddr n (first + j)) 8 = es.getD j 0 % 2 ^ 64) ∧ ∀ m, m ≠ n → e.chan m = d.chan m) ∧
      (next → mine → first ≠ z.get CH_STWR_IDX → Answers strm s fun e => nakked 5 (z.get CH_STWR_IDX) e ∧ kept e) ∧
      (next → mine → first = z.get CH_STWR_IDX → z.ringFree < es.length → Answers strm s fun e => nakked 6 z.ringFree e ∧ kept e) ∧
      (next → d.lcn n ≠ lcn → Answers strm s fun e => nakked 7 0 e ∧ kept e) ∧
      (known → x.rx + 1 < seq → seq ≤ x.rx + 64 → x.held = [] → x.unacked = [] → Answers read s fun e => e.lapOut = [] ∧ (e.sessOf i).held = [(seq, .read addr count)] ∧
        (e.sessOf i).rx = x.rx ∧ heard e ∧ kept e) ∧
      (known → seq ≤ x.rx → x.done.find? (fun e => e.1 == seq) = some (seq, ms) → x.unacked = [] → Answers read s fun e => e.lapOut = ms.map (fun m => (i, m)) ∧
        (e.sessOf i).rx = x.rx ∧ (e.sessOf i).done = x.done ∧ heard e ∧ kept e) ∧
      (known → seq ≤ x.rx → x.done.find? (fun e => e.1 == seq) = none → Answers read s dropped) ∧
      (known → x.rx + 64 < seq → Answers read s dropped) ∧
      (sid ≠ 0 → d.findSess sid = none → Answers read s dropped) ∧
      Answers (.lapRead p 0 seq ack 0x40000000 4) s (fun e => e.lapOut = [(4, ⟨0, 1, 1, seq % 2 ^ 32, toBytes 4 (wordOf d.regs (DEV_ID.fields []) 0), d.dt, 0⟩)] ∧ e.regs = d.regs ∧
        e.sess = d.sess ∧ UnitsKept d e) ∧
      (addr < 0x40000000 → Answers (.lapRead p 0 seq ack addr count) s dropped) ∧
      (addr < 0x40000000 → Answers (.lapWrite p 0 seq ack addr data) s dropped) ∧
      Answers (.lapStream p 0 seq ack lcn first es) s dropped

/-- Acknowledgements, timers and the ends of a LAP session (R390, R391, R393, R395). -/
def Obligations.LapSessions : Prop :=
  ∀ (s : State) (m p sid ack sack i t spd : Nat) (up : Bool) (q : LMsg), s.served → i < 4 → p < 2 →
    let d := s.dev
    let x := d.sessOf i
    let us := 204800
    let same := fun e : Device => e.sess = d.sess ∧ e.regs = d.regs ∧ e.lapOut = d.lapOut ∧ e.records = d.records ∧ UnitsKept d e
    let known := d.portOn p = true ∧ sid ≠ 0 ∧ d.findSess sid = some i
    let hit := fun k : Nat => k ≤ ack ∨ (k ≤ ack + 64 ∧ bit sack (k - ack - 1) = true)
    let ended := fun e : Device => e.sessOf i = {} ∧ e.on (LAP_SESS_OPEN i) = false ∧ e.get (LAP_SESS_ID i) = 0 ∧ e.on (EVT_SRC_PENDING 347) = true ∧
      (∀ j, j ≠ i → e.sessOf j = d.sessOf j) ∧ UnitsKept d e
    let wait := min (max 1 (d.get LAP_RTO_US) * 2 ^ q.tries) (max 64000 (d.get LAP_RTO_US)) * us
    let one := x.open_ = true ∧ x.unacked = [q]
    let dropped := fun e : Device => e.lapOut = [] ∧ e.get LAP_CNT_AUTHFAIL = min (d.get LAP_CNT_AUTHFAIL + 1) (2 ^ LAP_CNT_AUTHFAIL.width - 1) ∧
      (d.get LAP_CNT_AUTHFAIL = 0 → e.on (EVT_SRC_PENDING 348) = true) ∧ e.sess = d.sess ∧ UnitsKept d e
    (known → x.unacked.length ≤ 64 → Answers (.lapAck p sid ack sack) s fun e => (∀ r, r ∈ (e.sessOf i).unacked ↔ r ∈ x.unacked ∧ ¬ hit r.seq) ∧ e.lapOut = [] ∧
        (e.sessOf i).last = d.dt ∧ (e.sessOf i).port = p ∧ (e.sessOf i).tx = x.tx ∧ (e.sessOf i).rx = x.rx ∧ UnitsKept d e) ∧
      (d.portOn p = true → (sid = 0 ∨ d.findSess sid = none) → Answers (.lapAck p sid ack sack) s dropped) ∧
      Answers .lapDiscard s dropped ∧
      (x.open_ = true → x.ackDue = some t → t + 100 * us ≤ d.dt → x.held = [] → Answers (.lapAckTimer i) s fun e => e.lapOut = [(i, ⟨0, 7, 0, 0, [], d.dt, 0⟩)] ∧
        (e.sessOf i).ackDue = none ∧ (e.sessOf i).unacked = x.unacked ∧ e.regs = d.regs ∧ UnitsKept d e) ∧
      (x.open_ = true → x.ackDue = some t → t + 100 * us ≤ d.dt → x.held ≠ [] → (∀ r ∈ x.held, x.rx < r.1 ∧ r.1 ≤ x.rx + 64) → Answers (.lapAckTimer i) s fun e =>
        ∃ map, e.lapOut = [(i, ⟨0, 7, 4, 0, toBytes 8 map, d.dt, 0⟩)] ∧ (∀ k, bit map k = true ↔ x.rx + 1 + k ∈ x.held.map (·.1)) ∧ (e.sessOf i).ackDue = none) ∧
      ((x.ackDue = none ∨ x.open_ = false) → Answers (.lapAckTimer i) s same) ∧
      (one → q.tries < d.get LAP_RTO_RETRY → q.sent + wait ≤ d.dt → Answers (.lapRetransmit i) s fun e => e.lapOut = [(i, { q with sent := d.dt, tries := q.tries + 1 })] ∧
        (e.sessOf i).unacked = [{ q with sent := d.dt, tries := q.tries + 1 }] ∧ e.get LAP_CNT_RETX = min (d.get LAP_CNT_RETX + 1) (2 ^ LAP_CNT_RETX.width - 1) ∧
        (e.sessOf i).open_ = true ∧ UnitsKept d e) ∧
      (one → d.get LAP_RTO_RETRY ≤ q.tries → q.sent + wait ≤ d.dt → Answers (.lapRetransmit i) s ended) ∧
      (one → d.dt < q.sent + wait → Answers (.lapRetransmit i) s same) ∧
      (x.open_ = true → x.last + 60 * 204800000000 ≤ d.dt → Answers (.lapSessionIdle i) s ended) ∧
      (x.open_ = true → d.dt < x.last + 60 * 204800000000 → Answers (.lapSessionIdle i) s same) ∧
      (Granted s m 1 (devAddr (0x50100 + 16 * i)) → x.open_ = true → Answers (.lapSessionEnd m i) s fun e => ended e ∧ e.resp = [⟨m, devAddr (0x50100 + 16 * i), [], 0⟩]) ∧
      (Granted s m 1 (devAddr (0x50100 + 16 * i)) → x.open_ = false → Answers (.lapSessionEnd m i) s fun e => e.sess = d.sess ∧ e.regs = d.regs ∧ UnitsKept d e) ∧
      (p = 0 → Answers (.ethLinkChange p up spd) s fun e => e.on LAP_STAT_LINK0 = up ∧ e.get LAP_STAT_SPD0 = (if up then spd % 2 else 0) ∧ e.on (EVT_SRC_PENDING 344) = true ∧
        RegsOnly [LAP_STAT_LINK0, LAP_STAT_SPD0] d e) ∧
      (p = 1 → Answers (.ethLinkChange p up spd) s fun e => e.on LAP_STAT_LINK1 = up ∧ e.get LAP_STAT_SPD1 = (if up then spd % 2 else 0) ∧ e.on (EVT_SRC_PENDING 345) = true ∧
        RegsOnly [LAP_STAT_LINK1, LAP_STAT_SPD1] d e)

/-- Events and records to the host (R385, R386, R388, R392): a doorbell; one EVENT message with every eligible source when a timer has run out; RECORD messages, and the records that an unacknowledged one gives back. -/
def Obligations.EventsToHost : Prop :=
  ∀ (s : State) (m q n v lo : Nat), s.served → v < 2 ^ 32 → q ≤ 16 →
    let d := s.dev
    let same := fun e : Device => e.sess = d.sess ∧ e.evt = d.evt ∧ e.regs = d.regs ∧ e.lapOut = d.lapOut ∧ e.records = d.records ∧ UnitsKept d e
    let db := v % 32
    let i := d.get LAP_DELIV_EVSESS
    let x := d.sessOf i
    let elig := fun e : EvtCell => 0 < e.count ∧ d.on (EVT_SRC_ENABLE e.src) = true ∧ d.on (EVT_SRC_RHOST e.src) = true
    let es := d.evt.filter fun e => decide (elig e)
    let ripe := ∃ e ∈ es, d.get (EVT_SRC_PRIORITY e.src) = 3 ∨ ∃ t, e.due = some t ∧ t ≤ d.dt
    let told := d.on LAP_DELIV_EVVALID = true ∧ x.open_ = true
    let j := d.get LAP_DELIV_RECSESS
    let y := d.sessOf j
    let queue := fun e : Device => if q < 16 then (e.clus q).records else e.records
    let unsent := (queue d).filter fun r => r.sent.isNone
    let ms := unsent.take n
    let send := d.on LAP_DELIV_RECVALID = true ∧ y.open_ = true ∧ ms ≠ []
    (Granted s m 1 (devAddr 0x4000C) → findWord m (devAddr 0x40008) d.held = some lo → Answers (.hostDoorbell m v) s fun e => e.get (EVT_DBDATA_DATA db) = lo % 2 ^ 32 ∧
        e.on (EVT_SRC_PENDING (480 + db)) = true ∧ (e.evtCell (480 + db)).count = min 65535 ((d.evtCell (480 + db)).count + 1) ∧ UnitsKept d e ∧
        (∀ k, k < 480 → e.evtCell k = d.evtCell k) ∧ e.resp = [⟨m, devAddr 0x4000C, [], 0⟩]) ∧
      (told → ripe → es.length ≤ d.eventRoom → x.unacked.length < 64 → Answers .eventCoalTimer s fun e =>
        e.lapOut = [(i, ⟨x.tx, 6, 0, 0, toBytes 8 d.dt ++ es.flatMap fun c => toBytes 2 c.src ++ toBytes 2 c.count ++
          toBytes 4 (if 480 ≤ c.src then d.get (EVT_DBDATA_DATA (c.src - 480)) else 0) ++ toBytes 8 c.first, d.dt, 0⟩)] ∧
        (∀ c ∈ e.evt, elig c → False) ∧ (∀ c ∈ d.evt, ¬ elig c → c ∈ e.evt) ∧ (e.sessOf i).tx = x.tx + 1 ∧
        e.get EVT_MSGCNT_CNT = min (d.get EVT_MSGCNT_CNT + 1) (2 ^ EVT_MSGCNT_CNT.width - 1) ∧ RegsKept [EVT_MSGCNT_CNT] d e ∧ (∀ k, e.on (EVT_SRC_PENDING k) = d.on (EVT_SRC_PENDING k)) ∧
        UnitsKept d e) ∧
      ((d.on LAP_DELIV_EVVALID = false ∨ x.open_ = false ∨ ¬ ripe) → Answers .eventCoalTimer s same) ∧
      (send → y.unacked.length < 64 → Answers (.recordSend q n) s fun e => e.lapOut = [(j, ⟨y.tx, 5, 0, 0, ms.flatMap Record.bytes, d.dt, 0⟩)] ∧
        (queue e).map (fun r => { r with sent := none }) = (queue d).map (fun r => { r with sent := none }) ∧ (queue e).filter (fun r => r.sent.isNone) = unsent.drop n ∧
        (e.sessOf j).tx = y.tx + 1 ∧ e.regs = d.regs ∧ UnitsKept d e) ∧
      ((d.on LAP_DELIV_RECVALID = false ∨ y.open_ = false ∨ ms = []) → Answers (.recordSend q n) s same)

/-- Commands of the security engine and their ends (R406, R407, R409, R411, R414, R415, R418, R419, R422): PROGRAM, STORE, CONFIRM, ATTEST, CALCERT and SAVEKEYS begin, are refused or end. -/
def Obligations.SecurityCommands : Prop :=
  ∀ (s : State) (m t h k : Nat) (ok mis : Bool) (rom slot mc cal sig : List Nat) (patches : List (List Nat × Nat)) (img : Slot) (pat : Patch), s.powered →
    let d := s.dev
    let z := d.sec
    let cmd := Granted s m 1 (devAddr 0x60004)
    let told := fun e : Device => e.resp = [⟨m, devAddr 0x60004, [], 0⟩]
    let idle := cmd ∧ d.on SEC_STAT_BUSY = false
    let stat := [SEC_STAT_RESULT, SEC_STAT_DONE, SEC_STAT_BUSY]
    let ends := fun (res : Nat) (e : Device) => e.get SEC_STAT_RESULT = res ∧ e.on SEC_STAT_DONE = true ∧ e.on SEC_STAT_BUSY = false ∧ e.sec.op = 0
    let refused := fun (res : Nat) (e : Device) => ends res e ∧ e.sec.flash = z.flash ∧ e.sec.fused = z.fused ∧ RegsOnly stat d e ∧ told e
    let begun := fun (op : Nat) (e : Device) => e.on SEC_STAT_BUSY = true ∧ e.sec.op = op ∧ RegsOnly [SEC_STAT_BUSY] d e ∧ told e
    let same := fun e : Device => e.sec = d.sec ∧ e.regs = d.regs ∧ UnitsKept d e
    let a := d.get SEC_STAGE_ADDR
    let at_ := fun ofs n : Nat => memRead d.mem (a + ofs) n
    let bytes := fun ofs n : Nat => toBytes n (at_ ofs n)
    let header := at_ 0 4 = 0x4656514C ∧ at_ 4 1 = 1 ∧ at_ 6 1 = 0x10
    let len := at_ 8 4
    let signed := d.get SEC_STAGELEN_LEN = 256 + len + 29792 ∧ bytes 32 32 = shake256 (bytes 256 len) ∧
      Config.firmwareSig (bytes 0 (256 + len)) (bytes (256 + len) 29792) = true
    let psig := 64 + 24 * at_ 12 4
    let psigned := Config.firmwareSig (bytes 0 psig) (bytes psig 29792) = true
    let level := at_ 8 2
    let full := 16 ≤ z.flash.store.length ∧ ∀ x ∈ z.flash.store, level ≤ x.level
    let svn := d.get SEC_BOOT_FWSVN
    let other := 1 - d.get SEC_BOOT_SLOT
    let ids := (List.range 32).map fun i => d.get (SEC_HOSTFP_FP (i / 8) (i % 8))
    let dst := d.get SEC_ATTADDR_ADDR / 64 * 64
    let traced := ∃ c, c < 8 ∧ (d.chip c).traced ≠ []
    (cmd → d.on SEC_STAT_BUSY = true → ∀ i, i ∈ [Instr.secProgram m, .secStore m, .secConfirm m, .secAttest m, .secCalcert m, .secSavekeys m] →
        Answers i s fun e => e.get SEC_STAT_RESULT = 1 ∧ e.sec = z ∧ RegsOnly [SEC_STAT_RESULT] d e ∧ told e) ∧
      (idle → header → z.fused ≤ at_ 5 1 → Answers (.secProgram m) s fun e => (signed → begun 1 e ∧ e.sec.image = some ⟨true, at_ 5 1⟩ ∧ e.sec.flash = { z.flash with slots := z.flash.slots.set other ⟨false, 0⟩ }) ∧
        (¬ signed → refused 2 e)) ∧
      (idle → ¬ header → Answers (.secProgram m) s (refused 3)) ∧
      (idle → header → at_ 5 1 < z.fused → Answers (.secProgram m) s (refused 4)) ∧
      (idle → Answers (.secStore m) s fun e => (¬ psigned → refused 2 e) ∧ (psigned → at_ 5 1 ≠ 0x10 → refused 3 e) ∧ (psigned → at_ 5 1 = 0x10 → full → refused 6 e) ∧
        (psigned → at_ 5 1 = 0x10 → ¬ full → begun 2 e ∧ e.sec.patch = some ⟨level, at_ 10 1, decide (at_ 6 2 = 0x1024), at_ 12 4⟩ ∧ e.sec.flash = z.flash)) ∧
      (idle → d.on SEC_BOOT_TRIAL = true → Answers (.secConfirm m) s fun e => ends 0 e ∧ e.sec.flash = { z.flash with active := d.get SEC_BOOT_SLOT } ∧ e.on SEC_BOOT_TRIAL = false ∧
        e.sec.fused = (if z.fused < svn then min 64 svn else z.fused) ∧ (z.fused < svn → e.get SEC_BOOT_FUSESVN = min 64 svn ∧ e.on (EVT_SRC_PENDING 323) = true) ∧
        RegsOnly (SEC_BOOT_TRIAL :: SEC_BOOT_FUSESVN :: stat) d e ∧ told e) ∧
      (idle → d.on SEC_BOOT_TRIAL = false → Answers (.secConfirm m) s (refused 7)) ∧
      (idle → d.on SEC_STAT_IDERR = false → Answers (.secAttest m) s fun e => begun 4 e ∧ e.sec.flash = z.flash) ∧
      (idle → d.on SEC_STAT_IDERR = true → Answers (.secAttest m) s (refused 9)) ∧
      (idle → d.on SEC_STAT_IDERR = true → Answers (.secCalcert m) s (refused 9)) ∧
      (idle → d.on SEC_STAT_IDERR = false → ¬ traced → Answers (.secCalcert m) s (refused 8)) ∧
      (idle → d.on SEC_STAT_IDERR = false → traced → Answers (.secCalcert m) s fun e => begun 5 e ∧ e.sec.flash.calAfe.length = 8 ∧ e.sec.flash.calCh.length = 1024 ∧
        (∀ n, n < 1024 → (e.sec.flash.calCh.getD n []).get CH_VGAIN_GAIN = (d.chan n).get CH_VGAIN_GAIN)) ∧
      (idle → m = 36 → Answers (.secSavekeys m) s fun e => ends 0 e ∧ e.sec.flash = { z.flash with keys := ids } ∧ (e.on SEC_STAT_PROV = true ↔ ∀ x ∈ ids, x = 0) ∧
        e.on (EVT_SRC_PENDING 328) = true ∧ RegsOnly (SEC_STAT_PROV :: stat) d e ∧ told e) ∧
      (idle → m ≠ 36 → Answers (.secSavekeys m) s fun e => same e ∧ told e) ∧
      (z.op = 1 → z.image = some img → z.patch = none → Answers (.flashOpDone true) s fun e => ends 0 e ∧
        e.sec.flash = { z.flash with slots := z.flash.slots.set other img, trial := some other } ∧ e.on (EVT_SRC_PENDING 324) = true ∧ RegsOnly stat d e) ∧
      (z.op = 2 → z.image = none → z.patch = some pat → z.flash.store.length < 16 → Answers (.flashOpDone true) s fun e => ends 0 e ∧
        (∀ x, x ∈ e.sec.flash.store ↔ x = pat ∨ x ∈ z.flash.store) ∧ e.sec.flash.store.length = z.flash.store.length + 1 ∧ e.sec.flash.trial = z.flash.trial ∧
        e.sec.flash.slots = z.flash.slots ∧ e.on (EVT_SRC_PENDING 324) = true ∧ RegsOnly stat d e) ∧
      ((z.op = 1 ∨ z.op = 2) → Answers (.flashOpDone false) s fun e => ends 5 e ∧ e.sec.flash = z.flash ∧ e.on (EVT_SRC_PENDING 325) = true ∧ RegsOnly stat d e) ∧
      (z.op ≠ 1 → z.op ≠ 2 → Answers (.flashOpDone ok) s same) ∧
      (z.op = 4 → sig.length = 49856 → (∀ b ∈ sig, b < 256) → (∀ i, i < 50752 → BankOpen d 35 1 (dst + i) 1 t) → Answers (.attestDone rom slot mc cal mis patches sig) s fun e => ends 0 e ∧
        memRead e.mem dst 4 = 1 ∧ memRead e.mem (dst + 4) 4 = 0x1010244C ∧ (∀ w, w < 8 → memRead e.mem (dst + 8 + 4 * w) 4 = Config.identity w % 2 ^ 32 ∧
          memRead e.mem (dst + 0x28 + 4 * w) 4 = d.get (SEC_ATTNONCE_NONCE w) % 2 ^ 32) ∧ memRead e.mem (dst + 0x48) 8 = d.dt % 2 ^ 64 ∧
        memRead e.mem (dst + 0x50) 8 = d.get TB_WALL_NS % 2 ^ 64 ∧ memRead e.mem (dst + 0x58) 1 = z.fused % 256 ∧ memRead e.mem (dst + 0x59) 1 = svn % 256 ∧
        memRead e.mem (dst + 0x5A) 1 = d.get SEC_BOOT_SLOT % 256 ∧ memRead e.mem (dst + 0x5C) 2 = (d.clus 0).get MCE_PATCH_LEVEL % 2 ^ 16 ∧
        toBytes 49856 (memRead e.mem (dst + 0x380) 49856) = sig ∧ KeepsOutside dst 50752 d e ∧ e.get SEC_ATTLEN_LEN = 50752 ∧ e.on SEC_STAT_ATTDONE = true ∧
        e.on (EVT_SRC_PENDING 326) = true ∧ e.ch = d.ch) ∧
      (z.op ≠ 4 → Answers (.attestDone rom slot mc cal mis patches sig) s same) ∧
      (z.op = 5 → d.records.length < 256 → sig.length = 49856 → Answers (.calcertDone sig) s fun e => ends 0 e ∧ (∃ body, e.records = d.records ++ [⟨1, 0, d.lcn 0, 0, d.dt, body ++ sig, none⟩] ∧
          body.take 8 = toBytes 4 1 ++ toBytes 4 ((List.range 8).map fun c => (d.chip c).traced.length).sum ∧
          body.length = 192 + 32 * ((List.range 8).map fun c => (d.chip c).traced.length).sum) ∧
        (∀ c, c < 8 → (e.chip c).traced = []) ∧ e.on (EVT_SRC_PENDING 329) = true ∧ e.mem = d.mem ∧ e.ch = d.ch) ∧
      ((z.op ≠ 5 ∨ 256 ≤ d.records.length) → Answers (.calcertDone sig) s fun e => same e ∧ e.records = d.records) ∧
      (d.get SEC_BOOT_STATE = 15 → header → z.fused ≤ at_ 5 1 → Answers .recoveryProgram s fun e => (signed → e.sec.flash.slots = z.flash.slots.set 0 ⟨true, at_ 5 1⟩ ∧
          (e.get SEC_BOOT_STATE = 1 ∨ e.get SEC_BOOT_STATE = 15) ∧ e.lanes = 0 ∧ (∀ j c, (e.thread j c).state = 0) ∧ e.get DEV_RSTCAUSE_CAUSE = d.get DEV_RSTCAUSE_CAUSE) ∧
        (¬ signed → e.get SEC_STAT_RESULT = 2 ∧ e.sec = z ∧ RegsOnly [SEC_STAT_RESULT] d e)) ∧
      (d.get SEC_BOOT_STATE = 15 → ¬ header → Answers .recoveryProgram s fun e => e.get SEC_STAT_RESULT = 3 ∧ e.sec = z ∧ RegsOnly [SEC_STAT_RESULT] d e) ∧
      (d.get SEC_BOOT_STATE ≠ 15 → Answers .recoveryProgram s same) ∧
      (h < 8 → k < 4 → Granted s m 1 (devAddr (0x60100 + 32 * k + 4 * h)) → m ≠ 36 → ∀ v, Answers (.regWrite m (devAddr (0x60100 + 32 * k + 4 * h)) v) s fun e => e.regs = d.regs)

/-- Session set-up (R390, R410, R412 to R414, R419): BEGIN, READY, FINISH with each of its refusals, CERT, ABORT and the set-up that is idle for 1 s. -/
def Obligations.SessionSetup : Prop :=
  ∀ (s : State) (m t : Nat) (nd ek sig : List Nat), s.powered →
    let d := s.dev
    let z := d.sec
    let cmd := Granted s m 1 (devAddr 0x60200)
    let told := fun e : Device => e.resp = [⟨m, devAddr 0x60200, [], 0⟩]
    let sec := 204800000000
    let active := ∃ u b, z.setup = some (u, b) ∧ d.dt < u + sec
    let code := fun (n : Nat) (e : Device) => e.get SEC_SWSTAT_CODE = n
    let busy := fun e : Device => code 1 e ∧ e.on (EVT_SRC_PENDING 327) = true ∧ e.sec = { z with buf := [] } ∧ RegsOnly [SEC_SWSTAT_CODE] d e ∧ told e
    let refused := fun (n : Nat) (e : Device) => code n e ∧ e.on (EVT_SRC_PENDING 327) = true ∧ e.sec.buf = [] ∧ e.sec.setup = none ∧ e.on SEC_SWSTAT_READY = false ∧
      e.on SEC_SWSTAT_BUSY = false ∧ e.sess = d.sess ∧ UnitsKept d e ∧ told e
    let page := fun (xs : List Host.Cell) (ofs n : Nat) => toBytes n (memRead xs ofs n)
    let at_ := page z.buf
    let key := at_ 0x20 64
    let t2 := [0x4C, 0x51, 0x56, 0x2D, 0x4C, 0x41, 0x50, 0x2D, 0x31] ++ at_ 0 32 ++ key ++ at_ 0x60 32 ++ at_ 0x80 1184 ++ at_ 0xC800 1088
    let known := ∃ k, k < 4 ∧ ((List.range 8).flatMap fun w => toBytes 4 (d.get (SEC_HOSTFP_FP k w))) = shake256 key
    let prov := d.on SEC_STAT_PROV = true
    let room := (d.sess.filter fun x => x.open_).length < 4
    let finish := cmd ∧ d.get SEC_BOOT_STATE = 7 ∧ z.setup = some (t, true)
    let decaps := Config.decapsOk (at_ 0x80 1184) (at_ 0xC800 1088) = true
    let hsig := Config.hostSig key t2 (at_ 0xCC40 49856) = true
    let opened := fun e : Device => code 0 e ∧ e.sec.setup = none ∧ e.on (EVT_SRC_PENDING 346) = true ∧
      (∃ i, i < 4 ∧ (d.sessOf i).open_ = false ∧ e.get SEC_SWSESS_SESSION = (e.sessOf i).id % 2 ^ 32 ∧ (e.sessOf i).open_ = true ∧ (e.sessOf i).id ≠ 0 ∧ (e.sessOf i).last = d.dt ∧
        (e.sessOf i).rx = 0 ∧ (e.sessOf i).tx = 1 ∧ (∀ j, j < 4 → (d.sessOf j).open_ = true → (e.sessOf i).id ≠ (d.sessOf j).id) ∧ (∀ j, j ≠ i → e.sessOf j = d.sessOf j) ∧
        e.on (LAP_SESS_OPEN i) = true) ∧ UnitsKept d e ∧ told e
    let quit := fun e : Device => e.sec.setup = none ∧ e.on SEC_SWSTAT_BUSY = false ∧ e.on SEC_SWSTAT_READY = false ∧ e.sess = d.sess ∧
      RegsOnly [SEC_SWSTAT_BUSY, SEC_SWSTAT_READY] d e
    let same := fun e : Device => e.sec = d.sec ∧ e.regs = d.regs ∧ e.sess = d.sess ∧ UnitsKept d e
    (cmd → active → Answers (.swBegin m) s busy) ∧
      (cmd → ¬ active → d.on SEC_STAT_IDERR = true → Answers (.swBegin m) s fun e => e.get SEC_STAT_RESULT = 9 ∧ e.on (EVT_SRC_PENDING 327) = true ∧ e.sec = { z with buf := [] } ∧
        RegsOnly [SEC_STAT_RESULT] d e ∧ told e) ∧
      (cmd → ¬ active → d.on SEC_STAT_IDERR = false → Answers (.swBegin m) s fun e => code 0 e ∧ e.on SEC_SWSTAT_BUSY = true ∧ e.on SEC_SWSTAT_READY = false ∧
        e.sec = { z with setup := some (d.dt, false) } ∧ RegsOnly [SEC_SWSTAT_CODE, SEC_SWSTAT_BUSY, SEC_SWSTAT_READY] d e ∧ told e) ∧
      (z.setup = some (t, false) → nd.length = 32 → ek.length = 1184 → sig.length = 49856 → (∀ b ∈ nd ++ ek ++ sig, b < 256) → Answers (.swBeginReady nd ek sig) s fun e =>
        page e.sec.buf 0x60 32 = nd ∧ page e.sec.buf 0x80 1184 = ek ∧ page e.sec.buf 0x520 49856 = sig ∧ page e.sec.buf 0 0x60 = at_ 0 0x60 ∧ e.on SEC_SWSTAT_READY = true ∧
        e.on SEC_SWSTAT_BUSY = false ∧ e.sec.setup = some (d.dt, true) ∧ RegsOnly [SEC_SWSTAT_READY, SEC_SWSTAT_BUSY] d e) ∧
      ((∀ u, z.setup ≠ some (u, false)) → Answers (.swBeginReady nd ek sig) s same) ∧
      (finish → ¬ room → Answers (.swFinish m) s (refused 2)) ∧
      (cmd → d.get SEC_BOOT_STATE = 7 → (∀ u, z.setup ≠ some (u, true)) → Answers (.swFinish m) s (refused 6)) ∧
      (finish → room → Answers (.swFinish m) s fun e => (¬ decaps → refused 5 e) ∧ (decaps → ¬ prov → ¬ known → refused 3 e) ∧
        (decaps → ¬ prov → known → ¬ hsig → refused 4 e) ∧ (decaps → (prov ∨ (known ∧ hsig)) → opened e)) ∧
      (cmd → d.get SEC_BOOT_STATE ≠ 7 → Answers (.swFinish m) s fun e => same e ∧ told e) ∧
      (cmd → active → Answers (.swCert m) s busy) ∧
      (cmd → ¬ active → Answers (.swCert m) s fun e => code 0 e ∧ e.get SEC_SWLEN_LEN = Config.certificate.length % 2 ^ 32 ∧
        page e.sec.buf 0 Config.certificate.length = Config.certificate.map (fun b => b % 256) ∧ e.sec.setup = z.setup ∧ RegsOnly [SEC_SWSTAT_CODE, SEC_SWLEN_LEN] d e ∧ told e) ∧
      (cmd → Answers (.swAbort m) s fun e => quit e ∧ e.sec.buf = z.buf ∧ told e) ∧
      (z.setup ≠ none → ¬ active → Answers .swSetupIdle s quit) ∧
      ((z.setup = none ∨ active) → Answers .swSetupIdle s same)

/-- The display outputs (R451 to R456, R459 to R461, R464): DSP_APPLY, the vertical blank with its latch, retirement and mode change, the end of training, hot plug, and the composition of a line. -/
def Obligations.DisplayOutputs : Prop :=
  ∀ (s : State) (m o n u l c x0 : Nat) (ok : Bool) (gone : List (Nat × Nat)) (nm : DMode), s.powered → o < 2 → l < 3 →
    let d := s.dev
    let z := d.dspOf o
    let apply := Granted s m 1 (devAddr (0x90020 + 4096 * o))
    let told := fun e : Device => e.resp = [⟨m, devAddr (0x90020 + 4096 * o), [], 0⟩]
    let w : DMode := d.dspMode o
    let lanes := [1, 2, 4, 0].getD (d.get (DSP_LINK_LANES o)) 0
    let rate := [1620000, 2700000, 5400000, 0].getD (d.get (DSP_LINK_RATE o)) 0
    let fits := d.get (DSP_HTIM0_HACT o) ≤ 2560 ∧ d.get (DSP_VTIM0_VACT o) ≤ 1600 ∧ (∀ v ∈ [DSP_HTIM0_HFP o, DSP_HTIM1_HSYNC o, DSP_HTIM1_HBP o, DSP_VTIM0_VFP o, DSP_VTIM1_VSYNC o, DSP_VTIM1_VBP o], 1 ≤ d.get v) ∧
      25000 ≤ d.get (DSP_PCLK_KHZ o) ∧ d.get (DSP_PCLK_KHZ o) ≤ 300000 ∧ d.get (DSP_PCLK_KHZ o) * 240 ≤ lanes * rate * 8
    let others := fun e : Device => e.dspOf (1 - o) = d.dspOf (1 - o)
    let same := fun e : Device => e.dsp = d.dsp ∧ e.regs = d.regs ∧ UnitsKept d e
    let blank := d.on (DSP_STAT_ACTIVE o) = true ∧ z.blank = false
    let now := d.dspLayer o l
    let old := z.layers.getD l {}
    let retires := old.addr ≠ now.addr ∨ (old.en = true ∧ now.en = false)
    let trains := d.on (DSP_STAT_RETRAIN o) = true ∧ z.failed = false
    let retrain := fun e : Device => e.on (DSP_STAT_RETRAIN o) = true ∧ e.on (DSP_STAT_ACTIVE o) = false ∧ e.on (DSP_STAT_LINK o) = false
    let on_ := d.on (DSP_CTL_EN o) = true ∧ d.on (DSP_CTL_PWR o) = true
    let line := d.on (DSP_STAT_ACTIVE o) = true ∧ n < z.mode.vact
    let y := z.layers.getD 0 {}
    let single := (∀ j, 0 < j → (z.layers.getD j {}).en = false) ∧ y.en = true ∧ y.fmt = 2 ∧ y.y ≤ n ∧ n < y.y + y.h ∧ z.layers.length = 3
    let pixel := y.addr + y.stride * (n - y.y) + 4 * (c - y.x)
    let open_ := d.soft = [] ∧ ∀ q, y.addr + y.stride * (n - y.y) ≤ q + 31 → q < y.addr + y.stride * (n - y.y) + 4 * y.w → q % 32 = 0 → ∃ t, BankOpen d 34 4 q 32 t
    let bg := d.get (DSP_BGCOL_RGB o)
    let mixed := fun (a sh : Nat) => (2 * (a * y.galpha * bits (memRead d.mem pixel 4) sh 8 + (65025 - a * y.galpha) * bits bg sh 8) + 65025) / 130050
    let alpha := if y.opaque_ then 255 else bits (memRead d.mem pixel 4) 24 8
    (apply → ¬ fits → Answers (.dspApply m o) s fun e => e.on (DSP_STAT_MODEERR o) = true ∧ e.on (EVT_SRC_PENDING (292 + o)) = true ∧ e.dsp = d.dsp ∧ RegsOnly [DSP_STAT_MODEERR o] d e ∧ told e) ∧
      (apply → fits → z.failed = false → Answers (.dspApply m o) s fun e => e.on (DSP_STAT_PEND o) = true ∧ e.dspOf o = { z with staged := some w } ∧ others e ∧
        RegsOnly [DSP_STAT_PEND o] d e ∧ told e) ∧
      (apply → fits → z.failed = true → Answers (.dspApply m o) s fun e => retrain e ∧ e.on (DSP_STAT_PEND o) = false ∧ (e.dspOf o).mode = w ∧ (e.dspOf o).staged = none ∧
        (e.dspOf o).failed = false ∧ others e ∧ told e) ∧
      (blank → Answers (.vblankStart o) s fun e => e.get (DSP_FRAME_CNT o) = (d.get (DSP_FRAME_CNT o) + 1) % 2 ^ (DSP_FRAME_CNT o).width ∧ e.on (EVT_SRC_PENDING (304 + o)) = true ∧
        (e.dspOf o).blank = true ∧ e.get (DSP_LSTAT_COVLINES o l) = z.cov.getD l 0 % 2 ^ (DSP_LSTAT_COVLINES o l).width ∧ others e ∧ UnitsKept d e) ∧
      (blank → d.on (DSP_CTL_HOLD o) = true → Answers (.vblankStart o) s fun e => (e.dspOf o).layers = z.layers) ∧
      (blank → d.on (DSP_CTL_HOLD o) = false → now.fmt ≠ 3 → z.layers.length = 3 → Answers (.vblankStart o) s fun e => (e.dspOf o).layers.getD l {} = now ∧
        (retires → e.get (DSP_LRETADDR_ADDR o l) = old.addr % 2 ^ (DSP_LRETADDR_ADDR o l).width ∧ bit (e.get (DSP_LAYER_RETIRED_L o)) l = true ∧
          e.on (EVT_SRC_PENDING (294 + 3 * o + l)) = true) ∧
        (¬ retires → e.get (DSP_LRETADDR_ADDR o l) = d.get (DSP_LRETADDR_ADDR o l))) ∧
      (blank → d.on (DSP_CTL_HOLD o) = false → now.fmt = 3 → now.en = true → z.layers.length = 3 → Answers (.vblankStart o) s fun e => e.on (DSP_STAT_MODEERR o) = true ∧
        ((e.dspOf o).layers.getD l {}).en = false) ∧
      (blank → z.staged = some nm → nm.khz = z.mode.khz → nm.link % 16 = z.mode.link % 16 → Answers (.vblankStart o) s fun e => (e.dspOf o).mode = nm ∧ (e.dspOf o).staged = none ∧
        e.on (DSP_STAT_PEND o) = false ∧ e.on (DSP_STAT_MODE_DONE o) = true ∧ e.on (EVT_SRC_PENDING (290 + o)) = true ∧ e.on (DSP_STAT_ACTIVE o) = true) ∧
      (blank → z.staged = some nm → (nm.khz ≠ z.mode.khz ∨ nm.link % 16 ≠ z.mode.link % 16) → Answers (.vblankStart o) s fun e => retrain e ∧ (e.dspOf o).mode = nm ∧
        (e.dspOf o).staged = none ∧ e.on (DSP_STAT_PEND o) = false) ∧
      ((d.on (DSP_STAT_ACTIVE o) = false ∨ z.blank = true) → Answers (.vblankStart o) s same) ∧
      (trains → Answers (.dpTrainDone o true) s fun e => e.on (DSP_STAT_RETRAIN o) = false ∧ e.on (DSP_STAT_LINK o) = true ∧ e.on (DSP_STAT_ACTIVE o) = true ∧ (e.dspOf o).blank = false ∧
        (z.fresh = true → e.on (DSP_STAT_MODE_DONE o) = true ∧ e.on (EVT_SRC_PENDING (290 + o)) = true) ∧ others e ∧ UnitsKept d e) ∧
      (trains → Answers (.dpTrainDone o false) s fun e => e.on (DSP_STAT_TRAINFAIL o) = true ∧ (e.dspOf o).failed = true ∧ e.on (DSP_STAT_ACTIVE o) = d.on (DSP_STAT_ACTIVE o) ∧
        e.on (EVT_SRC_PENDING (292 + o)) = true ∧ others e ∧ RegsOnly [DSP_STAT_TRAINFAIL o] d e) ∧
      (¬ trains → Answers (.dpTrainDone o ok) s same) ∧
      (d.on (DSP_STAT_HPD o) = false → Answers (.hpdChange o true) s fun e => e.on (DSP_STAT_HPD o) = true ∧ e.on (EVT_SRC_PENDING (288 + o)) = true ∧ others e ∧ UnitsKept d e ∧
        (on_ → d.on (DSP_STAT_ACTIVE o) = false → d.on (DSP_STAT_RETRAIN o) = false → retrain e)) ∧
      (d.on (DSP_STAT_HPD o) = true → Answers (.hpdChange o false) s fun e => e.on (DSP_STAT_HPD o) = false ∧ e.on (DSP_STAT_ACTIVE o) = false ∧ e.on (DSP_STAT_LINK o) = false ∧
        e.on (DSP_STAT_RETRAIN o) = false ∧ e.on (EVT_SRC_PENDING (288 + o)) = true ∧ others e ∧
        RegsOnly [DSP_STAT_HPD o, DSP_STAT_ACTIVE o, DSP_STAT_LINK o, DSP_STAT_RETRAIN o] d e) ∧
      (Answers (.hpdChange o (d.on (DSP_STAT_HPD o))) s same) ∧
      (line → (∀ j, (z.layers.getD j {}).en = false) → Answers (.dpLine o n [] u) s fun e => (e.dspOf o).line = List.replicate z.mode.hact bg ∧
        e.on (DSP_LSTAT_URGENT o l) = bit u l ∧ others e ∧ UnitsKept d e) ∧
      (line → single → open_ → c < z.mode.hact → y.x ≤ c → c < y.x + y.w → Answers (.dpLine o n [] u) s fun e =>
        (e.dspOf o).line.getD c 0 = mixed alpha 16 * 65536 + mixed alpha 8 * 256 + mixed alpha 0 ∧ others e ∧ UnitsKept d e) ∧
      (line → single → open_ → c < z.mode.hact → (c < y.x ∨ y.x + y.w ≤ c) → Answers (.dpLine o n [] u) s fun e => (e.dspOf o).line.getD c 0 = bg) ∧
      (line → single → open_ → x0 < z.mode.hact → y.x ≤ x0 → x0 < y.x + y.w → Answers (.dpLine o n [(0, x0)] u) s fun e =>
        e.get (DSP_LUNDER_LINES o 0) = min (d.get (DSP_LUNDER_LINES o 0) + 1) (2 ^ (DSP_LUNDER_LINES o 0).width - 1) ∧
        (z.under = false ∨ n = 0 → e.on (EVT_SRC_PENDING (300 + o)) = true) ∧ (x0 = y.x → e.free = d.free + 1) ∧ UnitsKept d e) ∧
      ((d.on (DSP_STAT_ACTIVE o) = false ∨ z.mode.vact ≤ n) → Answers (.dpLine o n gone u) s same)

/-- A step takes the command at the front of the queue: it is `exec` of that command on the state with the queue's rest, and the queue then holds that rest; no command is refused and none faults. -/
def Obligations.StepRunsFront : Prop :=
  ∀ (c : Instr) (rest : List Instr) (s : State),
    step { s with pending := c :: rest } = exec c { s with pending := rest } ∧ ∃ t, step { s with pending := c :: rest } = .next t ∧ t.pending = rest

/-- An empty queue (the model's choice, log entries 4 and 5): one tick passes. With core power, device time valid and its oscillator locked, and neither a load nor a step of it waiting, device time advances by one tick of 128 fine steps; otherwise the core stands. -/
def Obligations.IdleTick : Prop :=
  ∀ s : State, s.pending = [] → ∃ t, step s = .next t ∧ t.pending = [] ∧
    (s.powered → s.dev.on TB_STAT_DT_VALID = true → bit (s.dev.get TB_ISLOCK_LOCK) 0 = true → s.dev.tb.load = none → s.dev.tb.stepBy = none →
      (∀ k c, (s.dev.thread k c).onStore = false) → (∀ k, (s.dev.clus k).stage = []) → t.dev.dt = s.dev.dt + 128 ∧ t.dev.mem = s.dev.mem) ∧
    (s.dev.pw.phase ≠ 2 → t.dev.dt = s.dev.dt ∧ t.dev.mem = s.dev.mem ∧ t.dev.ch = s.dev.ch ∧ (∀ k c, t.dev.thread k c = s.dev.thread k c) ∧
      t.dev.get PIL_TIME_TICKS = if s.dev.pw.pilot then (s.dev.get PIL_TIME_TICKS + 1) % 2 ^ PIL_TIME_TICKS.width else s.dev.get PIL_TIME_TICKS)

/-- Without core power, in reset and in DOZE no channel instruction and no register access has an effect (R41, R423, R427); during a power-fail sequence LAP answers nothing and no frame, session or record goes out (R45). -/
def Obligations.PowerGate : Prop :=
  ∀ (s : State) (i : Instr) (m a v p sid seq ack n l : Nat) (bs : List Nat),
    (s.dev.pw.phase ≠ 2 → i.thread ≠ none → exec i s = .next s) ∧
      (s.dev.pw.phase ≠ 2 → ∀ j ∈ [Instr.regWrite m a v, .regPairLowRead m a, .regRcRead m a, .lockSet m, .conversion n false false false a bs, .commit n, .loopUpdate n, .driveFrame n, .captureSample n,
        .failRecordWrite, .streamSlot n, .schedWopen, .motCount true false a n, .batchSigned bs, .secConfirm m, .vblankStart n, .lapDiscard], exec j s = .next s) ∧
      (s.dev.pw.failAt ≠ none → ∀ j ∈ [Instr.lapRead p sid seq ack a n, .lapWrite p sid seq ack a bs, .lapBulkRead p sid seq ack a n, .lapBulkWrite p sid seq ack a n bs,
        .lapStream p sid seq ack n v bs, .lapAck p sid ack v, .lapDiscard, .lapAckTimer n, .lapRetransmit n, .lapSessionIdle n, .lapSessionEnd m n, .recordSend n l, .eventCoalTimer],
        exec j s = .next s)

/-- What the rules give right after a power-on reset (R1, R8, R43, R165, R169, R185, R259, R399, R400, R402, R433, R468).
Memory has its canonical form after reset. -/
def Obligations.ResetState : Prop :=
  (let d := State.reset.dev
  State.reset.pending = [] ∧ d.dt = 0 ∧ d.mem = [] ∧ d.get DEV_ID_PART = 0x1024 ∧ d.get DEV_ID_FAMILY = 0x4C ∧ d.get DEV_ID_REV_MAJ = 1 ∧ d.get DEV_ID_REV_MIN = 0 ∧
    d.get SEC_BOOT_STATE = 1 ∧ d.lanes = 0 ∧ d.get LAP_PORT_UDP = 43720 ∧ d.get LAP_CTL_BULKLEN = 1024 ∧ d.get EVT_COAL_P1 = 10 ∧ d.on (EVT_SRC_ENABLE 160) = true ∧
    d.on (EVT_SRC_ENABLE 0) = false ∧ (∀ k c, (d.thread k c).state = 0 ∧ (d.thread k c).pc = 0) ∧ (∀ k c i, (d.thread k c).g i = 0) ∧
    (∀ k, (d.clus k).on MCE_CTL_LOADED = false) ∧ (∀ n, (d.chan n).running = false ∧ (d.chan n).enWant = false) ∧ ∀ i, d.sessOf i = {}) ∧
  (Memory.wf State.reset.dev.mem = true)

/-- Words of the spec's examples decode to the instructions they stand for (R193, R201, R204, R217, R218, R224, R229, R231 to R237, R306, R307). -/
def Obligations.DecodeWords : Prop :=
  ∀ k c : Nat,
    decodeThread k c 0x0601000000000240 = some (.loop k c 1 0x240) ∧ decodeThread k c 0x24330800FFFFFFFF = some (.add k c 3 3 (.imm (-1))) ∧
      decodeThread k c 0x3140000900000000 = some (.rds k c 4 9) ∧ decodeThread k c 0x3341080100000000 = some (.atadd k c 4 1 (.imm 0) false true 0) ∧
      decodeThread k c 0x4100080000177000 = some (.setp k c 0 (.imm 0x177000)) ∧ decodeThread k c 0x4350008000000000 = some (.expectCheck k c 5) ∧
      decodeThread k c 0x4600001100000000 = some (.psrange k c 1 true) ∧ decodeThread k c 0x6040080200000100 = some (.meas k c 4 false true (.imm 256)) ∧
      decodeThread k c 0x6180000000000000 = some (.accRc k c 8) ∧ decodeThread k c 0x6230080000000005 = some (.arm k c 3 (.imm 5)) ∧
      decodeThread k c 0x6760001200000000 = some (.stampRd k c 6 2) ∧ decodeThread k c 0x9154080100000200 = some (.segCopy k c 5 4 (.imm 0x200)) ∧
      decodeThread k c 0xFF00000000000000 = none

/-- Encoding and decoding agree (R186 to R189): every well-formed channel instruction has a word of 64 bits, which decodes to it with every operand. -/
def Obligations.RoundTrip : Prop :=
  ∀ (i : Instr) (k c : Nat), i.wf = true → i.thread = some (k, c) → ∃ w, encode i = some w ∧ w < 2 ^ 64 ∧ decodeThread k c w = some i.whole

/-- Every word that is not ILLEGAL is the one word of a well-formed instruction (R188): every reserved or unused bit counts, and no two words spell the same instruction. -/
def Obligations.DecodeExact : Prop :=
  ∀ (k c w : Nat) (i : Instr), k < 16 → c < 64 → w < 2 ^ 64 → decodeThread k c w = some i → i.wf = true ∧ i.thread = some (k, c) ∧ encode i = some w

/-- Words that halt with ILLEGAL (R188): a fetched word that is the encoding of no instruction - an opcode not listed, a field that is reserved or unused and not 0, a reserved SUB, CONDSEL, COND or class - halts its thread with cause ILLEGAL and has no other effect; the all-zero word is NOP. -/
def Obligations.IllegalWords : Prop :=
  ∀ (s : State) (k c tb w : Nat), s.powered → k < 16 → c < 64 →
    let d := s.dev
    let x := d.clus k
    let t := d.thread k c
    let at_ := targetBase k + x.get SEQ_PBASE_BASE + 8 * t.pc
    let en := x.entry (bits w 56 8)
    let fetches := x.on MCE_CTL_LOADED = true ∧ d.clState k = 0 ∧ t.state = 1 ∧ t.issued = none ∧ t.traps = [] ∧ t.pc < x.get SEQ_PSIZE_WORDS ∧
      BankOpen d k 3 at_ 8 tb ∧ w = memRead d.mem at_ 8 ∧ (bit en 14 = true → t.on SEQ_TCFG_PRIV = true) ∧ ∀ e ∈ x.bars, bit e.2 c = false
    (fetches → (listedOp (bits w 56 8) = false → en % 8192 = 0x80) → (∀ i : Instr, i.wf = true → i.thread = some (k, c) → encode i ≠ some w) →
        Halts (.instructionFetch k c none) s k c 2 ∧ Answers (.instructionFetch k c none) s fun e => (∀ j b, (j, b) ≠ (k, c) → e.thread j b = d.thread j b) ∧ e.ch = d.ch ∧
          (∀ j u, e.sti j u = d.sti j u) ∧ e.afe = d.afe ∧ e.grp = d.grp) ∧
      (∀ i : Instr, encode i = some w → i.wf = true → listedOp (bits w 56 8) = true) ∧ decodeThread k c 0 = some (.nop k c)

/-- Microword parity (R243): parity bit 160 + i covers bits [16i + 15:16i], and a slice with its parity bit holds an odd number of ones; the all-zero word carries 0x3FF. -/
def Obligations.MicrowordParity : Prop :=
  (∀ w i : Nat, i < 10 → ((List.range 16).countP (fun j => bit (withParity w) (16 * i + j)) + b2n (bit (withParity w) (160 + i))) % 2 = 1) ∧
    (∀ w : Nat, withParity w % 2 ^ 160 = w % 2 ^ 160 ∧ withParity w < 2 ^ 170) ∧ withParity 0 = 0x3FF * 2 ^ 160

/-- Memory keeps its canonical form through every step: addresses strictly rising, no byte listed that is 0. -/
def Obligations.MemoryCanonical : Prop :=
  ∀ s t : State, Memory.wf s.dev.mem = true → step s = .next t → Memory.wf t.dev.mem = true
end

