-- ==== Sys2Proof/Laws/Bits.lean ====
section
/-! SUPPORT. Bit fields: a field after it, or one beside it, has been replaced. -/

namespace Sys2Proof.Machine

theorem bit_eq_testBit (v i : Nat) : bit v i = v.testBit i := by
  simp only [bit, Nat.testBit_eq_decide_div_mod_eq]
  exact Bool.beq_eq_decide_eq _ _

theorem bits_eq (v lo w : Nat) : bits v lo w = v / 2 ^ lo % 2 ^ w := rfl

/-- `v` as the part above a field, the field and the part below it. -/
theorem split_field (v lo w : Nat) : v = v / 2 ^ (lo + w) * 2 ^ (lo + w) + bits v lo w * 2 ^ lo + v % 2 ^ lo := by
  have h1 := Nat.div_add_mod v (2 ^ lo)
  have h2 := Nat.div_add_mod (v / 2 ^ lo) (2 ^ w)
  have h3 : v / 2 ^ lo / 2 ^ w = v / 2 ^ (lo + w) := by rw [Nat.div_div_eq_div_mul, ← pow_add]
  rw [h3] at h2
  simp only [bits]
  have h4 : 2 ^ lo * (2 ^ w * (v / 2 ^ (lo + w)) + v / 2 ^ lo % 2 ^ w) + v % 2 ^ lo = v := by rw [h2, h1]
  calc v = 2 ^ lo * (2 ^ w * (v / 2 ^ (lo + w)) + v / 2 ^ lo % 2 ^ w) + v % 2 ^ lo := h4.symm
    _ = v / 2 ^ (lo + w) * (2 ^ lo * 2 ^ w) + v / 2 ^ lo % 2 ^ w * 2 ^ lo + v % 2 ^ lo := by ring
    _ = _ := by rw [← pow_add]

theorem setBits_eq (v lo w x : Nat) :
    setBits v lo w x = v / 2 ^ (lo + w) * 2 ^ (lo + w) + x % 2 ^ w * 2 ^ lo + v % 2 ^ lo := by
  have h := split_field v lo w
  unfold setBits
  generalize bits v lo w * 2 ^ lo = b at *
  omega

theorem testBit_setBits (v lo w x j : Nat) :
    (setBits v lo w x).testBit j = if lo ≤ j ∧ j < lo + w then x.testBit (j - lo) else v.testBit j := by
  have hx : x % 2 ^ w < 2 ^ w := Nat.mod_lt _ (Nat.two_pow_pos _)
  have hv : v % 2 ^ lo < 2 ^ lo := Nat.mod_lt _ (Nat.two_pow_pos _)
  rw [setBits_eq]
  have hr : x % 2 ^ w * 2 ^ lo + v % 2 ^ lo < 2 ^ (lo + w) := by
    rw [pow_add]
    have := Nat.mul_le_mul_right (2 ^ lo) (Nat.succ_le_of_lt hx)
    rw [Nat.succ_mul, mul_comm (2 ^ w)] at this
    omega
  have e : v / 2 ^ (lo + w) * 2 ^ (lo + w) + x % 2 ^ w * 2 ^ lo + v % 2 ^ lo
      = 2 ^ (lo + w) * (v / 2 ^ (lo + w)) + (2 ^ lo * (x % 2 ^ w) + v % 2 ^ lo) := by ring
  rw [e, Nat.testBit_two_pow_mul_add _ (by rw [mul_comm (2 ^ lo)]; exact hr), Nat.testBit_two_pow_mul_add _ hv]
  by_cases h1 : j < lo + w
  · by_cases h2 : j < lo
    · simp [h1, h2, Nat.testBit_mod_two_pow]
    · have h3 : lo ≤ j ∧ j < lo + w := by omega
      have h4 : j - lo < w := by omega
      simp [h1, h2, h3, h4, Nat.testBit_mod_two_pow]
  · have h3 : ¬ (lo ≤ j ∧ j < lo + w) := fun h => h1 h.2
    rw [if_neg h1, if_neg h3, Nat.testBit_div_two_pow, Nat.sub_add_cancel (by omega)]

@[simp] theorem bit_setBit_same (v i : Nat) (b : Bool) : bit (setBit v i b) i = b := by
  rw [bit_eq_testBit, setBit, testBit_setBits]
  cases b <;> simp [b2n]

theorem bit_setBit_ne {i j : Nat} (h : j ≠ i) (v : Nat) (b : Bool) : bit (setBit v i b) j = bit v j := by
  rw [bit_eq_testBit, bit_eq_testBit, setBit, testBit_setBits]
  rw [if_neg (by omega)]

theorem bit_mod {w i : Nat} (h : i < w) (v : Nat) : bit (v % 2 ^ w) i = bit v i := by
  simp [bit_eq_testBit, Nat.testBit_mod_two_pow, h]

theorem bits_testBit (v lo w j : Nat) : (bits v lo w).testBit j = (decide (j < w) && v.testBit (lo + j)) := by
  simp [bits, Nat.testBit_mod_two_pow, Nat.testBit_div_two_pow, Nat.add_comm]

/-- A field reads what was put into it. -/
@[simp] theorem bits_setBits_same (v lo w x : Nat) : bits (setBits v lo w x) lo w = x % 2 ^ w := by
  apply Nat.eq_of_testBit_eq
  intro j
  simp only [bits_testBit, testBit_setBits, Nat.testBit_mod_two_pow]
  by_cases h : j < w
  · simp [h]
  · simp [h]

/-- A field beside the one replaced keeps its value. -/
theorem bits_setBits_ne {v lo w x lo' w' : Nat} (h : lo' + w' ≤ lo ∨ lo + w ≤ lo') : bits (setBits v lo w x) lo' w' = bits v lo' w' := by
  apply Nat.eq_of_testBit_eq
  intro j
  simp only [bits_testBit, testBit_setBits]
  by_cases hj : j < w'
  · have : ¬ (lo ≤ lo' + j ∧ lo' + j < lo + w) := by omega
    simp [this]
  · simp [hj]

theorem setBit_lt {v w i : Nat} (h : v < 2 ^ w) (hi : i < w) (b : Bool) : setBit v i b < 2 ^ w := by
  apply Nat.lt_pow_two_of_testBit
  intro j hj
  rw [setBit, testBit_setBits]
  have : ¬ (i ≤ j ∧ j < i + 1) := by omega
  rw [if_neg this]
  exact Nat.testBit_lt_two_pow (Nat.lt_of_lt_of_le h (Nat.pow_le_pow_right (by decide) hj))

end Sys2Proof.Machine
end

