-- ==== Sys2Proof/Laws/Regs.lean ====
section
/-! SUPPORT. What a field reads after a write of it or of another field, whatever the register file lists. -/

namespace Sys2Proof.Machine

theorem Regs.look_drop_same (k : Nat) (r : Regs) : Regs.look k (Regs.drop k r) = none := by
  induction r with
  | nil => rfl
  | cons e t ih =>
    by_cases h : e.1 = k
    · simpa [Regs.drop, h] using ih
    · simpa [Regs.drop, h, Regs.look] using ih

theorem Regs.look_drop_ne {k j : Nat} (h : j ≠ k) (r : Regs) : Regs.look j (Regs.drop k r) = Regs.look j r := by
  induction r with
  | nil => rfl
  | cons e t ih =>
    by_cases hk : e.1 = k
    · have : ¬ e.1 = j := by omega
      simpa [Regs.drop, Regs.look, hk, this, h.symm] using ih
    · by_cases hj : e.1 = j
      · simp [Regs.drop, Regs.look, hj, h]
      · simpa [Regs.drop, Regs.look, hk, hj] using ih

theorem Regs.look_put_same (k v : Nat) (r : Regs) : Regs.look k (Regs.put k v r) = some v := by
  induction r with
  | nil => simp [Regs.put, Regs.look]
  | cons e t ih =>
    unfold Regs.put
    split
    · simp [Regs.look]
    · split
      · simp [Regs.look]
      · rename_i h; simp [Regs.look, h, ih]

theorem Regs.look_put_ne {k j : Nat} (h : j ≠ k) (v : Nat) (r : Regs) : Regs.look j (Regs.put k v r) = Regs.look j r := by
  induction r with
  | nil => simp [Regs.put, Regs.look, h.symm]
  | cons e t ih =>
    unfold Regs.put
    split
    · simp [Regs.look, h.symm]
    · split
      · rename_i hk; have : ¬ e.1 = j := by omega
        simp [Regs.look, h.symm, this]
      · simp [Regs.look, ih]

/-- A field reads what was written, cut to its width. -/
@[simp] theorem Regs.get_set_same (r : Regs) (f : Fld) (v : Nat) : (r.set f v).get f = v % 2 ^ f.width := by
  unfold Regs.set Regs.get
  split
  · rename_i h; simp [Regs.look_drop_same, h]
  · simp [Regs.look_put_same]

/-- A write of one field leaves every other field. -/
theorem Regs.get_set_ne {f g : Fld} (h : g.key ≠ f.key) (r : Regs) (v : Nat) : (r.set f v).get g = r.get g := by
  unfold Regs.set Regs.get
  split
  · rw [Regs.look_drop_ne h]
  · rw [Regs.look_put_ne h, Regs.look_drop_ne h]

@[simp] theorem Regs.get_setB_same (r : Regs) (f : Fld) (b : Bool) : (r.setB f b).get f = b2n b % 2 ^ f.width :=
  Regs.get_set_same r f _
theorem Regs.get_setB_ne {f g : Fld} (h : g.key ≠ f.key) (r : Regs) (b : Bool) : (r.setB f b).get g = r.get g :=
  Regs.get_set_ne h r _
theorem Regs.on_setB_same {f : Fld} (h : 0 < f.width) (r : Regs) (b : Bool) : (r.setB f b).on f = b := by
  have h2 : 1 < 2 ^ f.width := Nat.one_lt_two_pow (by omega)
  cases b <;> simp [Regs.on, b2n, Nat.mod_eq_of_lt h2]
theorem Regs.on_set_ne {f g : Fld} (h : g.key ≠ f.key) (r : Regs) (v : Nat) : (r.set f v).on g = r.on g := by
  simp [Regs.on, Regs.get_set_ne h]
theorem Regs.on_setB_ne {f g : Fld} (h : g.key ≠ f.key) (r : Regs) (b : Bool) : (r.setB f b).on g = r.on g :=
  Regs.on_set_ne h r _
@[simp] theorem Regs.get_bump_same (r : Regs) (f : Fld) (n : Nat) : (r.bump f n).get f = min (r.get f + n) (2 ^ f.width - 1) := by
  have h : 0 < 2 ^ f.width := Nat.two_pow_pos _
  simp only [Regs.bump, Regs.get_set_same, satInc]
  exact Nat.mod_eq_of_lt (by omega)
theorem Regs.get_bump_ne {f g : Fld} (h : g.key ≠ f.key) (r : Regs) (n : Nat) : (r.bump f n).get g = r.get g :=
  Regs.get_set_ne h r _

end Sys2Proof.Machine
end

