-- ==== Sys2Proof/Laws/Tab.lean ====
section
/-! SUPPORT. Units of a table after a change of one or of all. -/

namespace Sys2Proof.Machine

variable {α : Type} {n : Nat}

theorem Tab.getD_modify_same (t : Tab α n) {i : Nat} (h : i < n) (f : α → α) (x : α) :
    (t.modify i f).getD i x = f (t.getD i x) := by
  have hl : i < t.val.length := by rw [t.len]; exact h
  simp [Tab.modify, Tab.getD, List.getD_eq_getElem?_getD, hl]

theorem Tab.getD_modify_ne (t : Tab α n) {i j : Nat} (h : j ≠ i) (f : α → α) (x : α) :
    (t.modify i f).getD j x = t.getD j x := by
  simp [Tab.modify, Tab.getD, List.getD_eq_getElem?_getD, h.symm]

theorem Tab.getD_map (t : Tab α n) {i : Nat} (h : i < n) (f : α → α) (x : α) :
    (t.map f).getD i x = f (t.getD i x) := by
  have hl : i < t.val.length := by rw [t.len]; exact h
  simp [Tab.map, Tab.getD, List.getD_eq_getElem?_getD, hl]

theorem Tab.getD_mapIdx (t : Tab α n) {i : Nat} (h : i < n) (f : Nat → α → α) (x : α) :
    (t.mapIdx f).getD i x = f i (t.getD i x) := by
  have hl : i < t.val.length := by rw [t.len]; exact h
  simp [Tab.mapIdx, Tab.getD, List.getD_eq_getElem?_getD, hl]

@[simp] theorem Tab.getD_all {i : Nat} (x : α) : ((Tab.all_ x : Tab α n)).getD i x = x := by
  simp only [Tab.all_, Tab.getD, List.getD_eq_getElem?_getD, List.getElem?_replicate]
  split <;> rfl

end Sys2Proof.Machine
end

