-- ==== Sys2Proof/Laws/State.lean ====
section
/-! SUPPORT. What each field of the state and each unit is after one update: one small lemma per field and update. -/

namespace Sys2Proof.Machine

/-! ### Commands on the state -/

@[simp] theorem State.apply_pending (s : State) (f : Device → Device) : (s.apply f).pending = s.pending := rfl
@[simp] theorem State.apply_dev (s : State) (f : Device → Device) : (s.apply f).dev = s.dev.watch (f s.dev) := rfl
theorem State.run_on {s : State} (h : s.dev.pw.phase = 2) (f : Device → Device) : s.run f = .next (s.apply f) := by simp [State.run, h]
theorem State.run_off {s : State} (h : s.dev.pw.phase ≠ 2) (f : Device → Device) : s.run f = .next s := by simp [State.run, h]
theorem State.runHost_on {s : State} (h : s.dev.pw.phase = 2) (g : s.dev.pw.failAt = none) (f : Device → Device) :
    s.runHost f = .next (s.apply f) := by simp [State.runHost, h, g]
theorem State.runHost_off {s : State} (h : s.dev.pw.phase ≠ 2 ∨ s.dev.pw.failAt ≠ none) (f : Device → Device) : s.runHost f = .next s := by
  rcases h with h | h <;> simp [State.runHost, h]
theorem State.runPower_on (s : State) (f : Device → Device) : s.runPower f = .next (s.apply f) := rfl

/-! ### Fields after an update -/

@[simp] theorem Device.set_dt (f : Fld) (v : Nat) (d : Device) : (d.set f v).dt = d.dt := rfl
@[simp] theorem Device.set_free (f : Fld) (v : Nat) (d : Device) : (d.set f v).free = d.free := rfl
@[simp] theorem Device.set_afe (f : Fld) (v : Nat) (d : Device) : (d.set f v).afe = d.afe := rfl
@[simp] theorem Device.set_cl (f : Fld) (v : Nat) (d : Device) : (d.set f v).cl = d.cl := rfl
@[simp] theorem Device.set_grp (f : Fld) (v : Nat) (d : Device) : (d.set f v).grp = d.grp := rfl
@[simp] theorem Device.set_ch (f : Fld) (v : Nat) (d : Device) : (d.set f v).ch = d.ch := rfl
@[simp] theorem Device.set_mem (f : Fld) (v : Nat) (d : Device) : (d.set f v).mem = d.mem := rfl
@[simp] theorem Device.set_bad (f : Fld) (v : Nat) (d : Device) : (d.set f v).bad = d.bad := rfl
@[simp] theorem Device.set_soft (f : Fld) (v : Nat) (d : Device) : (d.set f v).soft = d.soft := rfl
@[simp] theorem Device.set_wback (f : Fld) (v : Nat) (d : Device) : (d.set f v).wback = d.wback := rfl
@[simp] theorem Device.set_regWait (f : Fld) (v : Nat) (d : Device) : (d.set f v).regWait = d.regWait := rfl
@[simp] theorem Device.set_btAt (f : Fld) (v : Nat) (d : Device) : (d.set f v).btAt = d.btAt := rfl
@[simp] theorem Device.set_btNext (f : Fld) (v : Nat) (d : Device) : (d.set f v).btNext = d.btNext := rfl
@[simp] theorem Device.set_btTested (f : Fld) (v : Nat) (d : Device) : (d.set f v).btTested = d.btTested := rfl
@[simp] theorem Device.set_btSkipped (f : Fld) (v : Nat) (d : Device) : (d.set f v).btSkipped = d.btSkipped := rfl
@[simp] theorem Device.set_caught (f : Fld) (v : Nat) (d : Device) : (d.set f v).caught = d.caught := rfl
@[simp] theorem Device.set_held (f : Fld) (v : Nat) (d : Device) : (d.set f v).held = d.held := rfl
@[simp] theorem Device.set_resp (f : Fld) (v : Nat) (d : Device) : (d.set f v).resp = d.resp := rfl
@[simp] theorem Device.set_lockQ (f : Fld) (v : Nat) (d : Device) : (d.set f v).lockQ = d.lockQ := rfl
@[simp] theorem Device.set_evt (f : Fld) (v : Nat) (d : Device) : (d.set f v).evt = d.evt := rfl
@[simp] theorem Device.set_lampQ (f : Fld) (v : Nat) (d : Device) : (d.set f v).lampQ = d.lampQ := rfl
@[simp] theorem Device.set_tb (f : Fld) (v : Nat) (d : Device) : (d.set f v).tb = d.tb := rfl
@[simp] theorem Device.set_roleDone (f : Fld) (v : Nat) (d : Device) : (d.set f v).roleDone = d.roleDone := rfl
@[simp] theorem Device.set_bootRole (f : Fld) (v : Nat) (d : Device) : (d.set f v).bootRole = d.bootRole := rfl
@[simp] theorem Device.set_roleDirty (f : Fld) (v : Nat) (d : Device) : (d.set f v).roleDirty = d.roleDirty := rfl
@[simp] theorem Device.set_bcn (f : Fld) (v : Nat) (d : Device) : (d.set f v).bcn = d.bcn := rfl
@[simp] theorem Device.set_fef (f : Fld) (v : Nat) (d : Device) : (d.set f v).fef = d.fef := rfl
@[simp] theorem Device.set_oseq (f : Fld) (v : Nat) (d : Device) : (d.set f v).oseq = d.oseq := rfl
@[simp] theorem Device.set_evSeen (f : Fld) (v : Nat) (d : Device) : (d.set f v).evSeen = d.evSeen := rfl
@[simp] theorem Device.set_fail (f : Fld) (v : Nat) (d : Device) : (d.set f v).fail = d.fail := rfl
@[simp] theorem Device.set_mot (f : Fld) (v : Nat) (d : Device) : (d.set f v).mot = d.mot := rfl
@[simp] theorem Device.set_ct (f : Fld) (v : Nat) (d : Device) : (d.set f v).ct = d.ct := rfl
@[simp] theorem Device.set_records (f : Fld) (v : Nat) (d : Device) : (d.set f v).records = d.records := rfl
@[simp] theorem Device.set_ddr (f : Fld) (v : Nat) (d : Device) : (d.set f v).ddr = d.ddr := rfl
@[simp] theorem Device.set_dsp (f : Fld) (v : Nat) (d : Device) : (d.set f v).dsp = d.dsp := rfl
@[simp] theorem Device.set_sess (f : Fld) (v : Nat) (d : Device) : (d.set f v).sess = d.sess := rfl
@[simp] theorem Device.set_lapOut (f : Fld) (v : Nat) (d : Device) : (d.set f v).lapOut = d.lapOut := rfl
@[simp] theorem Device.set_wear (f : Fld) (v : Nat) (d : Device) : (d.set f v).wear = d.wear := rfl
@[simp] theorem Device.set_lanes (f : Fld) (v : Nat) (d : Device) : (d.set f v).lanes = d.lanes := rfl
@[simp] theorem Device.set_lanesAt (f : Fld) (v : Nat) (d : Device) : (d.set f v).lanesAt = d.lanesAt := rfl
@[simp] theorem Device.set_ilkOpen (f : Fld) (v : Nat) (d : Device) : (d.set f v).ilkOpen = d.ilkOpen := rfl
@[simp] theorem Device.set_hot (f : Fld) (v : Nat) (d : Device) : (d.set f v).hot = d.hot := rfl
@[simp] theorem Device.set_temps (f : Fld) (v : Nat) (d : Device) : (d.set f v).temps = d.temps := rfl
@[simp] theorem Device.set_pw (f : Fld) (v : Nat) (d : Device) : (d.set f v).pw = d.pw := rfl
@[simp] theorem Device.set_sec (f : Fld) (v : Nat) (d : Device) : (d.set f v).sec = d.sec := rfl
@[simp] theorem Device.set_health (f : Fld) (v : Nat) (d : Device) : (d.set f v).health = d.health := rfl

@[simp] theorem Device.setB_dt (f : Fld) (b : Bool) (d : Device) : (d.setB f b).dt = d.dt := rfl
@[simp] theorem Device.setB_free (f : Fld) (b : Bool) (d : Device) : (d.setB f b).free = d.free := rfl
@[simp] theorem Device.setB_afe (f : Fld) (b : Bool) (d : Device) : (d.setB f b).afe = d.afe := rfl
@[simp] theorem Device.setB_cl (f : Fld) (b : Bool) (d : Device) : (d.setB f b).cl = d.cl := rfl
@[simp] theorem Device.setB_grp (f : Fld) (b : Bool) (d : Device) : (d.setB f b).grp = d.grp := rfl
@[simp] theorem Device.setB_ch (f : Fld) (b : Bool) (d : Device) : (d.setB f b).ch = d.ch := rfl
@[simp] theorem Device.setB_mem (f : Fld) (b : Bool) (d : Device) : (d.setB f b).mem = d.mem := rfl
@[simp] theorem Device.setB_bad (f : Fld) (b : Bool) (d : Device) : (d.setB f b).bad = d.bad := rfl
@[simp] theorem Device.setB_soft (f : Fld) (b : Bool) (d : Device) : (d.setB f b).soft = d.soft := rfl
@[simp] theorem Device.setB_wback (f : Fld) (b : Bool) (d : Device) : (d.setB f b).wback = d.wback := rfl
@[simp] theorem Device.setB_regWait (f : Fld) (b : Bool) (d : Device) : (d.setB f b).regWait = d.regWait := rfl
@[simp] theorem Device.setB_btAt (f : Fld) (b : Bool) (d : Device) : (d.setB f b).btAt = d.btAt := rfl
@[simp] theorem Device.setB_btNext (f : Fld) (b : Bool) (d : Device) : (d.setB f b).btNext = d.btNext := rfl
@[simp] theorem Device.setB_btTested (f : Fld) (b : Bool) (d : Device) : (d.setB f b).btTested = d.btTested := rfl
@[simp] theorem Device.setB_btSkipped (f : Fld) (b : Bool) (d : Device) : (d.setB f b).btSkipped = d.btSkipped := rfl
@[simp] theorem Device.setB_caught (f : Fld) (b : Bool) (d : Device) : (d.setB f b).caught = d.caught := rfl
@[simp] theorem Device.setB_held (f : Fld) (b : Bool) (d : Device) : (d.setB f b).held = d.held := rfl
@[simp] theorem Device.setB_resp (f : Fld) (b : Bool) (d : Device) : (d.setB f b).resp = d.resp := rfl
@[simp] theorem Device.setB_lockQ (f : Fld) (b : Bool) (d : Device) : (d.setB f b).lockQ = d.lockQ := rfl
@[simp] theorem Device.setB_evt (f : Fld) (b : Bool) (d : Device) : (d.setB f b).evt = d.evt := rfl
@[simp] theorem Device.setB_lampQ (f : Fld) (b : Bool) (d : Device) : (d.setB f b).lampQ = d.lampQ := rfl
@[simp] theorem Device.setB_tb (f : Fld) (b : Bool) (d : Device) : (d.setB f b).tb = d.tb := rfl
@[simp] theorem Device.setB_roleDone (f : Fld) (b : Bool) (d : Device) : (d.setB f b).roleDone = d.roleDone := rfl
@[simp] theorem Device.setB_bootRole (f : Fld) (b : Bool) (d : Device) : (d.setB f b).bootRole = d.bootRole := rfl
@[simp] theorem Device.setB_roleDirty (f : Fld) (b : Bool) (d : Device) : (d.setB f b).roleDirty = d.roleDirty := rfl
@[simp] theorem Device.setB_bcn (f : Fld) (b : Bool) (d : Device) : (d.setB f b).bcn = d.bcn := rfl
@[simp] theorem Device.setB_fef (f : Fld) (b : Bool) (d : Device) : (d.setB f b).fef = d.fef := rfl
@[simp] theorem Device.setB_oseq (f : Fld) (b : Bool) (d : Device) : (d.setB f b).oseq = d.oseq := rfl
@[simp] theorem Device.setB_evSeen (f : Fld) (b : Bool) (d : Device) : (d.setB f b).evSeen = d.evSeen := rfl
@[simp] theorem Device.setB_fail (f : Fld) (b : Bool) (d : Device) : (d.setB f b).fail = d.fail := rfl
@[simp] theorem Device.setB_mot (f : Fld) (b : Bool) (d : Device) : (d.setB f b).mot = d.mot := rfl
@[simp] theorem Device.setB_ct (f : Fld) (b : Bool) (d : Device) : (d.setB f b).ct = d.ct := rfl
@[simp] theorem Device.setB_records (f : Fld) (b : Bool) (d : Device) : (d.setB f b).records = d.records := rfl
@[simp] theorem Device.setB_ddr (f : Fld) (b : Bool) (d : Device) : (d.setB f b).ddr = d.ddr := rfl
@[simp] theorem Device.setB_dsp (f : Fld) (b : Bool) (d : Device) : (d.setB f b).dsp = d.dsp := rfl
@[simp] theorem Device.setB_sess (f : Fld) (b : Bool) (d : Device) : (d.setB f b).sess = d.sess := rfl
@[simp] theorem Device.setB_lapOut (f : Fld) (b : Bool) (d : Device) : (d.setB f b).lapOut = d.lapOut := rfl
@[simp] theorem Device.setB_wear (f : Fld) (b : Bool) (d : Device) : (d.setB f b).wear = d.wear := rfl
@[simp] theorem Device.setB_lanes (f : Fld) (b : Bool) (d : Device) : (d.setB f b).lanes = d.lanes := rfl
@[simp] theorem Device.setB_lanesAt (f : Fld) (b : Bool) (d : Device) : (d.setB f b).lanesAt = d.lanesAt := rfl
@[simp] theorem Device.setB_ilkOpen (f : Fld) (b : Bool) (d : Device) : (d.setB f b).ilkOpen = d.ilkOpen := rfl
@[simp] theorem Device.setB_hot (f : Fld) (b : Bool) (d : Device) : (d.setB f b).hot = d.hot := rfl
@[simp] theorem Device.setB_temps (f : Fld) (b : Bool) (d : Device) : (d.setB f b).temps = d.temps := rfl
@[simp] theorem Device.setB_pw (f : Fld) (b : Bool) (d : Device) : (d.setB f b).pw = d.pw := rfl
@[simp] theorem Device.setB_sec (f : Fld) (b : Bool) (d : Device) : (d.setB f b).sec = d.sec := rfl
@[simp] theorem Device.setB_health (f : Fld) (b : Bool) (d : Device) : (d.setB f b).health = d.health := rfl

@[simp] theorem Device.bump_dt (f : Fld) (n : Nat) (d : Device) : (d.bump f n).dt = d.dt := rfl
@[simp] theorem Device.bump_free (f : Fld) (n : Nat) (d : Device) : (d.bump f n).free = d.free := rfl
@[simp] theorem Device.bump_afe (f : Fld) (n : Nat) (d : Device) : (d.bump f n).afe = d.afe := rfl
@[simp] theorem Device.bump_cl (f : Fld) (n : Nat) (d : Device) : (d.bump f n).cl = d.cl := rfl
@[simp] theorem Device.bump_grp (f : Fld) (n : Nat) (d : Device) : (d.bump f n).grp = d.grp := rfl
@[simp] theorem Device.bump_ch (f : Fld) (n : Nat) (d : Device) : (d.bump f n).ch = d.ch := rfl
@[simp] theorem Device.bump_mem (f : Fld) (n : Nat) (d : Device) : (d.bump f n).mem = d.mem := rfl
@[simp] theorem Device.bump_bad (f : Fld) (n : Nat) (d : Device) : (d.bump f n).bad = d.bad := rfl
@[simp] theorem Device.bump_soft (f : Fld) (n : Nat) (d : Device) : (d.bump f n).soft = d.soft := rfl
@[simp] theorem Device.bump_wback (f : Fld) (n : Nat) (d : Device) : (d.bump f n).wback = d.wback := rfl
@[simp] theorem Device.bump_regWait (f : Fld) (n : Nat) (d : Device) : (d.bump f n).regWait = d.regWait := rfl
@[simp] theorem Device.bump_btAt (f : Fld) (n : Nat) (d : Device) : (d.bump f n).btAt = d.btAt := rfl
@[simp] theorem Device.bump_btNext (f : Fld) (n : Nat) (d : Device) : (d.bump f n).btNext = d.btNext := rfl
@[simp] theorem Device.bump_btTested (f : Fld) (n : Nat) (d : Device) : (d.bump f n).btTested = d.btTested := rfl
@[simp] theorem Device.bump_btSkipped (f : Fld) (n : Nat) (d : Device) : (d.bump f n).btSkipped = d.btSkipped := rfl
@[simp] theorem Device.bump_caught (f : Fld) (n : Nat) (d : Device) : (d.bump f n).caught = d.caught := rfl
@[simp] theorem Device.bump_held (f : Fld) (n : Nat) (d : Device) : (d.bump f n).held = d.held := rfl
@[simp] theorem Device.bump_resp (f : Fld) (n : Nat) (d : Device) : (d.bump f n).resp = d.resp := rfl
@[simp] theorem Device.bump_lockQ (f : Fld) (n : Nat) (d : Device) : (d.bump f n).lockQ = d.lockQ := rfl
@[simp] theorem Device.bump_evt (f : Fld) (n : Nat) (d : Device) : (d.bump f n).evt = d.evt := rfl
@[simp] theorem Device.bump_lampQ (f : Fld) (n : Nat) (d : Device) : (d.bump f n).lampQ = d.lampQ := rfl
@[simp] theorem Device.bump_tb (f : Fld) (n : Nat) (d : Device) : (d.bump f n).tb = d.tb := rfl
@[simp] theorem Device.bump_roleDone (f : Fld) (n : Nat) (d : Device) : (d.bump f n).roleDone = d.roleDone := rfl
@[simp] theorem Device.bump_bootRole (f : Fld) (n : Nat) (d : Device) : (d.bump f n).bootRole = d.bootRole := rfl
@[simp] theorem Device.bump_roleDirty (f : Fld) (n : Nat) (d : Device) : (d.bump f n).roleDirty = d.roleDirty := rfl
@[simp] theorem Device.bump_bcn (f : Fld) (n : Nat) (d : Device) : (d.bump f n).bcn = d.bcn := rfl
@[simp] theorem Device.bump_fef (f : Fld) (n : Nat) (d : Device) : (d.bump f n).fef = d.fef := rfl
@[simp] theorem Device.bump_oseq (f : Fld) (n : Nat) (d : Device) : (d.bump f n).oseq = d.oseq := rfl
@[simp] theorem Device.bump_evSeen (f : Fld) (n : Nat) (d : Device) : (d.bump f n).evSeen = d.evSeen := rfl
@[simp] theorem Device.bump_fail (f : Fld) (n : Nat) (d : Device) : (d.bump f n).fail = d.fail := rfl
@[simp] theorem Device.bump_mot (f : Fld) (n : Nat) (d : Device) : (d.bump f n).mot = d.mot := rfl
@[simp] theorem Device.bump_ct (f : Fld) (n : Nat) (d : Device) : (d.bump f n).ct = d.ct := rfl
@[simp] theorem Device.bump_records (f : Fld) (n : Nat) (d : Device) : (d.bump f n).records = d.records := rfl
@[simp] theorem Device.bump_ddr (f : Fld) (n : Nat) (d : Device) : (d.bump f n).ddr = d.ddr := rfl
@[simp] theorem Device.bump_dsp (f : Fld) (n : Nat) (d : Device) : (d.bump f n).dsp = d.dsp := rfl
@[simp] theorem Device.bump_sess (f : Fld) (n : Nat) (d : Device) : (d.bump f n).sess = d.sess := rfl
@[simp] theorem Device.bump_lapOut (f : Fld) (n : Nat) (d : Device) : (d.bump f n).lapOut = d.lapOut := rfl
@[simp] theorem Device.bump_wear (f : Fld) (n : Nat) (d : Device) : (d.bump f n).wear = d.wear := rfl
@[simp] theorem Device.bump_lanes (f : Fld) (n : Nat) (d : Device) : (d.bump f n).lanes = d.lanes := rfl
@[simp] theorem Device.bump_lanesAt (f : Fld) (n : Nat) (d : Device) : (d.bump f n).lanesAt = d.lanesAt := rfl
@[simp] theorem Device.bump_ilkOpen (f : Fld) (n : Nat) (d : Device) : (d.bump f n).ilkOpen = d.ilkOpen := rfl
@[simp] theorem Device.bump_hot (f : Fld) (n : Nat) (d : Device) : (d.bump f n).hot = d.hot := rfl
@[simp] theorem Device.bump_temps (f : Fld) (n : Nat) (d : Device) : (d.bump f n).temps = d.temps := rfl
@[simp] theorem Device.bump_pw (f : Fld) (n : Nat) (d : Device) : (d.bump f n).pw = d.pw := rfl
@[simp] theorem Device.bump_sec (f : Fld) (n : Nat) (d : Device) : (d.bump f n).sec = d.sec := rfl
@[simp] theorem Device.bump_health (f : Fld) (n : Nat) (d : Device) : (d.bump f n).health = d.health := rfl

@[simp] theorem Device.modChan_dt (n : Nat) (f : Chan → Chan) (d : Device) : (d.modChan n f).dt = d.dt := rfl
@[simp] theorem Device.modChan_free (n : Nat) (f : Chan → Chan) (d : Device) : (d.modChan n f).free = d.free := rfl
@[simp] theorem Device.modChan_regs (n : Nat) (f : Chan → Chan) (d : Device) : (d.modChan n f).regs = d.regs := rfl
@[simp] theorem Device.modChan_afe (n : Nat) (f : Chan → Chan) (d : Device) : (d.modChan n f).afe = d.afe := rfl
@[simp] theorem Device.modChan_cl (n : Nat) (f : Chan → Chan) (d : Device) : (d.modChan n f).cl = d.cl := rfl
@[simp] theorem Device.modChan_grp (n : Nat) (f : Chan → Chan) (d : Device) : (d.modChan n f).grp = d.grp := rfl
@[simp] theorem Device.modChan_mem (n : Nat) (f : Chan → Chan) (d : Device) : (d.modChan n f).mem = d.mem := rfl
@[simp] theorem Device.modChan_bad (n : Nat) (f : Chan → Chan) (d : Device) : (d.modChan n f).bad = d.bad := rfl
@[simp] theorem Device.modChan_soft (n : Nat) (f : Chan → Chan) (d : Device) : (d.modChan n f).soft = d.soft := rfl
@[simp] theorem Device.modChan_wback (n : Nat) (f : Chan → Chan) (d : Device) : (d.modChan n f).wback = d.wback := rfl
@[simp] theorem Device.modChan_regWait (n : Nat) (f : Chan → Chan) (d : Device) : (d.modChan n f).regWait = d.regWait := rfl
@[simp] theorem Device.modChan_btAt (n : Nat) (f : Chan → Chan) (d : Device) : (d.modChan n f).btAt = d.btAt := rfl
@[simp] theorem Device.modChan_btNext (n : Nat) (f : Chan → Chan) (d : Device) : (d.modChan n f).btNext = d.btNext := rfl
@[simp] theorem Device.modChan_btTested (n : Nat) (f : Chan → Chan) (d : Device) : (d.modChan n f).btTested = d.btTested := rfl
@[simp] theorem Device.modChan_btSkipped (n : Nat) (f : Chan → Chan) (d : Device) : (d.modChan n f).btSkipped = d.btSkipped := rfl
@[simp] theorem Device.modChan_caught (n : Nat) (f : Chan → Chan) (d : Device) : (d.modChan n f).caught = d.caught := rfl
@[simp] theorem Device.modChan_held (n : Nat) (f : Chan → Chan) (d : Device) : (d.modChan n f).held = d.held := rfl
@[simp] theorem Device.modChan_resp (n : Nat) (f : Chan → Chan) (d : Device) : (d.modChan n f).resp = d.resp := rfl
@[simp] theorem Device.modChan_lockQ (n : Nat) (f : Chan → Chan) (d : Device) : (d.modChan n f).lockQ = d.lockQ := rfl
@[simp] theorem Device.modChan_evt (n : Nat) (f : Chan → Chan) (d : Device) : (d.modChan n f).evt = d.evt := rfl
@[simp] theorem Device.modChan_lampQ (n : Nat) (f : Chan → Chan) (d : Device) : (d.modChan n f).lampQ = d.lampQ := rfl
@[simp] theorem Device.modChan_tb (n : Nat) (f : Chan → Chan) (d : Device) : (d.modChan n f).tb = d.tb := rfl
@[simp] theorem Device.modChan_roleDone (n : Nat) (f : Chan → Chan) (d : Device) : (d.modChan n f).roleDone = d.roleDone := rfl
@[simp] theorem Device.modChan_bootRole (n : Nat) (f : Chan → Chan) (d : Device) : (d.modChan n f).bootRole = d.bootRole := rfl
@[simp] theorem Device.modChan_roleDirty (n : Nat) (f : Chan → Chan) (d : Device) : (d.modChan n f).roleDirty = d.roleDirty := rfl
@[simp] theorem Device.modChan_bcn (n : Nat) (f : Chan → Chan) (d : Device) : (d.modChan n f).bcn = d.bcn := rfl
@[simp] theorem Device.modChan_fef (n : Nat) (f : Chan → Chan) (d : Device) : (d.modChan n f).fef = d.fef := rfl
@[simp] theorem Device.modChan_oseq (n : Nat) (f : Chan → Chan) (d : Device) : (d.modChan n f).oseq = d.oseq := rfl
@[simp] theorem Device.modChan_evSeen (n : Nat) (f : Chan → Chan) (d : Device) : (d.modChan n f).evSeen = d.evSeen := rfl
@[simp] theorem Device.modChan_fail (n : Nat) (f : Chan → Chan) (d : Device) : (d.modChan n f).fail = d.fail := rfl
@[simp] theorem Device.modChan_mot (n : Nat) (f : Chan → Chan) (d : Device) : (d.modChan n f).mot = d.mot := rfl
@[simp] theorem Device.modChan_ct (n : Nat) (f : Chan → Chan) (d : Device) : (d.modChan n f).ct = d.ct := rfl
@[simp] theorem Device.modChan_records (n : Nat) (f : Chan → Chan) (d : Device) : (d.modChan n f).records = d.records := rfl
@[simp] theorem Device.modChan_ddr (n : Nat) (f : Chan → Chan) (d : Device) : (d.modChan n f).ddr = d.ddr := rfl
@[simp] theorem Device.modChan_dsp (n : Nat) (f : Chan → Chan) (d : Device) : (d.modChan n f).dsp = d.dsp := rfl
@[simp] theorem Device.modChan_sess (n : Nat) (f : Chan → Chan) (d : Device) : (d.modChan n f).sess = d.sess := rfl
@[simp] theorem Device.modChan_lapOut (n : Nat) (f : Chan → Chan) (d : Device) : (d.modChan n f).lapOut = d.lapOut := rfl
@[simp] theorem Device.modChan_wear (n : Nat) (f : Chan → Chan) (d : Device) : (d.modChan n f).wear = d.wear := rfl
@[simp] theorem Device.modChan_lanes (n : Nat) (f : Chan → Chan) (d : Device) : (d.modChan n f).lanes = d.lanes := rfl
@[simp] theorem Device.modChan_lanesAt (n : Nat) (f : Chan → Chan) (d : Device) : (d.modChan n f).lanesAt = d.lanesAt := rfl
@[simp] theorem Device.modChan_ilkOpen (n : Nat) (f : Chan → Chan) (d : Device) : (d.modChan n f).ilkOpen = d.ilkOpen := rfl
@[simp] theorem Device.modChan_hot (n : Nat) (f : Chan → Chan) (d : Device) : (d.modChan n f).hot = d.hot := rfl
@[simp] theorem Device.modChan_temps (n : Nat) (f : Chan → Chan) (d : Device) : (d.modChan n f).temps = d.temps := rfl
@[simp] theorem Device.modChan_pw (n : Nat) (f : Chan → Chan) (d : Device) : (d.modChan n f).pw = d.pw := rfl
@[simp] theorem Device.modChan_sec (n : Nat) (f : Chan → Chan) (d : Device) : (d.modChan n f).sec = d.sec := rfl
@[simp] theorem Device.modChan_health (n : Nat) (f : Chan → Chan) (d : Device) : (d.modChan n f).health = d.health := rfl

@[simp] theorem Device.modGrp_dt (g : Nat) (f : Grp → Grp) (d : Device) : (d.modGrp g f).dt = d.dt := rfl
@[simp] theorem Device.modGrp_free (g : Nat) (f : Grp → Grp) (d : Device) : (d.modGrp g f).free = d.free := rfl
@[simp] theorem Device.modGrp_regs (g : Nat) (f : Grp → Grp) (d : Device) : (d.modGrp g f).regs = d.regs := rfl
@[simp] theorem Device.modGrp_afe (g : Nat) (f : Grp → Grp) (d : Device) : (d.modGrp g f).afe = d.afe := rfl
@[simp] theorem Device.modGrp_cl (g : Nat) (f : Grp → Grp) (d : Device) : (d.modGrp g f).cl = d.cl := rfl
@[simp] theorem Device.modGrp_ch (g : Nat) (f : Grp → Grp) (d : Device) : (d.modGrp g f).ch = d.ch := rfl
@[simp] theorem Device.modGrp_mem (g : Nat) (f : Grp → Grp) (d : Device) : (d.modGrp g f).mem = d.mem := rfl
@[simp] theorem Device.modGrp_bad (g : Nat) (f : Grp → Grp) (d : Device) : (d.modGrp g f).bad = d.bad := rfl
@[simp] theorem Device.modGrp_soft (g : Nat) (f : Grp → Grp) (d : Device) : (d.modGrp g f).soft = d.soft := rfl
@[simp] theorem Device.modGrp_wback (g : Nat) (f : Grp → Grp) (d : Device) : (d.modGrp g f).wback = d.wback := rfl
@[simp] theorem Device.modGrp_regWait (g : Nat) (f : Grp → Grp) (d : Device) : (d.modGrp g f).regWait = d.regWait := rfl
@[simp] theorem Device.modGrp_btAt (g : Nat) (f : Grp → Grp) (d : Device) : (d.modGrp g f).btAt = d.btAt := rfl
@[simp] theorem Device.modGrp_btNext (g : Nat) (f : Grp → Grp) (d : Device) : (d.modGrp g f).btNext = d.btNext := rfl
@[simp] theorem Device.modGrp_btTested (g : Nat) (f : Grp → Grp) (d : Device) : (d.modGrp g f).btTested = d.btTested := rfl
@[simp] theorem Device.modGrp_btSkipped (g : Nat) (f : Grp → Grp) (d : Device) : (d.modGrp g f).btSkipped = d.btSkipped := rfl
@[simp] theorem Device.modGrp_caught (g : Nat) (f : Grp → Grp) (d : Device) : (d.modGrp g f).caught = d.caught := rfl
@[simp] theorem Device.modGrp_held (g : Nat) (f : Grp → Grp) (d : Device) : (d.modGrp g f).held = d.held := rfl
@[simp] theorem Device.modGrp_resp (g : Nat) (f : Grp → Grp) (d : Device) : (d.modGrp g f).resp = d.resp := rfl
@[simp] theorem Device.modGrp_lockQ (g : Nat) (f : Grp → Grp) (d : Device) : (d.modGrp g f).lockQ = d.lockQ := rfl
@[simp] theorem Device.modGrp_evt (g : Nat) (f : Grp → Grp) (d : Device) : (d.modGrp g f).evt = d.evt := rfl
@[simp] theorem Device.modGrp_lampQ (g : Nat) (f : Grp → Grp) (d : Device) : (d.modGrp g f).lampQ = d.lampQ := rfl
@[simp] theorem Device.modGrp_tb (g : Nat) (f : Grp → Grp) (d : Device) : (d.modGrp g f).tb = d.tb := rfl
@[simp] theorem Device.modGrp_roleDone (g : Nat) (f : Grp → Grp) (d : Device) : (d.modGrp g f).roleDone = d.roleDone := rfl
@[simp] theorem Device.modGrp_bootRole (g : Nat) (f : Grp → Grp) (d : Device) : (d.modGrp g f).bootRole = d.bootRole := rfl
@[simp] theorem Device.modGrp_roleDirty (g : Nat) (f : Grp → Grp) (d : Device) : (d.modGrp g f).roleDirty = d.roleDirty := rfl
@[simp] theorem Device.modGrp_bcn (g : Nat) (f : Grp → Grp) (d : Device) : (d.modGrp g f).bcn = d.bcn := rfl
@[simp] theorem Device.modGrp_fef (g : Nat) (f : Grp → Grp) (d : Device) : (d.modGrp g f).fef = d.fef := rfl
@[simp] theorem Device.modGrp_oseq (g : Nat) (f : Grp → Grp) (d : Device) : (d.modGrp g f).oseq = d.oseq := rfl
@[simp] theorem Device.modGrp_evSeen (g : Nat) (f : Grp → Grp) (d : Device) : (d.modGrp g f).evSeen = d.evSeen := rfl
@[simp] theorem Device.modGrp_fail (g : Nat) (f : Grp → Grp) (d : Device) : (d.modGrp g f).fail = d.fail := rfl
@[simp] theorem Device.modGrp_mot (g : Nat) (f : Grp → Grp) (d : Device) : (d.modGrp g f).mot = d.mot := rfl
@[simp] theorem Device.modGrp_ct (g : Nat) (f : Grp → Grp) (d : Device) : (d.modGrp g f).ct = d.ct := rfl
@[simp] theorem Device.modGrp_records (g : Nat) (f : Grp → Grp) (d : Device) : (d.modGrp g f).records = d.records := rfl
@[simp] theorem Device.modGrp_ddr (g : Nat) (f : Grp → Grp) (d : Device) : (d.modGrp g f).ddr = d.ddr := rfl
@[simp] theorem Device.modGrp_dsp (g : Nat) (f : Grp → Grp) (d : Device) : (d.modGrp g f).dsp = d.dsp := rfl
@[simp] theorem Device.modGrp_sess (g : Nat) (f : Grp → Grp) (d : Device) : (d.modGrp g f).sess = d.sess := rfl
@[simp] theorem Device.modGrp_lapOut (g : Nat) (f : Grp → Grp) (d : Device) : (d.modGrp g f).lapOut = d.lapOut := rfl
@[simp] theorem Device.modGrp_wear (g : Nat) (f : Grp → Grp) (d : Device) : (d.modGrp g f).wear = d.wear := rfl
@[simp] theorem Device.modGrp_lanes (g : Nat) (f : Grp → Grp) (d : Device) : (d.modGrp g f).lanes = d.lanes := rfl
@[simp] theorem Device.modGrp_lanesAt (g : Nat) (f : Grp → Grp) (d : Device) : (d.modGrp g f).lanesAt = d.lanesAt := rfl
@[simp] theorem Device.modGrp_ilkOpen (g : Nat) (f : Grp → Grp) (d : Device) : (d.modGrp g f).ilkOpen = d.ilkOpen := rfl
@[simp] theorem Device.modGrp_hot (g : Nat) (f : Grp → Grp) (d : Device) : (d.modGrp g f).hot = d.hot := rfl
@[simp] theorem Device.modGrp_temps (g : Nat) (f : Grp → Grp) (d : Device) : (d.modGrp g f).temps = d.temps := rfl
@[simp] theorem Device.modGrp_pw (g : Nat) (f : Grp → Grp) (d : Device) : (d.modGrp g f).pw = d.pw := rfl
@[simp] theorem Device.modGrp_sec (g : Nat) (f : Grp → Grp) (d : Device) : (d.modGrp g f).sec = d.sec := rfl
@[simp] theorem Device.modGrp_health (g : Nat) (f : Grp → Grp) (d : Device) : (d.modGrp g f).health = d.health := rfl

@[simp] theorem Device.modAfe_dt (a : Nat) (f : Afe → Afe) (d : Device) : (d.modAfe a f).dt = d.dt := rfl
@[simp] theorem Device.modAfe_free (a : Nat) (f : Afe → Afe) (d : Device) : (d.modAfe a f).free = d.free := rfl
@[simp] theorem Device.modAfe_regs (a : Nat) (f : Afe → Afe) (d : Device) : (d.modAfe a f).regs = d.regs := rfl
@[simp] theorem Device.modAfe_cl (a : Nat) (f : Afe → Afe) (d : Device) : (d.modAfe a f).cl = d.cl := rfl
@[simp] theorem Device.modAfe_grp (a : Nat) (f : Afe → Afe) (d : Device) : (d.modAfe a f).grp = d.grp := rfl
@[simp] theorem Device.modAfe_ch (a : Nat) (f : Afe → Afe) (d : Device) : (d.modAfe a f).ch = d.ch := rfl
@[simp] theorem Device.modAfe_mem (a : Nat) (f : Afe → Afe) (d : Device) : (d.modAfe a f).mem = d.mem := rfl
@[simp] theorem Device.modAfe_bad (a : Nat) (f : Afe → Afe) (d : Device) : (d.modAfe a f).bad = d.bad := rfl
@[simp] theorem Device.modAfe_soft (a : Nat) (f : Afe → Afe) (d : Device) : (d.modAfe a f).soft = d.soft := rfl
@[simp] theorem Device.modAfe_wback (a : Nat) (f : Afe → Afe) (d : Device) : (d.modAfe a f).wback = d.wback := rfl
@[simp] theorem Device.modAfe_regWait (a : Nat) (f : Afe → Afe) (d : Device) : (d.modAfe a f).regWait = d.regWait := rfl
@[simp] theorem Device.modAfe_btAt (a : Nat) (f : Afe → Afe) (d : Device) : (d.modAfe a f).btAt = d.btAt := rfl
@[simp] theorem Device.modAfe_btNext (a : Nat) (f : Afe → Afe) (d : Device) : (d.modAfe a f).btNext = d.btNext := rfl
@[simp] theorem Device.modAfe_btTested (a : Nat) (f : Afe → Afe) (d : Device) : (d.modAfe a f).btTested = d.btTested := rfl
@[simp] theorem Device.modAfe_btSkipped (a : Nat) (f : Afe → Afe) (d : Device) : (d.modAfe a f).btSkipped = d.btSkipped := rfl
@[simp] theorem Device.modAfe_caught (a : Nat) (f : Afe → Afe) (d : Device) : (d.modAfe a f).caught = d.caught := rfl
@[simp] theorem Device.modAfe_held (a : Nat) (f : Afe → Afe) (d : Device) : (d.modAfe a f).held = d.held := rfl
@[simp] theorem Device.modAfe_resp (a : Nat) (f : Afe → Afe) (d : Device) : (d.modAfe a f).resp = d.resp := rfl
@[simp] theorem Device.modAfe_lockQ (a : Nat) (f : Afe → Afe) (d : Device) : (d.modAfe a f).lockQ = d.lockQ := rfl
@[simp] theorem Device.modAfe_evt (a : Nat) (f : Afe → Afe) (d : Device) : (d.modAfe a f).evt = d.evt := rfl
@[simp] theorem Device.modAfe_lampQ (a : Nat) (f : Afe → Afe) (d : Device) : (d.modAfe a f).lampQ = d.lampQ := rfl
@[simp] theorem Device.modAfe_tb (a : Nat) (f : Afe → Afe) (d : Device) : (d.modAfe a f).tb = d.tb := rfl
@[simp] theorem Device.modAfe_roleDone (a : Nat) (f : Afe → Afe) (d : Device) : (d.modAfe a f).roleDone = d.roleDone := rfl
@[simp] theorem Device.modAfe_bootRole (a : Nat) (f : Afe → Afe) (d : Device) : (d.modAfe a f).bootRole = d.bootRole := rfl
@[simp] theorem Device.modAfe_roleDirty (a : Nat) (f : Afe → Afe) (d : Device) : (d.modAfe a f).roleDirty = d.roleDirty := rfl
@[simp] theorem Device.modAfe_bcn (a : Nat) (f : Afe → Afe) (d : Device) : (d.modAfe a f).bcn = d.bcn := rfl
@[simp] theorem Device.modAfe_fef (a : Nat) (f : Afe → Afe) (d : Device) : (d.modAfe a f).fef = d.fef := rfl
@[simp] theorem Device.modAfe_oseq (a : Nat) (f : Afe → Afe) (d : Device) : (d.modAfe a f).oseq = d.oseq := rfl
@[simp] theorem Device.modAfe_evSeen (a : Nat) (f : Afe → Afe) (d : Device) : (d.modAfe a f).evSeen = d.evSeen := rfl
@[simp] theorem Device.modAfe_fail (a : Nat) (f : Afe → Afe) (d : Device) : (d.modAfe a f).fail = d.fail := rfl
@[simp] theorem Device.modAfe_mot (a : Nat) (f : Afe → Afe) (d : Device) : (d.modAfe a f).mot = d.mot := rfl
@[simp] theorem Device.modAfe_ct (a : Nat) (f : Afe → Afe) (d : Device) : (d.modAfe a f).ct = d.ct := rfl
@[simp] theorem Device.modAfe_records (a : Nat) (f : Afe → Afe) (d : Device) : (d.modAfe a f).records = d.records := rfl
@[simp] theorem Device.modAfe_ddr (a : Nat) (f : Afe → Afe) (d : Device) : (d.modAfe a f).ddr = d.ddr := rfl
@[simp] theorem Device.modAfe_dsp (a : Nat) (f : Afe → Afe) (d : Device) : (d.modAfe a f).dsp = d.dsp := rfl
@[simp] theorem Device.modAfe_sess (a : Nat) (f : Afe → Afe) (d : Device) : (d.modAfe a f).sess = d.sess := rfl
@[simp] theorem Device.modAfe_lapOut (a : Nat) (f : Afe → Afe) (d : Device) : (d.modAfe a f).lapOut = d.lapOut := rfl
@[simp] theorem Device.modAfe_wear (a : Nat) (f : Afe → Afe) (d : Device) : (d.modAfe a f).wear = d.wear := rfl
@[simp] theorem Device.modAfe_lanes (a : Nat) (f : Afe → Afe) (d : Device) : (d.modAfe a f).lanes = d.lanes := rfl
@[simp] theorem Device.modAfe_lanesAt (a : Nat) (f : Afe → Afe) (d : Device) : (d.modAfe a f).lanesAt = d.lanesAt := rfl
@[simp] theorem Device.modAfe_ilkOpen (a : Nat) (f : Afe → Afe) (d : Device) : (d.modAfe a f).ilkOpen = d.ilkOpen := rfl
@[simp] theorem Device.modAfe_hot (a : Nat) (f : Afe → Afe) (d : Device) : (d.modAfe a f).hot = d.hot := rfl
@[simp] theorem Device.modAfe_temps (a : Nat) (f : Afe → Afe) (d : Device) : (d.modAfe a f).temps = d.temps := rfl
@[simp] theorem Device.modAfe_pw (a : Nat) (f : Afe → Afe) (d : Device) : (d.modAfe a f).pw = d.pw := rfl
@[simp] theorem Device.modAfe_sec (a : Nat) (f : Afe → Afe) (d : Device) : (d.modAfe a f).sec = d.sec := rfl
@[simp] theorem Device.modAfe_health (a : Nat) (f : Afe → Afe) (d : Device) : (d.modAfe a f).health = d.health := rfl

@[simp] theorem Device.modCl_dt (k : Nat) (f : Cluster → Cluster) (d : Device) : (d.modCl k f).dt = d.dt := rfl
@[simp] theorem Device.modCl_free (k : Nat) (f : Cluster → Cluster) (d : Device) : (d.modCl k f).free = d.free := rfl
@[simp] theorem Device.modCl_regs (k : Nat) (f : Cluster → Cluster) (d : Device) : (d.modCl k f).regs = d.regs := rfl
@[simp] theorem Device.modCl_afe (k : Nat) (f : Cluster → Cluster) (d : Device) : (d.modCl k f).afe = d.afe := rfl
@[simp] theorem Device.modCl_grp (k : Nat) (f : Cluster → Cluster) (d : Device) : (d.modCl k f).grp = d.grp := rfl
@[simp] theorem Device.modCl_ch (k : Nat) (f : Cluster → Cluster) (d : Device) : (d.modCl k f).ch = d.ch := rfl
@[simp] theorem Device.modCl_mem (k : Nat) (f : Cluster → Cluster) (d : Device) : (d.modCl k f).mem = d.mem := rfl
@[simp] theorem Device.modCl_bad (k : Nat) (f : Cluster → Cluster) (d : Device) : (d.modCl k f).bad = d.bad := rfl
@[simp] theorem Device.modCl_soft (k : Nat) (f : Cluster → Cluster) (d : Device) : (d.modCl k f).soft = d.soft := rfl
@[simp] theorem Device.modCl_wback (k : Nat) (f : Cluster → Cluster) (d : Device) : (d.modCl k f).wback = d.wback := rfl
@[simp] theorem Device.modCl_regWait (k : Nat) (f : Cluster → Cluster) (d : Device) : (d.modCl k f).regWait = d.regWait := rfl
@[simp] theorem Device.modCl_btAt (k : Nat) (f : Cluster → Cluster) (d : Device) : (d.modCl k f).btAt = d.btAt := rfl
@[simp] theorem Device.modCl_btNext (k : Nat) (f : Cluster → Cluster) (d : Device) : (d.modCl k f).btNext = d.btNext := rfl
@[simp] theorem Device.modCl_btTested (k : Nat) (f : Cluster → Cluster) (d : Device) : (d.modCl k f).btTested = d.btTested := rfl
@[simp] theorem Device.modCl_btSkipped (k : Nat) (f : Cluster → Cluster) (d : Device) : (d.modCl k f).btSkipped = d.btSkipped := rfl
@[simp] theorem Device.modCl_caught (k : Nat) (f : Cluster → Cluster) (d : Device) : (d.modCl k f).caught = d.caught := rfl
@[simp] theorem Device.modCl_held (k : Nat) (f : Cluster → Cluster) (d : Device) : (d.modCl k f).held = d.held := rfl
@[simp] theorem Device.modCl_resp (k : Nat) (f : Cluster → Cluster) (d : Device) : (d.modCl k f).resp = d.resp := rfl
@[simp] theorem Device.modCl_lockQ (k : Nat) (f : Cluster → Cluster) (d : Device) : (d.modCl k f).lockQ = d.lockQ := rfl
@[simp] theorem Device.modCl_evt (k : Nat) (f : Cluster → Cluster) (d : Device) : (d.modCl k f).evt = d.evt := rfl
@[simp] theorem Device.modCl_lampQ (k : Nat) (f : Cluster → Cluster) (d : Device) : (d.modCl k f).lampQ = d.lampQ := rfl
@[simp] theorem Device.modCl_tb (k : Nat) (f : Cluster → Cluster) (d : Device) : (d.modCl k f).tb = d.tb := rfl
@[simp] theorem Device.modCl_roleDone (k : Nat) (f : Cluster → Cluster) (d : Device) : (d.modCl k f).roleDone = d.roleDone := rfl
@[simp] theorem Device.modCl_bootRole (k : Nat) (f : Cluster → Cluster) (d : Device) : (d.modCl k f).bootRole = d.bootRole := rfl
@[simp] theorem Device.modCl_roleDirty (k : Nat) (f : Cluster → Cluster) (d : Device) : (d.modCl k f).roleDirty = d.roleDirty := rfl
@[simp] theorem Device.modCl_bcn (k : Nat) (f : Cluster → Cluster) (d : Device) : (d.modCl k f).bcn = d.bcn := rfl
@[simp] theorem Device.modCl_fef (k : Nat) (f : Cluster → Cluster) (d : Device) : (d.modCl k f).fef = d.fef := rfl
@[simp] theorem Device.modCl_oseq (k : Nat) (f : Cluster → Cluster) (d : Device) : (d.modCl k f).oseq = d.oseq := rfl
@[simp] theorem Device.modCl_evSeen (k : Nat) (f : Cluster → Cluster) (d : Device) : (d.modCl k f).evSeen = d.evSeen := rfl
@[simp] theorem Device.modCl_fail (k : Nat) (f : Cluster → Cluster) (d : Device) : (d.modCl k f).fail = d.fail := rfl
@[simp] theorem Device.modCl_mot (k : Nat) (f : Cluster → Cluster) (d : Device) : (d.modCl k f).mot = d.mot := rfl
@[simp] theorem Device.modCl_ct (k : Nat) (f : Cluster → Cluster) (d : Device) : (d.modCl k f).ct = d.ct := rfl
@[simp] theorem Device.modCl_records (k : Nat) (f : Cluster → Cluster) (d : Device) : (d.modCl k f).records = d.records := rfl
@[simp] theorem Device.modCl_ddr (k : Nat) (f : Cluster → Cluster) (d : Device) : (d.modCl k f).ddr = d.ddr := rfl
@[simp] theorem Device.modCl_dsp (k : Nat) (f : Cluster → Cluster) (d : Device) : (d.modCl k f).dsp = d.dsp := rfl
@[simp] theorem Device.modCl_sess (k : Nat) (f : Cluster → Cluster) (d : Device) : (d.modCl k f).sess = d.sess := rfl
@[simp] theorem Device.modCl_lapOut (k : Nat) (f : Cluster → Cluster) (d : Device) : (d.modCl k f).lapOut = d.lapOut := rfl
@[simp] theorem Device.modCl_wear (k : Nat) (f : Cluster → Cluster) (d : Device) : (d.modCl k f).wear = d.wear := rfl
@[simp] theorem Device.modCl_lanes (k : Nat) (f : Cluster → Cluster) (d : Device) : (d.modCl k f).lanes = d.lanes := rfl
@[simp] theorem Device.modCl_lanesAt (k : Nat) (f : Cluster → Cluster) (d : Device) : (d.modCl k f).lanesAt = d.lanesAt := rfl
@[simp] theorem Device.modCl_ilkOpen (k : Nat) (f : Cluster → Cluster) (d : Device) : (d.modCl k f).ilkOpen = d.ilkOpen := rfl
@[simp] theorem Device.modCl_hot (k : Nat) (f : Cluster → Cluster) (d : Device) : (d.modCl k f).hot = d.hot := rfl
@[simp] theorem Device.modCl_temps (k : Nat) (f : Cluster → Cluster) (d : Device) : (d.modCl k f).temps = d.temps := rfl
@[simp] theorem Device.modCl_pw (k : Nat) (f : Cluster → Cluster) (d : Device) : (d.modCl k f).pw = d.pw := rfl
@[simp] theorem Device.modCl_sec (k : Nat) (f : Cluster → Cluster) (d : Device) : (d.modCl k f).sec = d.sec := rfl
@[simp] theorem Device.modCl_health (k : Nat) (f : Cluster → Cluster) (d : Device) : (d.modCl k f).health = d.health := rfl

@[simp] theorem Device.modThr_dt (k c : Nat) (f : Thread → Thread) (d : Device) : (d.modThr k c f).dt = d.dt := rfl
@[simp] theorem Device.modThr_free (k c : Nat) (f : Thread → Thread) (d : Device) : (d.modThr k c f).free = d.free := rfl
@[simp] theorem Device.modThr_regs (k c : Nat) (f : Thread → Thread) (d : Device) : (d.modThr k c f).regs = d.regs := rfl
@[simp] theorem Device.modThr_afe (k c : Nat) (f : Thread → Thread) (d : Device) : (d.modThr k c f).afe = d.afe := rfl
@[simp] theorem Device.modThr_grp (k c : Nat) (f : Thread → Thread) (d : Device) : (d.modThr k c f).grp = d.grp := rfl
@[simp] theorem Device.modThr_ch (k c : Nat) (f : Thread → Thread) (d : Device) : (d.modThr k c f).ch = d.ch := rfl
@[simp] theorem Device.modThr_mem (k c : Nat) (f : Thread → Thread) (d : Device) : (d.modThr k c f).mem = d.mem := rfl
@[simp] theorem Device.modThr_bad (k c : Nat) (f : Thread → Thread) (d : Device) : (d.modThr k c f).bad = d.bad := rfl
@[simp] theorem Device.modThr_soft (k c : Nat) (f : Thread → Thread) (d : Device) : (d.modThr k c f).soft = d.soft := rfl
@[simp] theorem Device.modThr_wback (k c : Nat) (f : Thread → Thread) (d : Device) : (d.modThr k c f).wback = d.wback := rfl
@[simp] theorem Device.modThr_regWait (k c : Nat) (f : Thread → Thread) (d : Device) : (d.modThr k c f).regWait = d.regWait := rfl
@[simp] theorem Device.modThr_btAt (k c : Nat) (f : Thread → Thread) (d : Device) : (d.modThr k c f).btAt = d.btAt := rfl
@[simp] theorem Device.modThr_btNext (k c : Nat) (f : Thread → Thread) (d : Device) : (d.modThr k c f).btNext = d.btNext := rfl
@[simp] theorem Device.modThr_btTested (k c : Nat) (f : Thread → Thread) (d : Device) : (d.modThr k c f).btTested = d.btTested := rfl
@[simp] theorem Device.modThr_btSkipped (k c : Nat) (f : Thread → Thread) (d : Device) : (d.modThr k c f).btSkipped = d.btSkipped := rfl
@[simp] theorem Device.modThr_caught (k c : Nat) (f : Thread → Thread) (d : Device) : (d.modThr k c f).caught = d.caught := rfl
@[simp] theorem Device.modThr_held (k c : Nat) (f : Thread → Thread) (d : Device) : (d.modThr k c f).held = d.held := rfl
@[simp] theorem Device.modThr_resp (k c : Nat) (f : Thread → Thread) (d : Device) : (d.modThr k c f).resp = d.resp := rfl
@[simp] theorem Device.modThr_lockQ (k c : Nat) (f : Thread → Thread) (d : Device) : (d.modThr k c f).lockQ = d.lockQ := rfl
@[simp] theorem Device.modThr_evt (k c : Nat) (f : Thread → Thread) (d : Device) : (d.modThr k c f).evt = d.evt := rfl
@[simp] theorem Device.modThr_lampQ (k c : Nat) (f : Thread → Thread) (d : Device) : (d.modThr k c f).lampQ = d.lampQ := rfl
@[simp] theorem Device.modThr_tb (k c : Nat) (f : Thread → Thread) (d : Device) : (d.modThr k c f).tb = d.tb := rfl
@[simp] theorem Device.modThr_roleDone (k c : Nat) (f : Thread → Thread) (d : Device) : (d.modThr k c f).roleDone = d.roleDone := rfl
@[simp] theorem Device.modThr_bootRole (k c : Nat) (f : Thread → Thread) (d : Device) : (d.modThr k c f).bootRole = d.bootRole := rfl
@[simp] theorem Device.modThr_roleDirty (k c : Nat) (f : Thread → Thread) (d : Device) : (d.modThr k c f).roleDirty = d.roleDirty := rfl
@[simp] theorem Device.modThr_bcn (k c : Nat) (f : Thread → Thread) (d : Device) : (d.modThr k c f).bcn = d.bcn := rfl
@[simp] theorem Device.modThr_fef (k c : Nat) (f : Thread → Thread) (d : Device) : (d.modThr k c f).fef = d.fef := rfl
@[simp] theorem Device.modThr_oseq (k c : Nat) (f : Thread → Thread) (d : Device) : (d.modThr k c f).oseq = d.oseq := rfl
@[simp] theorem Device.modThr_evSeen (k c : Nat) (f : Thread → Thread) (d : Device) : (d.modThr k c f).evSeen = d.evSeen := rfl
@[simp] theorem Device.modThr_fail (k c : Nat) (f : Thread → Thread) (d : Device) : (d.modThr k c f).fail = d.fail := rfl
@[simp] theorem Device.modThr_mot (k c : Nat) (f : Thread → Thread) (d : Device) : (d.modThr k c f).mot = d.mot := rfl
@[simp] theorem Device.modThr_ct (k c : Nat) (f : Thread → Thread) (d : Device) : (d.modThr k c f).ct = d.ct := rfl
@[simp] theorem Device.modThr_records (k c : Nat) (f : Thread → Thread) (d : Device) : (d.modThr k c f).records = d.records := rfl
@[simp] theorem Device.modThr_ddr (k c : Nat) (f : Thread → Thread) (d : Device) : (d.modThr k c f).ddr = d.ddr := rfl
@[simp] theorem Device.modThr_dsp (k c : Nat) (f : Thread → Thread) (d : Device) : (d.modThr k c f).dsp = d.dsp := rfl
@[simp] theorem Device.modThr_sess (k c : Nat) (f : Thread → Thread) (d : Device) : (d.modThr k c f).sess = d.sess := rfl
@[simp] theorem Device.modThr_lapOut (k c : Nat) (f : Thread → Thread) (d : Device) : (d.modThr k c f).lapOut = d.lapOut := rfl
@[simp] theorem Device.modThr_wear (k c : Nat) (f : Thread → Thread) (d : Device) : (d.modThr k c f).wear = d.wear := rfl
@[simp] theorem Device.modThr_lanes (k c : Nat) (f : Thread → Thread) (d : Device) : (d.modThr k c f).lanes = d.lanes := rfl
@[simp] theorem Device.modThr_lanesAt (k c : Nat) (f : Thread → Thread) (d : Device) : (d.modThr k c f).lanesAt = d.lanesAt := rfl
@[simp] theorem Device.modThr_ilkOpen (k c : Nat) (f : Thread → Thread) (d : Device) : (d.modThr k c f).ilkOpen = d.ilkOpen := rfl
@[simp] theorem Device.modThr_hot (k c : Nat) (f : Thread → Thread) (d : Device) : (d.modThr k c f).hot = d.hot := rfl
@[simp] theorem Device.modThr_temps (k c : Nat) (f : Thread → Thread) (d : Device) : (d.modThr k c f).temps = d.temps := rfl
@[simp] theorem Device.modThr_pw (k c : Nat) (f : Thread → Thread) (d : Device) : (d.modThr k c f).pw = d.pw := rfl
@[simp] theorem Device.modThr_sec (k c : Nat) (f : Thread → Thread) (d : Device) : (d.modThr k c f).sec = d.sec := rfl
@[simp] theorem Device.modThr_health (k c : Nat) (f : Thread → Thread) (d : Device) : (d.modThr k c f).health = d.health := rfl

@[simp] theorem Device.modSti_dt (k u : Nat) (f : Sti → Sti) (d : Device) : (d.modSti k u f).dt = d.dt := rfl
@[simp] theorem Device.modSti_free (k u : Nat) (f : Sti → Sti) (d : Device) : (d.modSti k u f).free = d.free := rfl
@[simp] theorem Device.modSti_regs (k u : Nat) (f : Sti → Sti) (d : Device) : (d.modSti k u f).regs = d.regs := rfl
@[simp] theorem Device.modSti_afe (k u : Nat) (f : Sti → Sti) (d : Device) : (d.modSti k u f).afe = d.afe := rfl
@[simp] theorem Device.modSti_grp (k u : Nat) (f : Sti → Sti) (d : Device) : (d.modSti k u f).grp = d.grp := rfl
@[simp] theorem Device.modSti_ch (k u : Nat) (f : Sti → Sti) (d : Device) : (d.modSti k u f).ch = d.ch := rfl
@[simp] theorem Device.modSti_mem (k u : Nat) (f : Sti → Sti) (d : Device) : (d.modSti k u f).mem = d.mem := rfl
@[simp] theorem Device.modSti_bad (k u : Nat) (f : Sti → Sti) (d : Device) : (d.modSti k u f).bad = d.bad := rfl
@[simp] theorem Device.modSti_soft (k u : Nat) (f : Sti → Sti) (d : Device) : (d.modSti k u f).soft = d.soft := rfl
@[simp] theorem Device.modSti_wback (k u : Nat) (f : Sti → Sti) (d : Device) : (d.modSti k u f).wback = d.wback := rfl
@[simp] theorem Device.modSti_regWait (k u : Nat) (f : Sti → Sti) (d : Device) : (d.modSti k u f).regWait = d.regWait := rfl
@[simp] theorem Device.modSti_btAt (k u : Nat) (f : Sti → Sti) (d : Device) : (d.modSti k u f).btAt = d.btAt := rfl
@[simp] theorem Device.modSti_btNext (k u : Nat) (f : Sti → Sti) (d : Device) : (d.modSti k u f).btNext = d.btNext := rfl
@[simp] theorem Device.modSti_btTested (k u : Nat) (f : Sti → Sti) (d : Device) : (d.modSti k u f).btTested = d.btTested := rfl
@[simp] theorem Device.modSti_btSkipped (k u : Nat) (f : Sti → Sti) (d : Device) : (d.modSti k u f).btSkipped = d.btSkipped := rfl
@[simp] theorem Device.modSti_caught (k u : Nat) (f : Sti → Sti) (d : Device) : (d.modSti k u f).caught = d.caught := rfl
@[simp] theorem Device.modSti_held (k u : Nat) (f : Sti → Sti) (d : Device) : (d.modSti k u f).held = d.held := rfl
@[simp] theorem Device.modSti_resp (k u : Nat) (f : Sti → Sti) (d : Device) : (d.modSti k u f).resp = d.resp := rfl
@[simp] theorem Device.modSti_lockQ (k u : Nat) (f : Sti → Sti) (d : Device) : (d.modSti k u f).lockQ = d.lockQ := rfl
@[simp] theorem Device.modSti_evt (k u : Nat) (f : Sti → Sti) (d : Device) : (d.modSti k u f).evt = d.evt := rfl
@[simp] theorem Device.modSti_lampQ (k u : Nat) (f : Sti → Sti) (d : Device) : (d.modSti k u f).lampQ = d.lampQ := rfl
@[simp] theorem Device.modSti_tb (k u : Nat) (f : Sti → Sti) (d : Device) : (d.modSti k u f).tb = d.tb := rfl
@[simp] theorem Device.modSti_roleDone (k u : Nat) (f : Sti → Sti) (d : Device) : (d.modSti k u f).roleDone = d.roleDone := rfl
@[simp] theorem Device.modSti_bootRole (k u : Nat) (f : Sti → Sti) (d : Device) : (d.modSti k u f).bootRole = d.bootRole := rfl
@[simp] theorem Device.modSti_roleDirty (k u : Nat) (f : Sti → Sti) (d : Device) : (d.modSti k u f).roleDirty = d.roleDirty := rfl
@[simp] theorem Device.modSti_bcn (k u : Nat) (f : Sti → Sti) (d : Device) : (d.modSti k u f).bcn = d.bcn := rfl
@[simp] theorem Device.modSti_fef (k u : Nat) (f : Sti → Sti) (d : Device) : (d.modSti k u f).fef = d.fef := rfl
@[simp] theorem Device.modSti_oseq (k u : Nat) (f : Sti → Sti) (d : Device) : (d.modSti k u f).oseq = d.oseq := rfl
@[simp] theorem Device.modSti_evSeen (k u : Nat) (f : Sti → Sti) (d : Device) : (d.modSti k u f).evSeen = d.evSeen := rfl
@[simp] theorem Device.modSti_fail (k u : Nat) (f : Sti → Sti) (d : Device) : (d.modSti k u f).fail = d.fail := rfl
@[simp] theorem Device.modSti_mot (k u : Nat) (f : Sti → Sti) (d : Device) : (d.modSti k u f).mot = d.mot := rfl
@[simp] theorem Device.modSti_ct (k u : Nat) (f : Sti → Sti) (d : Device) : (d.modSti k u f).ct = d.ct := rfl
@[simp] theorem Device.modSti_records (k u : Nat) (f : Sti → Sti) (d : Device) : (d.modSti k u f).records = d.records := rfl
@[simp] theorem Device.modSti_ddr (k u : Nat) (f : Sti → Sti) (d : Device) : (d.modSti k u f).ddr = d.ddr := rfl
@[simp] theorem Device.modSti_dsp (k u : Nat) (f : Sti → Sti) (d : Device) : (d.modSti k u f).dsp = d.dsp := rfl
@[simp] theorem Device.modSti_sess (k u : Nat) (f : Sti → Sti) (d : Device) : (d.modSti k u f).sess = d.sess := rfl
@[simp] theorem Device.modSti_lapOut (k u : Nat) (f : Sti → Sti) (d : Device) : (d.modSti k u f).lapOut = d.lapOut := rfl
@[simp] theorem Device.modSti_wear (k u : Nat) (f : Sti → Sti) (d : Device) : (d.modSti k u f).wear = d.wear := rfl
@[simp] theorem Device.modSti_lanes (k u : Nat) (f : Sti → Sti) (d : Device) : (d.modSti k u f).lanes = d.lanes := rfl
@[simp] theorem Device.modSti_lanesAt (k u : Nat) (f : Sti → Sti) (d : Device) : (d.modSti k u f).lanesAt = d.lanesAt := rfl
@[simp] theorem Device.modSti_ilkOpen (k u : Nat) (f : Sti → Sti) (d : Device) : (d.modSti k u f).ilkOpen = d.ilkOpen := rfl
@[simp] theorem Device.modSti_hot (k u : Nat) (f : Sti → Sti) (d : Device) : (d.modSti k u f).hot = d.hot := rfl
@[simp] theorem Device.modSti_temps (k u : Nat) (f : Sti → Sti) (d : Device) : (d.modSti k u f).temps = d.temps := rfl
@[simp] theorem Device.modSti_pw (k u : Nat) (f : Sti → Sti) (d : Device) : (d.modSti k u f).pw = d.pw := rfl
@[simp] theorem Device.modSti_sec (k u : Nat) (f : Sti → Sti) (d : Device) : (d.modSti k u f).sec = d.sec := rfl
@[simp] theorem Device.modSti_health (k u : Nat) (f : Sti → Sti) (d : Device) : (d.modSti k u f).health = d.health := rfl

@[simp] theorem Device.modCap_dt (n : Nat) (f : CapCh → CapCh) (d : Device) : (d.modCap n f).dt = d.dt := rfl
@[simp] theorem Device.modCap_free (n : Nat) (f : CapCh → CapCh) (d : Device) : (d.modCap n f).free = d.free := rfl
@[simp] theorem Device.modCap_regs (n : Nat) (f : CapCh → CapCh) (d : Device) : (d.modCap n f).regs = d.regs := rfl
@[simp] theorem Device.modCap_afe (n : Nat) (f : CapCh → CapCh) (d : Device) : (d.modCap n f).afe = d.afe := rfl
@[simp] theorem Device.modCap_grp (n : Nat) (f : CapCh → CapCh) (d : Device) : (d.modCap n f).grp = d.grp := rfl
@[simp] theorem Device.modCap_ch (n : Nat) (f : CapCh → CapCh) (d : Device) : (d.modCap n f).ch = d.ch := rfl
@[simp] theorem Device.modCap_mem (n : Nat) (f : CapCh → CapCh) (d : Device) : (d.modCap n f).mem = d.mem := rfl
@[simp] theorem Device.modCap_bad (n : Nat) (f : CapCh → CapCh) (d : Device) : (d.modCap n f).bad = d.bad := rfl
@[simp] theorem Device.modCap_soft (n : Nat) (f : CapCh → CapCh) (d : Device) : (d.modCap n f).soft = d.soft := rfl
@[simp] theorem Device.modCap_wback (n : Nat) (f : CapCh → CapCh) (d : Device) : (d.modCap n f).wback = d.wback := rfl
@[simp] theorem Device.modCap_regWait (n : Nat) (f : CapCh → CapCh) (d : Device) : (d.modCap n f).regWait = d.regWait := rfl
@[simp] theorem Device.modCap_btAt (n : Nat) (f : CapCh → CapCh) (d : Device) : (d.modCap n f).btAt = d.btAt := rfl
@[simp] theorem Device.modCap_btNext (n : Nat) (f : CapCh → CapCh) (d : Device) : (d.modCap n f).btNext = d.btNext := rfl
@[simp] theorem Device.modCap_btTested (n : Nat) (f : CapCh → CapCh) (d : Device) : (d.modCap n f).btTested = d.btTested := rfl
@[simp] theorem Device.modCap_btSkipped (n : Nat) (f : CapCh → CapCh) (d : Device) : (d.modCap n f).btSkipped = d.btSkipped := rfl
@[simp] theorem Device.modCap_caught (n : Nat) (f : CapCh → CapCh) (d : Device) : (d.modCap n f).caught = d.caught := rfl
@[simp] theorem Device.modCap_held (n : Nat) (f : CapCh → CapCh) (d : Device) : (d.modCap n f).held = d.held := rfl
@[simp] theorem Device.modCap_resp (n : Nat) (f : CapCh → CapCh) (d : Device) : (d.modCap n f).resp = d.resp := rfl
@[simp] theorem Device.modCap_lockQ (n : Nat) (f : CapCh → CapCh) (d : Device) : (d.modCap n f).lockQ = d.lockQ := rfl
@[simp] theorem Device.modCap_evt (n : Nat) (f : CapCh → CapCh) (d : Device) : (d.modCap n f).evt = d.evt := rfl
@[simp] theorem Device.modCap_lampQ (n : Nat) (f : CapCh → CapCh) (d : Device) : (d.modCap n f).lampQ = d.lampQ := rfl
@[simp] theorem Device.modCap_tb (n : Nat) (f : CapCh → CapCh) (d : Device) : (d.modCap n f).tb = d.tb := rfl
@[simp] theorem Device.modCap_roleDone (n : Nat) (f : CapCh → CapCh) (d : Device) : (d.modCap n f).roleDone = d.roleDone := rfl
@[simp] theorem Device.modCap_bootRole (n : Nat) (f : CapCh → CapCh) (d : Device) : (d.modCap n f).bootRole = d.bootRole := rfl
@[simp] theorem Device.modCap_roleDirty (n : Nat) (f : CapCh → CapCh) (d : Device) : (d.modCap n f).roleDirty = d.roleDirty := rfl
@[simp] theorem Device.modCap_bcn (n : Nat) (f : CapCh → CapCh) (d : Device) : (d.modCap n f).bcn = d.bcn := rfl
@[simp] theorem Device.modCap_fef (n : Nat) (f : CapCh → CapCh) (d : Device) : (d.modCap n f).fef = d.fef := rfl
@[simp] theorem Device.modCap_oseq (n : Nat) (f : CapCh → CapCh) (d : Device) : (d.modCap n f).oseq = d.oseq := rfl
@[simp] theorem Device.modCap_evSeen (n : Nat) (f : CapCh → CapCh) (d : Device) : (d.modCap n f).evSeen = d.evSeen := rfl
@[simp] theorem Device.modCap_fail (n : Nat) (f : CapCh → CapCh) (d : Device) : (d.modCap n f).fail = d.fail := rfl
@[simp] theorem Device.modCap_mot (n : Nat) (f : CapCh → CapCh) (d : Device) : (d.modCap n f).mot = d.mot := rfl
@[simp] theorem Device.modCap_ct (n : Nat) (f : CapCh → CapCh) (d : Device) : (d.modCap n f).ct = d.ct := rfl
@[simp] theorem Device.modCap_records (n : Nat) (f : CapCh → CapCh) (d : Device) : (d.modCap n f).records = d.records := rfl
@[simp] theorem Device.modCap_ddr (n : Nat) (f : CapCh → CapCh) (d : Device) : (d.modCap n f).ddr = d.ddr := rfl
@[simp] theorem Device.modCap_dsp (n : Nat) (f : CapCh → CapCh) (d : Device) : (d.modCap n f).dsp = d.dsp := rfl
@[simp] theorem Device.modCap_sess (n : Nat) (f : CapCh → CapCh) (d : Device) : (d.modCap n f).sess = d.sess := rfl
@[simp] theorem Device.modCap_lapOut (n : Nat) (f : CapCh → CapCh) (d : Device) : (d.modCap n f).lapOut = d.lapOut := rfl
@[simp] theorem Device.modCap_wear (n : Nat) (f : CapCh → CapCh) (d : Device) : (d.modCap n f).wear = d.wear := rfl
@[simp] theorem Device.modCap_lanes (n : Nat) (f : CapCh → CapCh) (d : Device) : (d.modCap n f).lanes = d.lanes := rfl
@[simp] theorem Device.modCap_lanesAt (n : Nat) (f : CapCh → CapCh) (d : Device) : (d.modCap n f).lanesAt = d.lanesAt := rfl
@[simp] theorem Device.modCap_ilkOpen (n : Nat) (f : CapCh → CapCh) (d : Device) : (d.modCap n f).ilkOpen = d.ilkOpen := rfl
@[simp] theorem Device.modCap_hot (n : Nat) (f : CapCh → CapCh) (d : Device) : (d.modCap n f).hot = d.hot := rfl
@[simp] theorem Device.modCap_temps (n : Nat) (f : CapCh → CapCh) (d : Device) : (d.modCap n f).temps = d.temps := rfl
@[simp] theorem Device.modCap_pw (n : Nat) (f : CapCh → CapCh) (d : Device) : (d.modCap n f).pw = d.pw := rfl
@[simp] theorem Device.modCap_sec (n : Nat) (f : CapCh → CapCh) (d : Device) : (d.modCap n f).sec = d.sec := rfl
@[simp] theorem Device.modCap_health (n : Nat) (f : CapCh → CapCh) (d : Device) : (d.modCap n f).health = d.health := rfl

@[simp] theorem Device.mapChans_dt (p : Nat → Bool) (f : Chan → Chan) (d : Device) : (d.mapChans p f).dt = d.dt := rfl
@[simp] theorem Device.mapChans_free (p : Nat → Bool) (f : Chan → Chan) (d : Device) : (d.mapChans p f).free = d.free := rfl
@[simp] theorem Device.mapChans_regs (p : Nat → Bool) (f : Chan → Chan) (d : Device) : (d.mapChans p f).regs = d.regs := rfl
@[simp] theorem Device.mapChans_afe (p : Nat → Bool) (f : Chan → Chan) (d : Device) : (d.mapChans p f).afe = d.afe := rfl
@[simp] theorem Device.mapChans_cl (p : Nat → Bool) (f : Chan → Chan) (d : Device) : (d.mapChans p f).cl = d.cl := rfl
@[simp] theorem Device.mapChans_grp (p : Nat → Bool) (f : Chan → Chan) (d : Device) : (d.mapChans p f).grp = d.grp := rfl
@[simp] theorem Device.mapChans_mem (p : Nat → Bool) (f : Chan → Chan) (d : Device) : (d.mapChans p f).mem = d.mem := rfl
@[simp] theorem Device.mapChans_bad (p : Nat → Bool) (f : Chan → Chan) (d : Device) : (d.mapChans p f).bad = d.bad := rfl
@[simp] theorem Device.mapChans_soft (p : Nat → Bool) (f : Chan → Chan) (d : Device) : (d.mapChans p f).soft = d.soft := rfl
@[simp] theorem Device.mapChans_wback (p : Nat → Bool) (f : Chan → Chan) (d : Device) : (d.mapChans p f).wback = d.wback := rfl
@[simp] theorem Device.mapChans_regWait (p : Nat → Bool) (f : Chan → Chan) (d : Device) : (d.mapChans p f).regWait = d.regWait := rfl
@[simp] theorem Device.mapChans_btAt (p : Nat → Bool) (f : Chan → Chan) (d : Device) : (d.mapChans p f).btAt = d.btAt := rfl
@[simp] theorem Device.mapChans_btNext (p : Nat → Bool) (f : Chan → Chan) (d : Device) : (d.mapChans p f).btNext = d.btNext := rfl
@[simp] theorem Device.mapChans_btTested (p : Nat → Bool) (f : Chan → Chan) (d : Device) : (d.mapChans p f).btTested = d.btTested := rfl
@[simp] theorem Device.mapChans_btSkipped (p : Nat → Bool) (f : Chan → Chan) (d : Device) : (d.mapChans p f).btSkipped = d.btSkipped := rfl
@[simp] theorem Device.mapChans_caught (p : Nat → Bool) (f : Chan → Chan) (d : Device) : (d.mapChans p f).caught = d.caught := rfl
@[simp] theorem Device.mapChans_held (p : Nat → Bool) (f : Chan → Chan) (d : Device) : (d.mapChans p f).held = d.held := rfl
@[simp] theorem Device.mapChans_resp (p : Nat → Bool) (f : Chan → Chan) (d : Device) : (d.mapChans p f).resp = d.resp := rfl
@[simp] theorem Device.mapChans_lockQ (p : Nat → Bool) (f : Chan → Chan) (d : Device) : (d.mapChans p f).lockQ = d.lockQ := rfl
@[simp] theorem Device.mapChans_evt (p : Nat → Bool) (f : Chan → Chan) (d : Device) : (d.mapChans p f).evt = d.evt := rfl
@[simp] theorem Device.mapChans_lampQ (p : Nat → Bool) (f : Chan → Chan) (d : Device) : (d.mapChans p f).lampQ = d.lampQ := rfl
@[simp] theorem Device.mapChans_tb (p : Nat → Bool) (f : Chan → Chan) (d : Device) : (d.mapChans p f).tb = d.tb := rfl
@[simp] theorem Device.mapChans_roleDone (p : Nat → Bool) (f : Chan → Chan) (d : Device) : (d.mapChans p f).roleDone = d.roleDone := rfl
@[simp] theorem Device.mapChans_bootRole (p : Nat → Bool) (f : Chan → Chan) (d : Device) : (d.mapChans p f).bootRole = d.bootRole := rfl
@[simp] theorem Device.mapChans_roleDirty (p : Nat → Bool) (f : Chan → Chan) (d : Device) : (d.mapChans p f).roleDirty = d.roleDirty := rfl
@[simp] theorem Device.mapChans_bcn (p : Nat → Bool) (f : Chan → Chan) (d : Device) : (d.mapChans p f).bcn = d.bcn := rfl
@[simp] theorem Device.mapChans_fef (p : Nat → Bool) (f : Chan → Chan) (d : Device) : (d.mapChans p f).fef = d.fef := rfl
@[simp] theorem Device.mapChans_oseq (p : Nat → Bool) (f : Chan → Chan) (d : Device) : (d.mapChans p f).oseq = d.oseq := rfl
@[simp] theorem Device.mapChans_evSeen (p : Nat → Bool) (f : Chan → Chan) (d : Device) : (d.mapChans p f).evSeen = d.evSeen := rfl
@[simp] theorem Device.mapChans_fail (p : Nat → Bool) (f : Chan → Chan) (d : Device) : (d.mapChans p f).fail = d.fail := rfl
@[simp] theorem Device.mapChans_mot (p : Nat → Bool) (f : Chan → Chan) (d : Device) : (d.mapChans p f).mot = d.mot := rfl
@[simp] theorem Device.mapChans_ct (p : Nat → Bool) (f : Chan → Chan) (d : Device) : (d.mapChans p f).ct = d.ct := rfl
@[simp] theorem Device.mapChans_records (p : Nat → Bool) (f : Chan → Chan) (d : Device) : (d.mapChans p f).records = d.records := rfl
@[simp] theorem Device.mapChans_ddr (p : Nat → Bool) (f : Chan → Chan) (d : Device) : (d.mapChans p f).ddr = d.ddr := rfl
@[simp] theorem Device.mapChans_dsp (p : Nat → Bool) (f : Chan → Chan) (d : Device) : (d.mapChans p f).dsp = d.dsp := rfl
@[simp] theorem Device.mapChans_sess (p : Nat → Bool) (f : Chan → Chan) (d : Device) : (d.mapChans p f).sess = d.sess := rfl
@[simp] theorem Device.mapChans_lapOut (p : Nat → Bool) (f : Chan → Chan) (d : Device) : (d.mapChans p f).lapOut = d.lapOut := rfl
@[simp] theorem Device.mapChans_wear (p : Nat → Bool) (f : Chan → Chan) (d : Device) : (d.mapChans p f).wear = d.wear := rfl
@[simp] theorem Device.mapChans_lanes (p : Nat → Bool) (f : Chan → Chan) (d : Device) : (d.mapChans p f).lanes = d.lanes := rfl
@[simp] theorem Device.mapChans_lanesAt (p : Nat → Bool) (f : Chan → Chan) (d : Device) : (d.mapChans p f).lanesAt = d.lanesAt := rfl
@[simp] theorem Device.mapChans_ilkOpen (p : Nat → Bool) (f : Chan → Chan) (d : Device) : (d.mapChans p f).ilkOpen = d.ilkOpen := rfl
@[simp] theorem Device.mapChans_hot (p : Nat → Bool) (f : Chan → Chan) (d : Device) : (d.mapChans p f).hot = d.hot := rfl
@[simp] theorem Device.mapChans_temps (p : Nat → Bool) (f : Chan → Chan) (d : Device) : (d.mapChans p f).temps = d.temps := rfl
@[simp] theorem Device.mapChans_pw (p : Nat → Bool) (f : Chan → Chan) (d : Device) : (d.mapChans p f).pw = d.pw := rfl
@[simp] theorem Device.mapChans_sec (p : Nat → Bool) (f : Chan → Chan) (d : Device) : (d.mapChans p f).sec = d.sec := rfl
@[simp] theorem Device.mapChans_health (p : Nat → Bool) (f : Chan → Chan) (d : Device) : (d.mapChans p f).health = d.health := rfl

@[simp] theorem Device.useFree_dt  (d : Device) : (d.useFree).dt = d.dt := rfl
@[simp] theorem Device.useFree_regs  (d : Device) : (d.useFree).regs = d.regs := rfl
@[simp] theorem Device.useFree_afe  (d : Device) : (d.useFree).afe = d.afe := rfl
@[simp] theorem Device.useFree_cl  (d : Device) : (d.useFree).cl = d.cl := rfl
@[simp] theorem Device.useFree_grp  (d : Device) : (d.useFree).grp = d.grp := rfl
@[simp] theorem Device.useFree_ch  (d : Device) : (d.useFree).ch = d.ch := rfl
@[simp] theorem Device.useFree_mem  (d : Device) : (d.useFree).mem = d.mem := rfl
@[simp] theorem Device.useFree_bad  (d : Device) : (d.useFree).bad = d.bad := rfl
@[simp] theorem Device.useFree_soft  (d : Device) : (d.useFree).soft = d.soft := rfl
@[simp] theorem Device.useFree_wback  (d : Device) : (d.useFree).wback = d.wback := rfl
@[simp] theorem Device.useFree_regWait  (d : Device) : (d.useFree).regWait = d.regWait := rfl
@[simp] theorem Device.useFree_btAt  (d : Device) : (d.useFree).btAt = d.btAt := rfl
@[simp] theorem Device.useFree_btNext  (d : Device) : (d.useFree).btNext = d.btNext := rfl
@[simp] theorem Device.useFree_btTested  (d : Device) : (d.useFree).btTested = d.btTested := rfl
@[simp] theorem Device.useFree_btSkipped  (d : Device) : (d.useFree).btSkipped = d.btSkipped := rfl
@[simp] theorem Device.useFree_caught  (d : Device) : (d.useFree).caught = d.caught := rfl
@[simp] theorem Device.useFree_held  (d : Device) : (d.useFree).held = d.held := rfl
@[simp] theorem Device.useFree_resp  (d : Device) : (d.useFree).resp = d.resp := rfl
@[simp] theorem Device.useFree_lockQ  (d : Device) : (d.useFree).lockQ = d.lockQ := rfl
@[simp] theorem Device.useFree_evt  (d : Device) : (d.useFree).evt = d.evt := rfl
@[simp] theorem Device.useFree_lampQ  (d : Device) : (d.useFree).lampQ = d.lampQ := rfl
@[simp] theorem Device.useFree_tb  (d : Device) : (d.useFree).tb = d.tb := rfl
@[simp] theorem Device.useFree_roleDone  (d : Device) : (d.useFree).roleDone = d.roleDone := rfl
@[simp] theorem Device.useFree_bootRole  (d : Device) : (d.useFree).bootRole = d.bootRole := rfl
@[simp] theorem Device.useFree_roleDirty  (d : Device) : (d.useFree).roleDirty = d.roleDirty := rfl
@[simp] theorem Device.useFree_bcn  (d : Device) : (d.useFree).bcn = d.bcn := rfl
@[simp] theorem Device.useFree_fef  (d : Device) : (d.useFree).fef = d.fef := rfl
@[simp] theorem Device.useFree_oseq  (d : Device) : (d.useFree).oseq = d.oseq := rfl
@[simp] theorem Device.useFree_evSeen  (d : Device) : (d.useFree).evSeen = d.evSeen := rfl
@[simp] theorem Device.useFree_fail  (d : Device) : (d.useFree).fail = d.fail := rfl
@[simp] theorem Device.useFree_mot  (d : Device) : (d.useFree).mot = d.mot := rfl
@[simp] theorem Device.useFree_ct  (d : Device) : (d.useFree).ct = d.ct := rfl
@[simp] theorem Device.useFree_records  (d : Device) : (d.useFree).records = d.records := rfl
@[simp] theorem Device.useFree_ddr  (d : Device) : (d.useFree).ddr = d.ddr := rfl
@[simp] theorem Device.useFree_dsp  (d : Device) : (d.useFree).dsp = d.dsp := rfl
@[simp] theorem Device.useFree_sess  (d : Device) : (d.useFree).sess = d.sess := rfl
@[simp] theorem Device.useFree_lapOut  (d : Device) : (d.useFree).lapOut = d.lapOut := rfl
@[simp] theorem Device.useFree_wear  (d : Device) : (d.useFree).wear = d.wear := rfl
@[simp] theorem Device.useFree_lanes  (d : Device) : (d.useFree).lanes = d.lanes := rfl
@[simp] theorem Device.useFree_lanesAt  (d : Device) : (d.useFree).lanesAt = d.lanesAt := rfl
@[simp] theorem Device.useFree_ilkOpen  (d : Device) : (d.useFree).ilkOpen = d.ilkOpen := rfl
@[simp] theorem Device.useFree_hot  (d : Device) : (d.useFree).hot = d.hot := rfl
@[simp] theorem Device.useFree_temps  (d : Device) : (d.useFree).temps = d.temps := rfl
@[simp] theorem Device.useFree_pw  (d : Device) : (d.useFree).pw = d.pw := rfl
@[simp] theorem Device.useFree_sec  (d : Device) : (d.useFree).sec = d.sec := rfl
@[simp] theorem Device.useFree_health  (d : Device) : (d.useFree).health = d.health := rfl

/-! ### What the capture engines see leaves the rest of the device -/

@[simp] theorem Device.watch_dt (o d : Device) : (o.watch d).dt = d.dt := by unfold Device.watch; split <;> rfl
@[simp] theorem Device.watch_free (o d : Device) : (o.watch d).free = d.free := by unfold Device.watch; split <;> rfl
@[simp] theorem Device.watch_regs (o d : Device) : (o.watch d).regs = d.regs := by unfold Device.watch; split <;> rfl
@[simp] theorem Device.watch_afe (o d : Device) : (o.watch d).afe = d.afe := by unfold Device.watch; split <;> rfl
@[simp] theorem Device.watch_grp (o d : Device) : (o.watch d).grp = d.grp := by unfold Device.watch; split <;> rfl
@[simp] theorem Device.watch_ch (o d : Device) : (o.watch d).ch = d.ch := by unfold Device.watch; split <;> rfl
@[simp] theorem Device.watch_mem (o d : Device) : (o.watch d).mem = d.mem := by unfold Device.watch; split <;> rfl
@[simp] theorem Device.watch_bad (o d : Device) : (o.watch d).bad = d.bad := by unfold Device.watch; split <;> rfl
@[simp] theorem Device.watch_soft (o d : Device) : (o.watch d).soft = d.soft := by unfold Device.watch; split <;> rfl
@[simp] theorem Device.watch_wback (o d : Device) : (o.watch d).wback = d.wback := by unfold Device.watch; split <;> rfl
@[simp] theorem Device.watch_regWait (o d : Device) : (o.watch d).regWait = d.regWait := by unfold Device.watch; split <;> rfl
@[simp] theorem Device.watch_btAt (o d : Device) : (o.watch d).btAt = d.btAt := by unfold Device.watch; split <;> rfl
@[simp] theorem Device.watch_btNext (o d : Device) : (o.watch d).btNext = d.btNext := by unfold Device.watch; split <;> rfl
@[simp] theorem Device.watch_btTested (o d : Device) : (o.watch d).btTested = d.btTested := by unfold Device.watch; split <;> rfl
@[simp] theorem Device.watch_btSkipped (o d : Device) : (o.watch d).btSkipped = d.btSkipped := by unfold Device.watch; split <;> rfl
@[simp] theorem Device.watch_caught (o d : Device) : (o.watch d).caught = d.caught := by unfold Device.watch; split <;> rfl
@[simp] theorem Device.watch_held (o d : Device) : (o.watch d).held = d.held := by unfold Device.watch; split <;> rfl
@[simp] theorem Device.watch_resp (o d : Device) : (o.watch d).resp = d.resp := by unfold Device.watch; split <;> rfl
@[simp] theorem Device.watch_lockQ (o d : Device) : (o.watch d).lockQ = d.lockQ := by unfold Device.watch; split <;> rfl
@[simp] theorem Device.watch_evt (o d : Device) : (o.watch d).evt = d.evt := by unfold Device.watch; split <;> rfl
@[simp] theorem Device.watch_lampQ (o d : Device) : (o.watch d).lampQ = d.lampQ := by unfold Device.watch; split <;> rfl
@[simp] theorem Device.watch_tb (o d : Device) : (o.watch d).tb = d.tb := by unfold Device.watch; split <;> rfl
@[simp] theorem Device.watch_roleDone (o d : Device) : (o.watch d).roleDone = d.roleDone := by unfold Device.watch; split <;> rfl
@[simp] theorem Device.watch_bootRole (o d : Device) : (o.watch d).bootRole = d.bootRole := by unfold Device.watch; split <;> rfl
@[simp] theorem Device.watch_roleDirty (o d : Device) : (o.watch d).roleDirty = d.roleDirty := by unfold Device.watch; split <;> rfl
@[simp] theorem Device.watch_bcn (o d : Device) : (o.watch d).bcn = d.bcn := by unfold Device.watch; split <;> rfl
@[simp] theorem Device.watch_fef (o d : Device) : (o.watch d).fef = d.fef := by unfold Device.watch; split <;> rfl
@[simp] theorem Device.watch_oseq (o d : Device) : (o.watch d).oseq = d.oseq := by unfold Device.watch; split <;> rfl
@[simp] theorem Device.watch_evSeen (o d : Device) : (o.watch d).evSeen = d.evSeen := by unfold Device.watch; split <;> rfl
@[simp] theorem Device.watch_fail (o d : Device) : (o.watch d).fail = d.fail := by unfold Device.watch; split <;> rfl
@[simp] theorem Device.watch_mot (o d : Device) : (o.watch d).mot = d.mot := by unfold Device.watch; split <;> rfl
@[simp] theorem Device.watch_ct (o d : Device) : (o.watch d).ct = d.ct := by unfold Device.watch; split <;> rfl
@[simp] theorem Device.watch_records (o d : Device) : (o.watch d).records = d.records := by unfold Device.watch; split <;> rfl
@[simp] theorem Device.watch_ddr (o d : Device) : (o.watch d).ddr = d.ddr := by unfold Device.watch; split <;> rfl
@[simp] theorem Device.watch_dsp (o d : Device) : (o.watch d).dsp = d.dsp := by unfold Device.watch; split <;> rfl
@[simp] theorem Device.watch_sess (o d : Device) : (o.watch d).sess = d.sess := by unfold Device.watch; split <;> rfl
@[simp] theorem Device.watch_lapOut (o d : Device) : (o.watch d).lapOut = d.lapOut := by unfold Device.watch; split <;> rfl
@[simp] theorem Device.watch_wear (o d : Device) : (o.watch d).wear = d.wear := by unfold Device.watch; split <;> rfl
@[simp] theorem Device.watch_lanes (o d : Device) : (o.watch d).lanes = d.lanes := by unfold Device.watch; split <;> rfl
@[simp] theorem Device.watch_lanesAt (o d : Device) : (o.watch d).lanesAt = d.lanesAt := by unfold Device.watch; split <;> rfl
@[simp] theorem Device.watch_ilkOpen (o d : Device) : (o.watch d).ilkOpen = d.ilkOpen := by unfold Device.watch; split <;> rfl
@[simp] theorem Device.watch_hot (o d : Device) : (o.watch d).hot = d.hot := by unfold Device.watch; split <;> rfl
@[simp] theorem Device.watch_temps (o d : Device) : (o.watch d).temps = d.temps := by unfold Device.watch; split <;> rfl
@[simp] theorem Device.watch_pw (o d : Device) : (o.watch d).pw = d.pw := by unfold Device.watch; split <;> rfl
@[simp] theorem Device.watch_sec (o d : Device) : (o.watch d).sec = d.sec := by unfold Device.watch; split <;> rfl
@[simp] theorem Device.watch_health (o d : Device) : (o.watch d).health = d.health := by unfold Device.watch; split <;> rfl

/-! ### Units after an update -/

theorem Tab.getD_past {α : Type} {n : Nat} (t : Tab α n) {i : Nat} (h : ¬ i < n) (x : α) : t.getD i x = x := by
  have hl : t.val.length ≤ i := by rw [t.len]; omega
  simp [Tab.getD, List.getD_eq_getElem?_getD, hl]
theorem Tab.modify_past {α : Type} {n : Nat} (t : Tab α n) {i : Nat} (h : ¬ i < n) (f : α → α) (j : Nat) (x : α) :
    (t.modify i f).getD j x = t.getD j x := by
  by_cases hj : j = i
  · subst hj; rw [Tab.getD_past _ h, Tab.getD_past _ h]
  · exact Tab.getD_modify_ne t hj f x

@[simp] theorem Device.get_set_same (f : Fld) (v : Nat) (d : Device) : (d.set f v).get f = v % 2 ^ f.width := Regs.get_set_same _ _ _
theorem Device.get_set_ne {f g : Fld} (h : g.key ≠ f.key) (v : Nat) (d : Device) : (d.set f v).get g = d.get g := Regs.get_set_ne h _ _
theorem Device.get_setB_ne {f g : Fld} (h : g.key ≠ f.key) (b : Bool) (d : Device) : (d.setB f b).get g = d.get g := Regs.get_set_ne h _ _
theorem Device.on_setB_same {f : Fld} (h : 0 < f.width) (b : Bool) (d : Device) : (d.setB f b).on f = b := Regs.on_setB_same h _ _
theorem Device.on_setB_ne {f g : Fld} (h : g.key ≠ f.key) (b : Bool) (d : Device) : (d.setB f b).on g = d.on g := Regs.on_set_ne h _ _
theorem Device.on_set_ne {f g : Fld} (h : g.key ≠ f.key) (v : Nat) (d : Device) : (d.set f v).on g = d.on g := Regs.on_set_ne h _ _
@[simp] theorem Device.get_bump_same (f : Fld) (n : Nat) (d : Device) : (d.bump f n).get f = min (d.get f + n) (2 ^ f.width - 1) := Regs.get_bump_same _ _ _
theorem Device.get_bump_ne {f g : Fld} (h : g.key ≠ f.key) (n : Nat) (d : Device) : (d.bump f n).get g = d.get g := Regs.get_set_ne h _ _
theorem Device.on_bump_ne {f g : Fld} (h : g.key ≠ f.key) (n : Nat) (d : Device) : (d.bump f n).on g = d.on g := Regs.on_set_ne h _ _

@[simp] theorem Afe.get_set_same (f : Fld) (v : Nat) (x : Afe) : (x.set f v).get f = v % 2 ^ f.width := Regs.get_set_same _ _ _
theorem Afe.get_set_ne {f g : Fld} (h : g.key ≠ f.key) (v : Nat) (x : Afe) : (x.set f v).get g = x.get g := Regs.get_set_ne h _ _
theorem Afe.get_setB_ne {f g : Fld} (h : g.key ≠ f.key) (b : Bool) (x : Afe) : (x.setB f b).get g = x.get g := Regs.get_set_ne h _ _
theorem Afe.on_set_ne {f g : Fld} (h : g.key ≠ f.key) (v : Nat) (x : Afe) : (x.set f v).on g = x.on g := Regs.on_set_ne h _ _
theorem Afe.on_setB_same {f : Fld} (h : 0 < f.width) (b : Bool) (x : Afe) : (x.setB f b).on f = b := Regs.on_setB_same h _ _
theorem Afe.on_setB_ne {f g : Fld} (h : g.key ≠ f.key) (b : Bool) (x : Afe) : (x.setB f b).on g = x.on g := Regs.on_set_ne h _ _

@[simp] theorem Cluster.get_set_same (f : Fld) (v : Nat) (x : Cluster) : (x.set f v).get f = v % 2 ^ f.width := Regs.get_set_same _ _ _
theorem Cluster.get_set_ne {f g : Fld} (h : g.key ≠ f.key) (v : Nat) (x : Cluster) : (x.set f v).get g = x.get g := Regs.get_set_ne h _ _
theorem Cluster.get_setB_ne {f g : Fld} (h : g.key ≠ f.key) (b : Bool) (x : Cluster) : (x.setB f b).get g = x.get g := Regs.get_set_ne h _ _
theorem Cluster.on_set_ne {f g : Fld} (h : g.key ≠ f.key) (v : Nat) (x : Cluster) : (x.set f v).on g = x.on g := Regs.on_set_ne h _ _
theorem Cluster.on_setB_same {f : Fld} (h : 0 < f.width) (b : Bool) (x : Cluster) : (x.setB f b).on f = b := Regs.on_setB_same h _ _
theorem Cluster.on_setB_ne {f g : Fld} (h : g.key ≠ f.key) (b : Bool) (x : Cluster) : (x.setB f b).on g = x.on g := Regs.on_set_ne h _ _

@[simp] theorem Thread.get_set_same (f : Fld) (v : Nat) (x : Thread) : (x.set f v).get f = v % 2 ^ f.width := Regs.get_set_same _ _ _
theorem Thread.get_set_ne {f g : Fld} (h : g.key ≠ f.key) (v : Nat) (x : Thread) : (x.set f v).get g = x.get g := Regs.get_set_ne h _ _
theorem Thread.get_setB_ne {f g : Fld} (h : g.key ≠ f.key) (b : Bool) (x : Thread) : (x.setB f b).get g = x.get g := Regs.get_set_ne h _ _
theorem Thread.on_set_ne {f g : Fld} (h : g.key ≠ f.key) (v : Nat) (x : Thread) : (x.set f v).on g = x.on g := Regs.on_set_ne h _ _
theorem Thread.on_setB_same {f : Fld} (h : 0 < f.width) (b : Bool) (x : Thread) : (x.setB f b).on f = b := Regs.on_setB_same h _ _
theorem Thread.on_setB_ne {f g : Fld} (h : g.key ≠ f.key) (b : Bool) (x : Thread) : (x.setB f b).on g = x.on g := Regs.on_set_ne h _ _

@[simp] theorem Sti.get_set_same (f : Fld) (v : Nat) (x : Sti) : (x.set f v).get f = v % 2 ^ f.width := Regs.get_set_same _ _ _
theorem Sti.get_set_ne {f g : Fld} (h : g.key ≠ f.key) (v : Nat) (x : Sti) : (x.set f v).get g = x.get g := Regs.get_set_ne h _ _
theorem Sti.get_setB_ne {f g : Fld} (h : g.key ≠ f.key) (b : Bool) (x : Sti) : (x.setB f b).get g = x.get g := Regs.get_set_ne h _ _
theorem Sti.on_set_ne {f g : Fld} (h : g.key ≠ f.key) (v : Nat) (x : Sti) : (x.set f v).on g = x.on g := Regs.on_set_ne h _ _
theorem Sti.on_setB_same {f : Fld} (h : 0 < f.width) (b : Bool) (x : Sti) : (x.setB f b).on f = b := Regs.on_setB_same h _ _
theorem Sti.on_setB_ne {f g : Fld} (h : g.key ≠ f.key) (b : Bool) (x : Sti) : (x.setB f b).on g = x.on g := Regs.on_set_ne h _ _

@[simp] theorem CapCh.get_set_same (f : Fld) (v : Nat) (x : CapCh) : (x.set f v).get f = v % 2 ^ f.width := Regs.get_set_same _ _ _
theorem CapCh.get_set_ne {f g : Fld} (h : g.key ≠ f.key) (v : Nat) (x : CapCh) : (x.set f v).get g = x.get g := Regs.get_set_ne h _ _
theorem CapCh.get_setB_ne {f g : Fld} (h : g.key ≠ f.key) (b : Bool) (x : CapCh) : (x.setB f b).get g = x.get g := Regs.get_set_ne h _ _
theorem CapCh.on_set_ne {f g : Fld} (h : g.key ≠ f.key) (v : Nat) (x : CapCh) : (x.set f v).on g = x.on g := Regs.on_set_ne h _ _
theorem CapCh.on_setB_same {f : Fld} (h : 0 < f.width) (b : Bool) (x : CapCh) : (x.setB f b).on f = b := Regs.on_setB_same h _ _
theorem CapCh.on_setB_ne {f g : Fld} (h : g.key ≠ f.key) (b : Bool) (x : CapCh) : (x.setB f b).on g = x.on g := Regs.on_set_ne h _ _

theorem Device.chan_modChan_same {n : Nat} (h : n < 1024) (f : Chan → Chan) (d : Device) : (d.modChan n f).chan n = f (d.chan n) :=
  Tab.getD_modify_same _ h _ _
theorem Device.chan_modChan_ne {n m : Nat} (h : m ≠ n) (f : Chan → Chan) (d : Device) : (d.modChan n f).chan m = d.chan m :=
  Tab.getD_modify_ne _ h _ _
theorem Device.chan_mapChans {n : Nat} (h : n < 1024) (p : Nat → Bool) (f : Chan → Chan) (d : Device) :
    (d.mapChans p f).chan n = if p n then f (d.chan n) else d.chan n := Tab.getD_mapIdx _ h _ _
theorem Device.group_modGrp_same {g : Nat} (h : g < 128) (f : Grp → Grp) (d : Device) : (d.modGrp g f).group g = f (d.group g) :=
  Tab.getD_modify_same _ h _ _
theorem Device.group_modGrp_ne {g h' : Nat} (h : h' ≠ g) (f : Grp → Grp) (d : Device) : (d.modGrp g f).group h' = d.group h' :=
  Tab.getD_modify_ne _ h _ _
theorem Device.chip_modAfe_same {a : Nat} (h : a < 8) (f : Afe → Afe) (d : Device) : (d.modAfe a f).chip a = f (d.chip a) :=
  Tab.getD_modify_same _ h _ _
theorem Device.chip_modAfe_ne {a b : Nat} (h : b ≠ a) (f : Afe → Afe) (d : Device) : (d.modAfe a f).chip b = d.chip b :=
  Tab.getD_modify_ne _ h _ _
theorem Device.clus_modCl_same {k : Nat} (h : k < 16) (f : Cluster → Cluster) (d : Device) : (d.modCl k f).clus k = f (d.clus k) :=
  Tab.getD_modify_same _ h _ _
theorem Device.clus_modCl_ne {k j : Nat} (h : j ≠ k) (f : Cluster → Cluster) (d : Device) : (d.modCl k f).clus j = d.clus j :=
  Tab.getD_modify_ne _ h _ _
theorem Device.thread_modThr_same {k c : Nat} (hk : k < 16) (hc : c < 64) (f : Thread → Thread) (d : Device) :
    (d.modThr k c f).thread k c = f (d.thread k c) := by
  unfold Device.thread Device.modThr
  rw [Device.clus_modCl_same hk]
  exact Tab.getD_modify_same _ hc _ _
theorem Device.thread_modThr_ne {k c j e : Nat} (h : (j, e) ≠ (k, c)) (f : Thread → Thread) (d : Device) :
    (d.modThr k c f).thread j e = d.thread j e := by
  unfold Device.thread Device.modThr
  by_cases hj : j = k
  · subst hj
    have he : e ≠ c := fun x => h (by rw [x])
    by_cases hk : j < 16
    · rw [Device.clus_modCl_same hk]
      exact Tab.getD_modify_ne _ he _ _
    · unfold Device.modCl Device.clus
      simp only [Tab.modify_past _ hk]
  · rw [Device.clus_modCl_ne hj]
theorem Device.sti_modSti_same {k u : Nat} (hk : k < 16) (hu : u < 8) (f : Sti → Sti) (d : Device) :
    (d.modSti k u f).sti k u = f (d.sti k u) := by
  unfold Device.sti Device.modSti
  rw [Device.clus_modCl_same hk]
  exact Tab.getD_modify_same _ hu _ _
theorem Device.capt_modCap_same {n : Nat} (h : n < 1024) (f : CapCh → CapCh) (d : Device) : (d.modCap n f).capt n = f (d.capt n) := by
  unfold Device.capt Device.modCap
  rw [Device.clus_modCl_same (by omega)]
  exact Tab.getD_modify_same _ (by omega) _ _

@[simp] theorem Device.chan_set (f : Fld) (v : Nat) (m : Nat) (d : Device) : (d.set f v).chan m = d.chan m := rfl
@[simp] theorem Device.group_set (f : Fld) (v : Nat) (m : Nat) (d : Device) : (d.set f v).group m = d.group m := rfl
@[simp] theorem Device.chip_set (f : Fld) (v : Nat) (m : Nat) (d : Device) : (d.set f v).chip m = d.chip m := rfl
@[simp] theorem Device.clus_set (f : Fld) (v : Nat) (m : Nat) (d : Device) : (d.set f v).clus m = d.clus m := rfl
@[simp] theorem Device.thread_set (f : Fld) (v : Nat) (i j : Nat) (d : Device) : (d.set f v).thread i j = d.thread i j := rfl
@[simp] theorem Device.sti_set (f : Fld) (v : Nat) (i j : Nat) (d : Device) : (d.set f v).sti i j = d.sti i j := rfl
@[simp] theorem Device.capt_set (f : Fld) (v : Nat) (m : Nat) (d : Device) : (d.set f v).capt m = d.capt m := rfl
@[simp] theorem Device.chan_setB (f : Fld) (b : Bool) (m : Nat) (d : Device) : (d.setB f b).chan m = d.chan m := rfl
@[simp] theorem Device.group_setB (f : Fld) (b : Bool) (m : Nat) (d : Device) : (d.setB f b).group m = d.group m := rfl
@[simp] theorem Device.chip_setB (f : Fld) (b : Bool) (m : Nat) (d : Device) : (d.setB f b).chip m = d.chip m := rfl
@[simp] theorem Device.clus_setB (f : Fld) (b : Bool) (m : Nat) (d : Device) : (d.setB f b).clus m = d.clus m := rfl
@[simp] theorem Device.thread_setB (f : Fld) (b : Bool) (i j : Nat) (d : Device) : (d.setB f b).thread i j = d.thread i j := rfl
@[simp] theorem Device.sti_setB (f : Fld) (b : Bool) (i j : Nat) (d : Device) : (d.setB f b).sti i j = d.sti i j := rfl
@[simp] theorem Device.capt_setB (f : Fld) (b : Bool) (m : Nat) (d : Device) : (d.setB f b).capt m = d.capt m := rfl
@[simp] theorem Device.chan_bump (f : Fld) (n : Nat) (m : Nat) (d : Device) : (d.bump f n).chan m = d.chan m := rfl
@[simp] theorem Device.group_bump (f : Fld) (n : Nat) (m : Nat) (d : Device) : (d.bump f n).group m = d.group m := rfl
@[simp] theorem Device.chip_bump (f : Fld) (n : Nat) (m : Nat) (d : Device) : (d.bump f n).chip m = d.chip m := rfl
@[simp] theorem Device.clus_bump (f : Fld) (n : Nat) (m : Nat) (d : Device) : (d.bump f n).clus m = d.clus m := rfl
@[simp] theorem Device.thread_bump (f : Fld) (n : Nat) (i j : Nat) (d : Device) : (d.bump f n).thread i j = d.thread i j := rfl
@[simp] theorem Device.sti_bump (f : Fld) (n : Nat) (i j : Nat) (d : Device) : (d.bump f n).sti i j = d.sti i j := rfl
@[simp] theorem Device.capt_bump (f : Fld) (n : Nat) (m : Nat) (d : Device) : (d.bump f n).capt m = d.capt m := rfl
@[simp] theorem Device.get_modChan (n : Nat) (f : Chan → Chan) (x : Fld) (d : Device) : (d.modChan n f).get x = d.get x := rfl
@[simp] theorem Device.on_modChan (n : Nat) (f : Chan → Chan) (x : Fld) (d : Device) : (d.modChan n f).on x = d.on x := rfl
@[simp] theorem Device.group_modChan (n : Nat) (f : Chan → Chan) (m : Nat) (d : Device) : (d.modChan n f).group m = d.group m := rfl
@[simp] theorem Device.chip_modChan (n : Nat) (f : Chan → Chan) (m : Nat) (d : Device) : (d.modChan n f).chip m = d.chip m := rfl
@[simp] theorem Device.clus_modChan (n : Nat) (f : Chan → Chan) (m : Nat) (d : Device) : (d.modChan n f).clus m = d.clus m := rfl
@[simp] theorem Device.thread_modChan (n : Nat) (f : Chan → Chan) (i j : Nat) (d : Device) : (d.modChan n f).thread i j = d.thread i j := rfl
@[simp] theorem Device.sti_modChan (n : Nat) (f : Chan → Chan) (i j : Nat) (d : Device) : (d.modChan n f).sti i j = d.sti i j := rfl
@[simp] theorem Device.capt_modChan (n : Nat) (f : Chan → Chan) (m : Nat) (d : Device) : (d.modChan n f).capt m = d.capt m := rfl
@[simp] theorem Device.get_modGrp (g : Nat) (f : Grp → Grp) (x : Fld) (d : Device) : (d.modGrp g f).get x = d.get x := rfl
@[simp] theorem Device.on_modGrp (g : Nat) (f : Grp → Grp) (x : Fld) (d : Device) : (d.modGrp g f).on x = d.on x := rfl
@[simp] theorem Device.chan_modGrp (g : Nat) (f : Grp → Grp) (m : Nat) (d : Device) : (d.modGrp g f).chan m = d.chan m := rfl
@[simp] theorem Device.chip_modGrp (g : Nat) (f : Grp → Grp) (m : Nat) (d : Device) : (d.modGrp g f).chip m = d.chip m := rfl
@[simp] theorem Device.clus_modGrp (g : Nat) (f : Grp → Grp) (m : Nat) (d : Device) : (d.modGrp g f).clus m = d.clus m := rfl
@[simp] theorem Device.thread_modGrp (g : Nat) (f : Grp → Grp) (i j : Nat) (d : Device) : (d.modGrp g f).thread i j = d.thread i j := rfl
@[simp] theorem Device.sti_modGrp (g : Nat) (f : Grp → Grp) (i j : Nat) (d : Device) : (d.modGrp g f).sti i j = d.sti i j := rfl
@[simp] theorem Device.capt_modGrp (g : Nat) (f : Grp → Grp) (m : Nat) (d : Device) : (d.modGrp g f).capt m = d.capt m := rfl
@[simp] theorem Device.get_modAfe (a : Nat) (f : Afe → Afe) (x : Fld) (d : Device) : (d.modAfe a f).get x = d.get x := rfl
@[simp] theorem Device.on_modAfe (a : Nat) (f : Afe → Afe) (x : Fld) (d : Device) : (d.modAfe a f).on x = d.on x := rfl
@[simp] theorem Device.chan_modAfe (a : Nat) (f : Afe → Afe) (m : Nat) (d : Device) : (d.modAfe a f).chan m = d.chan m := rfl
@[simp] theorem Device.group_modAfe (a : Nat) (f : Afe → Afe) (m : Nat) (d : Device) : (d.modAfe a f).group m = d.group m := rfl
@[simp] theorem Device.clus_modAfe (a : Nat) (f : Afe → Afe) (m : Nat) (d : Device) : (d.modAfe a f).clus m = d.clus m := rfl
@[simp] theorem Device.thread_modAfe (a : Nat) (f : Afe → Afe) (i j : Nat) (d : Device) : (d.modAfe a f).thread i j = d.thread i j := rfl
@[simp] theorem Device.sti_modAfe (a : Nat) (f : Afe → Afe) (i j : Nat) (d : Device) : (d.modAfe a f).sti i j = d.sti i j := rfl
@[simp] theorem Device.capt_modAfe (a : Nat) (f : Afe → Afe) (m : Nat) (d : Device) : (d.modAfe a f).capt m = d.capt m := rfl
@[simp] theorem Device.get_modCl (k : Nat) (f : Cluster → Cluster) (x : Fld) (d : Device) : (d.modCl k f).get x = d.get x := rfl
@[simp] theorem Device.on_modCl (k : Nat) (f : Cluster → Cluster) (x : Fld) (d : Device) : (d.modCl k f).on x = d.on x := rfl
@[simp] theorem Device.chan_modCl (k : Nat) (f : Cluster → Cluster) (m : Nat) (d : Device) : (d.modCl k f).chan m = d.chan m := rfl
@[simp] theorem Device.group_modCl (k : Nat) (f : Cluster → Cluster) (m : Nat) (d : Device) : (d.modCl k f).group m = d.group m := rfl
@[simp] theorem Device.chip_modCl (k : Nat) (f : Cluster → Cluster) (m : Nat) (d : Device) : (d.modCl k f).chip m = d.chip m := rfl
@[simp] theorem Device.get_modThr (k c : Nat) (f : Thread → Thread) (x : Fld) (d : Device) : (d.modThr k c f).get x = d.get x := rfl
@[simp] theorem Device.on_modThr (k c : Nat) (f : Thread → Thread) (x : Fld) (d : Device) : (d.modThr k c f).on x = d.on x := rfl
@[simp] theorem Device.chan_modThr (k c : Nat) (f : Thread → Thread) (m : Nat) (d : Device) : (d.modThr k c f).chan m = d.chan m := rfl
@[simp] theorem Device.group_modThr (k c : Nat) (f : Thread → Thread) (m : Nat) (d : Device) : (d.modThr k c f).group m = d.group m := rfl
@[simp] theorem Device.chip_modThr (k c : Nat) (f : Thread → Thread) (m : Nat) (d : Device) : (d.modThr k c f).chip m = d.chip m := rfl
@[simp] theorem Device.get_modSti (k u : Nat) (f : Sti → Sti) (x : Fld) (d : Device) : (d.modSti k u f).get x = d.get x := rfl
@[simp] theorem Device.on_modSti (k u : Nat) (f : Sti → Sti) (x : Fld) (d : Device) : (d.modSti k u f).on x = d.on x := rfl
@[simp] theorem Device.chan_modSti (k u : Nat) (f : Sti → Sti) (m : Nat) (d : Device) : (d.modSti k u f).chan m = d.chan m := rfl
@[simp] theorem Device.group_modSti (k u : Nat) (f : Sti → Sti) (m : Nat) (d : Device) : (d.modSti k u f).group m = d.group m := rfl
@[simp] theorem Device.chip_modSti (k u : Nat) (f : Sti → Sti) (m : Nat) (d : Device) : (d.modSti k u f).chip m = d.chip m := rfl
@[simp] theorem Device.get_modCap (n : Nat) (f : CapCh → CapCh) (x : Fld) (d : Device) : (d.modCap n f).get x = d.get x := rfl
@[simp] theorem Device.on_modCap (n : Nat) (f : CapCh → CapCh) (x : Fld) (d : Device) : (d.modCap n f).on x = d.on x := rfl
@[simp] theorem Device.chan_modCap (n : Nat) (f : CapCh → CapCh) (m : Nat) (d : Device) : (d.modCap n f).chan m = d.chan m := rfl
@[simp] theorem Device.group_modCap (n : Nat) (f : CapCh → CapCh) (m : Nat) (d : Device) : (d.modCap n f).group m = d.group m := rfl
@[simp] theorem Device.chip_modCap (n : Nat) (f : CapCh → CapCh) (m : Nat) (d : Device) : (d.modCap n f).chip m = d.chip m := rfl
@[simp] theorem Device.get_mapChans (p : Nat → Bool) (f : Chan → Chan) (x : Fld) (d : Device) : (d.mapChans p f).get x = d.get x := rfl
@[simp] theorem Device.on_mapChans (p : Nat → Bool) (f : Chan → Chan) (x : Fld) (d : Device) : (d.mapChans p f).on x = d.on x := rfl
@[simp] theorem Device.group_mapChans (p : Nat → Bool) (f : Chan → Chan) (m : Nat) (d : Device) : (d.mapChans p f).group m = d.group m := rfl
@[simp] theorem Device.chip_mapChans (p : Nat → Bool) (f : Chan → Chan) (m : Nat) (d : Device) : (d.mapChans p f).chip m = d.chip m := rfl
@[simp] theorem Device.clus_mapChans (p : Nat → Bool) (f : Chan → Chan) (m : Nat) (d : Device) : (d.mapChans p f).clus m = d.clus m := rfl
@[simp] theorem Device.thread_mapChans (p : Nat → Bool) (f : Chan → Chan) (i j : Nat) (d : Device) : (d.mapChans p f).thread i j = d.thread i j := rfl
@[simp] theorem Device.sti_mapChans (p : Nat → Bool) (f : Chan → Chan) (i j : Nat) (d : Device) : (d.mapChans p f).sti i j = d.sti i j := rfl
@[simp] theorem Device.capt_mapChans (p : Nat → Bool) (f : Chan → Chan) (m : Nat) (d : Device) : (d.mapChans p f).capt m = d.capt m := rfl
@[simp] theorem Device.get_useFree  (x : Fld) (d : Device) : (d.useFree).get x = d.get x := rfl
@[simp] theorem Device.on_useFree  (x : Fld) (d : Device) : (d.useFree).on x = d.on x := rfl
@[simp] theorem Device.chan_useFree  (m : Nat) (d : Device) : (d.useFree).chan m = d.chan m := rfl
@[simp] theorem Device.group_useFree  (m : Nat) (d : Device) : (d.useFree).group m = d.group m := rfl
@[simp] theorem Device.chip_useFree  (m : Nat) (d : Device) : (d.useFree).chip m = d.chip m := rfl
@[simp] theorem Device.clus_useFree  (m : Nat) (d : Device) : (d.useFree).clus m = d.clus m := rfl
@[simp] theorem Device.thread_useFree  (i j : Nat) (d : Device) : (d.useFree).thread i j = d.thread i j := rfl
@[simp] theorem Device.sti_useFree  (i j : Nat) (d : Device) : (d.useFree).sti i j = d.sti i j := rfl
@[simp] theorem Device.capt_useFree  (m : Nat) (d : Device) : (d.useFree).capt m = d.capt m := rfl
@[simp] theorem Device.get_watch (x : Fld) (o d : Device) : (o.watch d).get x = d.get x := by unfold Device.watch; split <;> rfl
@[simp] theorem Device.on_watch (x : Fld) (o d : Device) : (o.watch d).on x = d.on x := by unfold Device.watch; split <;> rfl
@[simp] theorem Device.chan_watch (m : Nat) (o d : Device) : (o.watch d).chan m = d.chan m := by unfold Device.watch; split <;> rfl
@[simp] theorem Device.group_watch (m : Nat) (o d : Device) : (o.watch d).group m = d.group m := by unfold Device.watch; split <;> rfl
@[simp] theorem Device.chip_watch (m : Nat) (o d : Device) : (o.watch d).chip m = d.chip m := by unfold Device.watch; split <;> rfl

@[simp] theorem Device.clus_modThr_regs (k c : Nat) (f : Thread → Thread) (m : Nat) (d : Device) : ((d.modThr k c f).clus m).regs = (d.clus m).regs := by
  by_cases h : m = k
  · subst h
    by_cases hk : m < 16
    · unfold Device.modThr; rw [Device.clus_modCl_same hk]
    · simp only [Device.modThr, Device.modCl, Device.clus, Tab.modify_past _ hk]
  · unfold Device.modThr; rw [Device.clus_modCl_ne h]
@[simp] theorem Device.sti_modThr (k c : Nat) (f : Thread → Thread) (m u : Nat) (d : Device) : (d.modThr k c f).sti m u = d.sti m u := by
  unfold Device.sti
  by_cases h : m = k
  · subst h
    by_cases hk : m < 16
    · unfold Device.modThr; rw [Device.clus_modCl_same hk]
    · simp only [Device.modThr, Device.modCl, Device.clus, Tab.modify_past _ hk]
  · unfold Device.modThr; rw [Device.clus_modCl_ne h]
@[simp] theorem Device.capt_modThr (k c : Nat) (f : Thread → Thread) (m : Nat) (d : Device) : (d.modThr k c f).capt m = d.capt m := by
  unfold Device.capt
  by_cases h : m / 64 = k
  · subst h
    by_cases hk : m / 64 < 16
    · unfold Device.modThr; rw [Device.clus_modCl_same hk]
    · simp only [Device.modThr, Device.modCl, Device.clus, Tab.modify_past _ hk]
  · unfold Device.modThr; rw [Device.clus_modCl_ne h]

theorem Device.clus_watch (o d : Device) (k : Nat) : ∃ cap, (o.watch d).clus k = { d.clus k with cap := cap } := by
  unfold Device.watch
  split
  · exact ⟨(d.clus k).cap, rfl⟩
  · by_cases hk : k < 16
    · exact ⟨_, Tab.getD_mapIdx d.cl hk _ _⟩
    · refine ⟨(d.clus k).cap, ?_⟩
      simp only [Device.clus, Tab.getD_past _ hk]
@[simp] theorem Device.watch_clus_regs (o d : Device) (k : Nat) : ((o.watch d).clus k).regs = (d.clus k).regs := by
  obtain ⟨c, h⟩ := Device.clus_watch o d k; rw [h]
@[simp] theorem Device.thread_watch (o d : Device) (k c : Nat) : (o.watch d).thread k c = d.thread k c := by
  unfold Device.thread; obtain ⟨x, h⟩ := Device.clus_watch o d k; rw [h]
@[simp] theorem Device.sti_watch (o d : Device) (k u : Nat) : (o.watch d).sti k u = d.sti k u := by
  unfold Device.sti; obtain ⟨x, h⟩ := Device.clus_watch o d k; rw [h]
@[simp] theorem Device.watch_clus_get (o d : Device) (k : Nat) (f : Fld) : ((o.watch d).clus k).get f = (d.clus k).get f := by
  simp [Cluster.get]
@[simp] theorem Device.watch_clus_on (o d : Device) (k : Nat) (f : Fld) : ((o.watch d).clus k).on f = (d.clus k).on f := by
  simp [Cluster.on]
/-- A capture keeps its registers: only triggers on offer are added. -/
theorem Device.capt_watch (o d : Device) {n : Nat} (h : n < 1024) : ∃ offs, (o.watch d).capt n = { d.capt n with offers := offs } := by
  unfold Device.watch
  split
  · exact ⟨(d.capt n).offers, rfl⟩
  · have hk : n / 64 < 16 := by omega
    have hc : n % 64 < 64 := by omega
    simp only [Device.capt, Device.clus]
    rw [Tab.getD_mapIdx _ hk, Tab.getD_mapIdx _ hc]
    split
    · exact ⟨_, rfl⟩
    · exact ⟨_, rfl⟩

end Sys2Proof.Machine
end

