-- ==== Sys2Proof/Laws/Events.lean ====
section
/-! SUPPORT. What a raise of an event source changes: the source's PENDING, the unreported raises, and the queues of the Beacon and of Fefitil. -/

namespace Sys2Proof.Machine

/-- `e` differs from `d` at most in registers, event bookkeeping and the frames that wait to be sent. -/
def EventsOnly (d e : Device) : Prop :=
  ∃ r ev l b f o v, e = { d with regs := r, evt := ev, lampQ := l, bcn := b, fef := f, oseq := o, evSeen := v }

theorem EventsOnly.refl (d : Device) : EventsOnly d d := ⟨_, _, _, _, _, _, _, rfl⟩
theorem EventsOnly.trans {a b c : Device} (h : EventsOnly a b) (g : EventsOnly b c) : EventsOnly a c := by
  obtain ⟨_, _, _, _, _, _, _, rfl⟩ := h
  obtain ⟨_, _, _, _, _, _, _, rfl⟩ := g
  exact ⟨_, _, _, _, _, _, _, rfl⟩
theorem EventsOnly.foldl {α : Type} (f : Device → α → Device) (h : ∀ d x, EventsOnly d (f d x)) (xs : List α) :
    ∀ d, EventsOnly d (xs.foldl f d) := by
  induction xs with
  | nil => exact fun d => .refl d
  | cons x t ih => exact fun d => (h d x).trans (ih _)

theorem EventsOnly.ite {a x y : Device} {p : Prop} [Decidable p] (h : EventsOnly a x) (g : EventsOnly a y) : EventsOnly a (if p then x else y) := by
  split <;> assumption

theorem fefQueue_events (l typ : Nat) (b : List Nat) (d : Device) : EventsOnly d (d.fefQueue l typ b) := ⟨_, _, _, _, _, _, _, rfl⟩
theorem evrelIssue_events (kind num at_ : Nat) (d : Device) : EventsOnly d (d.evrelIssue kind num at_) := by
  unfold Device.evrelIssue
  dsimp only
  split
  · exact .refl d
  · exact EventsOnly.trans ⟨_, _, _, _, _, _, _, rfl⟩ (EventsOnly.foldl _ (fun d l => fefQueue_events _ _ _ d) _ _)
theorem bcnSend_events (kind num : Nat) (d : Device) : EventsOnly d (d.bcnSend kind num) := by
  unfold Device.bcnSend
  split
  · exact ⟨_, _, _, _, _, _, _, rfl⟩
  · exact ⟨_, _, _, _, _, _, _, rfl⟩
  · exact (evrelIssue_events _ _ _ d).trans ⟨_, _, _, _, _, _, _, rfl⟩
theorem raiseN_events (s n : Nat) (d : Device) : EventsOnly d (d.raiseN s n) := by
  unfold Device.raiseN
  refine EventsOnly.ite (.refl d) (EventsOnly.ite (EventsOnly.trans ?_ (bcnSend_events _ _ _)) ?_) <;>
    exact ⟨_, _, _, _, _, _, _, rfl⟩
theorem raise_events (s : Nat) (d : Device) : EventsOnly d (d.raise s) := raiseN_events s 1 d

/-! ### Registers -/

theorem fefQueue_regs (l typ : Nat) (b : List Nat) (d : Device) : (d.fefQueue l typ b).regs = d.regs := rfl
theorem foldl_regs {α : Type} (f : Device → α → Device) (h : ∀ d x, (f d x).regs = d.regs) (xs : List α) :
    ∀ d : Device, (xs.foldl f d).regs = d.regs := by
  induction xs with
  | nil => exact fun _ => rfl
  | cons x t ih => exact fun d => (ih _).trans (h d x)
theorem bcnSend_regs (kind num : Nat) (d : Device) : (d.bcnSend kind num).regs = d.regs := by
  unfold Device.bcnSend Device.evrelIssue
  split
  · rfl
  · rfl
  · dsimp only
    split
    · rfl
    · exact foldl_regs _ (fun d' l => fefQueue_regs l 2 _ d') _ _
theorem regs_ite {x y : Device} {r : Regs} {p : Prop} [Decidable p] (h : x.regs = r) (g : y.regs = r) : (if p then x else y).regs = r := by
  split <;> assumption
/-- A raise sets the PENDING of its source, and no other register. -/
theorem raiseN_regs {s n : Nat} (h : reservedSource s = false) (hn : n ≠ 0) (d : Device) :
    (d.raiseN s n).regs = d.regs.setB (EVT_SRC_PENDING s) true := by
  unfold Device.raiseN
  simp only [h, Bool.false_or, beq_iff_eq, hn, if_false]
  exact regs_ite (bcnSend_regs _ _ _) rfl
theorem raise_pending {s : Nat} (h : reservedSource s = false) (d : Device) : (d.raise s).on (EVT_SRC_PENDING s) = true := by
  simp only [Device.on, Device.raise, raiseN_regs h (Nat.one_ne_zero)]
  exact Regs.on_setB_same Nat.one_pos _ _
theorem raiseN_get_ne {s n : Nat} {f : Fld} (h : f.key ≠ (EVT_SRC_PENDING s).key) (d : Device) : (d.raiseN s n).get f = d.get f := by
  by_cases hr : reservedSource s = true ∨ n = 0
  · unfold Device.raiseN
    rw [if_pos (by simpa using hr)]
  · rw [not_or, Bool.not_eq_true] at hr
    simp only [Device.get, raiseN_regs hr.1 hr.2]
    exact Regs.get_setB_ne h _ _
theorem raise_get_ne {s : Nat} {f : Fld} (h : f.key ≠ (EVT_SRC_PENDING s).key) (d : Device) : (d.raise s).get f = d.get f := raiseN_get_ne h d
theorem raise_on_ne {s : Nat} {f : Fld} (h : f.key ≠ (EVT_SRC_PENDING s).key) (d : Device) : (d.raise s).on f = d.on f := by
  simp only [Device.on, Regs.on]; exact congrArg (· != 0) (raise_get_ne h d)
/-- A field outside the event sources keeps its value through every raise. -/
theorem key_ne_src {f : Fld} (h : f.off < 0x41000 ∨ 0x41800 ≤ f.off) (hf : f.lo < 64) {s : Nat} (hs : s < 512) : f.key ≠ (EVT_SRC_PENDING s).key := by
  simp only [EVT_SRC_PENDING, Fld.key]; omega

/-! ### Everything else -/

theorem EventsOnly.dt_eq {d e : Device} (h : EventsOnly d e) : e.dt = d.dt := by obtain ⟨_, _, _, _, _, _, _, rfl⟩ := h; rfl
theorem EventsOnly.free_eq {d e : Device} (h : EventsOnly d e) : e.free = d.free := by obtain ⟨_, _, _, _, _, _, _, rfl⟩ := h; rfl
theorem EventsOnly.afe_eq {d e : Device} (h : EventsOnly d e) : e.afe = d.afe := by obtain ⟨_, _, _, _, _, _, _, rfl⟩ := h; rfl
theorem EventsOnly.cl_eq {d e : Device} (h : EventsOnly d e) : e.cl = d.cl := by obtain ⟨_, _, _, _, _, _, _, rfl⟩ := h; rfl
theorem EventsOnly.grp_eq {d e : Device} (h : EventsOnly d e) : e.grp = d.grp := by obtain ⟨_, _, _, _, _, _, _, rfl⟩ := h; rfl
theorem EventsOnly.ch_eq {d e : Device} (h : EventsOnly d e) : e.ch = d.ch := by obtain ⟨_, _, _, _, _, _, _, rfl⟩ := h; rfl
theorem EventsOnly.mem_eq {d e : Device} (h : EventsOnly d e) : e.mem = d.mem := by obtain ⟨_, _, _, _, _, _, _, rfl⟩ := h; rfl
theorem EventsOnly.bad_eq {d e : Device} (h : EventsOnly d e) : e.bad = d.bad := by obtain ⟨_, _, _, _, _, _, _, rfl⟩ := h; rfl
theorem EventsOnly.soft_eq {d e : Device} (h : EventsOnly d e) : e.soft = d.soft := by obtain ⟨_, _, _, _, _, _, _, rfl⟩ := h; rfl
theorem EventsOnly.wback_eq {d e : Device} (h : EventsOnly d e) : e.wback = d.wback := by obtain ⟨_, _, _, _, _, _, _, rfl⟩ := h; rfl
theorem EventsOnly.regWait_eq {d e : Device} (h : EventsOnly d e) : e.regWait = d.regWait := by obtain ⟨_, _, _, _, _, _, _, rfl⟩ := h; rfl
theorem EventsOnly.btAt_eq {d e : Device} (h : EventsOnly d e) : e.btAt = d.btAt := by obtain ⟨_, _, _, _, _, _, _, rfl⟩ := h; rfl
theorem EventsOnly.btNext_eq {d e : Device} (h : EventsOnly d e) : e.btNext = d.btNext := by obtain ⟨_, _, _, _, _, _, _, rfl⟩ := h; rfl
theorem EventsOnly.btTested_eq {d e : Device} (h : EventsOnly d e) : e.btTested = d.btTested := by obtain ⟨_, _, _, _, _, _, _, rfl⟩ := h; rfl
theorem EventsOnly.btSkipped_eq {d e : Device} (h : EventsOnly d e) : e.btSkipped = d.btSkipped := by obtain ⟨_, _, _, _, _, _, _, rfl⟩ := h; rfl
theorem EventsOnly.caught_eq {d e : Device} (h : EventsOnly d e) : e.caught = d.caught := by obtain ⟨_, _, _, _, _, _, _, rfl⟩ := h; rfl
theorem EventsOnly.held_eq {d e : Device} (h : EventsOnly d e) : e.held = d.held := by obtain ⟨_, _, _, _, _, _, _, rfl⟩ := h; rfl
theorem EventsOnly.resp_eq {d e : Device} (h : EventsOnly d e) : e.resp = d.resp := by obtain ⟨_, _, _, _, _, _, _, rfl⟩ := h; rfl
theorem EventsOnly.lockQ_eq {d e : Device} (h : EventsOnly d e) : e.lockQ = d.lockQ := by obtain ⟨_, _, _, _, _, _, _, rfl⟩ := h; rfl
theorem EventsOnly.tb_eq {d e : Device} (h : EventsOnly d e) : e.tb = d.tb := by obtain ⟨_, _, _, _, _, _, _, rfl⟩ := h; rfl
theorem EventsOnly.roleDone_eq {d e : Device} (h : EventsOnly d e) : e.roleDone = d.roleDone := by obtain ⟨_, _, _, _, _, _, _, rfl⟩ := h; rfl
theorem EventsOnly.bootRole_eq {d e : Device} (h : EventsOnly d e) : e.bootRole = d.bootRole := by obtain ⟨_, _, _, _, _, _, _, rfl⟩ := h; rfl
theorem EventsOnly.roleDirty_eq {d e : Device} (h : EventsOnly d e) : e.roleDirty = d.roleDirty := by obtain ⟨_, _, _, _, _, _, _, rfl⟩ := h; rfl
theorem EventsOnly.fail_eq {d e : Device} (h : EventsOnly d e) : e.fail = d.fail := by obtain ⟨_, _, _, _, _, _, _, rfl⟩ := h; rfl
theorem EventsOnly.mot_eq {d e : Device} (h : EventsOnly d e) : e.mot = d.mot := by obtain ⟨_, _, _, _, _, _, _, rfl⟩ := h; rfl
theorem EventsOnly.ct_eq {d e : Device} (h : EventsOnly d e) : e.ct = d.ct := by obtain ⟨_, _, _, _, _, _, _, rfl⟩ := h; rfl
theorem EventsOnly.records_eq {d e : Device} (h : EventsOnly d e) : e.records = d.records := by obtain ⟨_, _, _, _, _, _, _, rfl⟩ := h; rfl
theorem EventsOnly.ddr_eq {d e : Device} (h : EventsOnly d e) : e.ddr = d.ddr := by obtain ⟨_, _, _, _, _, _, _, rfl⟩ := h; rfl
theorem EventsOnly.dsp_eq {d e : Device} (h : EventsOnly d e) : e.dsp = d.dsp := by obtain ⟨_, _, _, _, _, _, _, rfl⟩ := h; rfl
theorem EventsOnly.sess_eq {d e : Device} (h : EventsOnly d e) : e.sess = d.sess := by obtain ⟨_, _, _, _, _, _, _, rfl⟩ := h; rfl
theorem EventsOnly.lapOut_eq {d e : Device} (h : EventsOnly d e) : e.lapOut = d.lapOut := by obtain ⟨_, _, _, _, _, _, _, rfl⟩ := h; rfl
theorem EventsOnly.wear_eq {d e : Device} (h : EventsOnly d e) : e.wear = d.wear := by obtain ⟨_, _, _, _, _, _, _, rfl⟩ := h; rfl
theorem EventsOnly.lanes_eq {d e : Device} (h : EventsOnly d e) : e.lanes = d.lanes := by obtain ⟨_, _, _, _, _, _, _, rfl⟩ := h; rfl
theorem EventsOnly.lanesAt_eq {d e : Device} (h : EventsOnly d e) : e.lanesAt = d.lanesAt := by obtain ⟨_, _, _, _, _, _, _, rfl⟩ := h; rfl
theorem EventsOnly.ilkOpen_eq {d e : Device} (h : EventsOnly d e) : e.ilkOpen = d.ilkOpen := by obtain ⟨_, _, _, _, _, _, _, rfl⟩ := h; rfl
theorem EventsOnly.hot_eq {d e : Device} (h : EventsOnly d e) : e.hot = d.hot := by obtain ⟨_, _, _, _, _, _, _, rfl⟩ := h; rfl
theorem EventsOnly.temps_eq {d e : Device} (h : EventsOnly d e) : e.temps = d.temps := by obtain ⟨_, _, _, _, _, _, _, rfl⟩ := h; rfl
theorem EventsOnly.pw_eq {d e : Device} (h : EventsOnly d e) : e.pw = d.pw := by obtain ⟨_, _, _, _, _, _, _, rfl⟩ := h; rfl
theorem EventsOnly.sec_eq {d e : Device} (h : EventsOnly d e) : e.sec = d.sec := by obtain ⟨_, _, _, _, _, _, _, rfl⟩ := h; rfl
theorem EventsOnly.health_eq {d e : Device} (h : EventsOnly d e) : e.health = d.health := by obtain ⟨_, _, _, _, _, _, _, rfl⟩ := h; rfl
@[simp] theorem Device.raise_dt (s : Nat) (d : Device) : (d.raise s).dt = d.dt := (raise_events s d).dt_eq
@[simp] theorem Device.raise_free (s : Nat) (d : Device) : (d.raise s).free = d.free := (raise_events s d).free_eq
@[simp] theorem Device.raise_afe (s : Nat) (d : Device) : (d.raise s).afe = d.afe := (raise_events s d).afe_eq
@[simp] theorem Device.raise_cl (s : Nat) (d : Device) : (d.raise s).cl = d.cl := (raise_events s d).cl_eq
@[simp] theorem Device.raise_grp (s : Nat) (d : Device) : (d.raise s).grp = d.grp := (raise_events s d).grp_eq
@[simp] theorem Device.raise_ch (s : Nat) (d : Device) : (d.raise s).ch = d.ch := (raise_events s d).ch_eq
@[simp] theorem Device.raise_mem (s : Nat) (d : Device) : (d.raise s).mem = d.mem := (raise_events s d).mem_eq
@[simp] theorem Device.raise_bad (s : Nat) (d : Device) : (d.raise s).bad = d.bad := (raise_events s d).bad_eq
@[simp] theorem Device.raise_soft (s : Nat) (d : Device) : (d.raise s).soft = d.soft := (raise_events s d).soft_eq
@[simp] theorem Device.raise_wback (s : Nat) (d : Device) : (d.raise s).wback = d.wback := (raise_events s d).wback_eq
@[simp] theorem Device.raise_regWait (s : Nat) (d : Device) : (d.raise s).regWait = d.regWait := (raise_events s d).regWait_eq
@[simp] theorem Device.raise_btAt (s : Nat) (d : Device) : (d.raise s).btAt = d.btAt := (raise_events s d).btAt_eq
@[simp] theorem Device.raise_btNext (s : Nat) (d : Device) : (d.raise s).btNext = d.btNext := (raise_events s d).btNext_eq
@[simp] theorem Device.raise_btTested (s : Nat) (d : Device) : (d.raise s).btTested = d.btTested := (raise_events s d).btTested_eq
@[simp] theorem Device.raise_btSkipped (s : Nat) (d : Device) : (d.raise s).btSkipped = d.btSkipped := (raise_events s d).btSkipped_eq
@[simp] theorem Device.raise_caught (s : Nat) (d : Device) : (d.raise s).caught = d.caught := (raise_events s d).caught_eq
@[simp] theorem Device.raise_held (s : Nat) (d : Device) : (d.raise s).held = d.held := (raise_events s d).held_eq
@[simp] theorem Device.raise_resp (s : Nat) (d : Device) : (d.raise s).resp = d.resp := (raise_events s d).resp_eq
@[simp] theorem Device.raise_lockQ (s : Nat) (d : Device) : (d.raise s).lockQ = d.lockQ := (raise_events s d).lockQ_eq
@[simp] theorem Device.raise_tb (s : Nat) (d : Device) : (d.raise s).tb = d.tb := (raise_events s d).tb_eq
@[simp] theorem Device.raise_roleDone (s : Nat) (d : Device) : (d.raise s).roleDone = d.roleDone := (raise_events s d).roleDone_eq
@[simp] theorem Device.raise_bootRole (s : Nat) (d : Device) : (d.raise s).bootRole = d.bootRole := (raise_events s d).bootRole_eq
@[simp] theorem Device.raise_roleDirty (s : Nat) (d : Device) : (d.raise s).roleDirty = d.roleDirty := (raise_events s d).roleDirty_eq
@[simp] theorem Device.raise_fail (s : Nat) (d : Device) : (d.raise s).fail = d.fail := (raise_events s d).fail_eq
@[simp] theorem Device.raise_mot (s : Nat) (d : Device) : (d.raise s).mot = d.mot := (raise_events s d).mot_eq
@[simp] theorem Device.raise_ct (s : Nat) (d : Device) : (d.raise s).ct = d.ct := (raise_events s d).ct_eq
@[simp] theorem Device.raise_records (s : Nat) (d : Device) : (d.raise s).records = d.records := (raise_events s d).records_eq
@[simp] theorem Device.raise_ddr (s : Nat) (d : Device) : (d.raise s).ddr = d.ddr := (raise_events s d).ddr_eq
@[simp] theorem Device.raise_dsp (s : Nat) (d : Device) : (d.raise s).dsp = d.dsp := (raise_events s d).dsp_eq
@[simp] theorem Device.raise_sess (s : Nat) (d : Device) : (d.raise s).sess = d.sess := (raise_events s d).sess_eq
@[simp] theorem Device.raise_lapOut (s : Nat) (d : Device) : (d.raise s).lapOut = d.lapOut := (raise_events s d).lapOut_eq
@[simp] theorem Device.raise_wear (s : Nat) (d : Device) : (d.raise s).wear = d.wear := (raise_events s d).wear_eq
@[simp] theorem Device.raise_lanes (s : Nat) (d : Device) : (d.raise s).lanes = d.lanes := (raise_events s d).lanes_eq
@[simp] theorem Device.raise_lanesAt (s : Nat) (d : Device) : (d.raise s).lanesAt = d.lanesAt := (raise_events s d).lanesAt_eq
@[simp] theorem Device.raise_ilkOpen (s : Nat) (d : Device) : (d.raise s).ilkOpen = d.ilkOpen := (raise_events s d).ilkOpen_eq
@[simp] theorem Device.raise_hot (s : Nat) (d : Device) : (d.raise s).hot = d.hot := (raise_events s d).hot_eq
@[simp] theorem Device.raise_temps (s : Nat) (d : Device) : (d.raise s).temps = d.temps := (raise_events s d).temps_eq
@[simp] theorem Device.raise_pw (s : Nat) (d : Device) : (d.raise s).pw = d.pw := (raise_events s d).pw_eq
@[simp] theorem Device.raise_sec (s : Nat) (d : Device) : (d.raise s).sec = d.sec := (raise_events s d).sec_eq
@[simp] theorem Device.raise_health (s : Nat) (d : Device) : (d.raise s).health = d.health := (raise_events s d).health_eq
theorem EventsOnly.chan_eq {d e : Device} (h : EventsOnly d e) (m : Nat) : e.chan m = d.chan m := by obtain ⟨_, _, _, _, _, _, _, rfl⟩ := h; rfl
@[simp] theorem Device.chan_raise (s : Nat) (m : Nat) (d : Device) : (d.raise s).chan m = d.chan m := (raise_events s d).chan_eq m
theorem EventsOnly.group_eq {d e : Device} (h : EventsOnly d e) (m : Nat) : e.group m = d.group m := by obtain ⟨_, _, _, _, _, _, _, rfl⟩ := h; rfl
@[simp] theorem Device.group_raise (s : Nat) (m : Nat) (d : Device) : (d.raise s).group m = d.group m := (raise_events s d).group_eq m
theorem EventsOnly.chip_eq {d e : Device} (h : EventsOnly d e) (m : Nat) : e.chip m = d.chip m := by obtain ⟨_, _, _, _, _, _, _, rfl⟩ := h; rfl
@[simp] theorem Device.chip_raise (s : Nat) (m : Nat) (d : Device) : (d.raise s).chip m = d.chip m := (raise_events s d).chip_eq m
theorem EventsOnly.clus_eq {d e : Device} (h : EventsOnly d e) (m : Nat) : e.clus m = d.clus m := by obtain ⟨_, _, _, _, _, _, _, rfl⟩ := h; rfl
@[simp] theorem Device.clus_raise (s : Nat) (m : Nat) (d : Device) : (d.raise s).clus m = d.clus m := (raise_events s d).clus_eq m
theorem EventsOnly.thread_eq {d e : Device} (h : EventsOnly d e) (i j : Nat) : e.thread i j = d.thread i j := by obtain ⟨_, _, _, _, _, _, _, rfl⟩ := h; rfl
@[simp] theorem Device.thread_raise (s : Nat) (i j : Nat) (d : Device) : (d.raise s).thread i j = d.thread i j := (raise_events s d).thread_eq i j
theorem EventsOnly.sti_eq {d e : Device} (h : EventsOnly d e) (i j : Nat) : e.sti i j = d.sti i j := by obtain ⟨_, _, _, _, _, _, _, rfl⟩ := h; rfl
@[simp] theorem Device.sti_raise (s : Nat) (i j : Nat) (d : Device) : (d.raise s).sti i j = d.sti i j := (raise_events s d).sti_eq i j
theorem EventsOnly.capt_eq {d e : Device} (h : EventsOnly d e) (m : Nat) : e.capt m = d.capt m := by obtain ⟨_, _, _, _, _, _, _, rfl⟩ := h; rfl
@[simp] theorem Device.capt_raise (s : Nat) (m : Nat) (d : Device) : (d.raise s).capt m = d.capt m := (raise_events s d).capt_eq m

end Sys2Proof.Machine
end

