-- ==== Sys2Proof/Laws/Threads.lean ====
section
/-! SUPPORT. Threads: their registers after an update, and what the end of an instruction does to a thread that nothing waits for. -/

namespace Sys2Proof.Machine

/-! ### Registers of a thread -/

theorem key_ne_of_off {f g : Fld} (hf : f.lo < 64) (hg : g.lo < 64) (h : g.off ≠ f.off) : g.key ≠ f.key := by
  unfold Fld.key; omega

@[simp] theorem Thread.set_redirect (f : Fld) (v : Nat) (t : Thread) : (t.set f v).redirect = t.redirect := rfl
@[simp] theorem Thread.set_haltReq (f : Fld) (v : Nat) (t : Thread) : (t.set f v).haltReq = t.haltReq := rfl
@[simp] theorem Thread.set_micro (f : Fld) (v : Nat) (t : Thread) : (t.set f v).micro = t.micro := rfl
@[simp] theorem Thread.set_wait (f : Fld) (v : Nat) (t : Thread) : (t.set f v).wait = t.wait := rfl
@[simp] theorem Thread.set_held (f : Fld) (v : Nat) (t : Thread) : (t.set f v).held = t.held := rfl
@[simp] theorem Thread.set_traps (f : Fld) (v : Nat) (t : Thread) : (t.set f v).traps = t.traps := rfl
@[simp] theorem Thread.drop_get (f : Fld) (t : Thread) : t.drop.get f = t.get f := rfl
@[simp] theorem Thread.drop_redirect (t : Thread) : t.drop.redirect = t.redirect := rfl
@[simp] theorem Thread.drop_haltReq (t : Thread) : t.drop.haltReq = t.haltReq := rfl
@[simp] theorem Thread.drop_issued (t : Thread) : t.drop.issued = none := rfl

/-! ### General registers, loop counters, flags and PC -/

theorem key_g_ne {i j : Nat} (h : i ≠ j) : (SEQ_TG_VAL i).key ≠ (SEQ_TG_VAL j).key := by simp only [SEQ_TG_VAL, Fld.key]; omega
theorem key_l_ne {i j : Nat} (h : i ≠ j) : (SEQ_TL_CNT i).key ≠ (SEQ_TL_CNT j).key := by simp only [SEQ_TL_CNT, Fld.key]; omega
theorem key_stk_ne {i j : Nat} (h : i ≠ j) : (SEQ_TSTK_PC i).key ≠ (SEQ_TSTK_PC j).key := by simp only [SEQ_TSTK_PC, Fld.key]; omega

/-- A field of a thread that neither a general register, a loop counter, the flags nor the PC shares. -/
def Fld.besides (f : Fld) : Prop :=
  (∀ i, i < 16 → f.key ≠ (SEQ_TG_VAL i).key) ∧ (∀ i, i < 4 → f.key ≠ (SEQ_TL_CNT i).key) ∧ f.key ≠ SEQ_TFLAGS_FLAGS.key ∧ f.key ≠ SEQ_TPC_PC.key

theorem Thread.g_setG (t : Thread) (i j v : Nat) : (t.setG i v).g j = if j % 16 = i % 16 then v % 2 ^ 64 else t.g j := by
  unfold Thread.setG Thread.g
  split
  · rename_i h; rw [h]; exact Thread.get_set_same _ _ _
  · rename_i h; exact Thread.get_set_ne (key_g_ne h) _ _
@[simp] theorem Thread.g_setG_same (t : Thread) (i v : Nat) : (t.setG i v).g i = v % 2 ^ 64 := by simp [Thread.g_setG]
@[simp] theorem Thread.g_setL (t : Thread) (i j v : Nat) : (t.setL i v).g j = t.g j :=
  Thread.get_set_ne (by simp only [SEQ_TG_VAL, SEQ_TL_CNT, Fld.key]; omega) _ _
@[simp] theorem Thread.g_setFlags (t : Thread) (j v : Nat) : (t.setFlags v).g j = t.g j :=
  Thread.get_set_ne (by simp only [SEQ_TG_VAL, SEQ_TFLAGS_FLAGS, Fld.key]; omega) _ _
@[simp] theorem Thread.g_setFlag (t : Thread) (i j : Nat) (b : Bool) : (t.setFlag i b).g j = t.g j := Thread.g_setFlags _ _ _
@[simp] theorem Thread.g_setPc (t : Thread) (j v : Nat) : (t.setPc v).g j = t.g j :=
  Thread.get_set_ne (by simp only [SEQ_TG_VAL, SEQ_TPC_PC, Fld.key]; omega) _ _
@[simp] theorem Thread.g_setZN (t : Thread) (j v : Nat) : (t.setZN v).g j = t.g j := by simp [Thread.setZN]

theorem Thread.l_setL (t : Thread) (i j v : Nat) : (t.setL i v).l j = if j % 4 = i % 4 then v % 2 ^ 32 else t.l j := by
  unfold Thread.setL Thread.l
  split
  · rename_i h; rw [h]; exact Thread.get_set_same _ _ _
  · rename_i h; exact Thread.get_set_ne (key_l_ne h) _ _
@[simp] theorem Thread.l_setL_same (t : Thread) (i v : Nat) : (t.setL i v).l i = v % 2 ^ 32 := by simp [Thread.l_setL]
@[simp] theorem Thread.l_setG (t : Thread) (i j v : Nat) : (t.setG i v).l j = t.l j :=
  Thread.get_set_ne (by simp only [SEQ_TG_VAL, SEQ_TL_CNT, Fld.key]; omega) _ _
@[simp] theorem Thread.l_setFlags (t : Thread) (j v : Nat) : (t.setFlags v).l j = t.l j :=
  Thread.get_set_ne (by simp only [SEQ_TL_CNT, SEQ_TFLAGS_FLAGS, Fld.key]; omega) _ _
@[simp] theorem Thread.l_setFlag (t : Thread) (i j : Nat) (b : Bool) : (t.setFlag i b).l j = t.l j := Thread.l_setFlags _ _ _
@[simp] theorem Thread.l_setPc (t : Thread) (j v : Nat) : (t.setPc v).l j = t.l j :=
  Thread.get_set_ne (by simp only [SEQ_TL_CNT, SEQ_TPC_PC, Fld.key]; omega) _ _
@[simp] theorem Thread.l_setZN (t : Thread) (j v : Nat) : (t.setZN v).l j = t.l j := by simp [Thread.setZN]

@[simp] theorem Thread.pc_setPc (t : Thread) (v : Nat) : (t.setPc v).pc = v % 2 ^ 32 := Thread.get_set_same _ _ _
@[simp] theorem Thread.pc_setG (t : Thread) (i v : Nat) : (t.setG i v).pc = t.pc :=
  Thread.get_set_ne (by simp only [SEQ_TG_VAL, SEQ_TPC_PC, Fld.key]; omega) _ _
@[simp] theorem Thread.pc_setL (t : Thread) (i v : Nat) : (t.setL i v).pc = t.pc :=
  Thread.get_set_ne (by simp only [SEQ_TL_CNT, SEQ_TPC_PC, Fld.key]; omega) _ _
@[simp] theorem Thread.pc_setFlags (t : Thread) (v : Nat) : (t.setFlags v).pc = t.pc := Thread.get_set_ne (by decide) _ _
@[simp] theorem Thread.pc_setFlag (t : Thread) (i : Nat) (b : Bool) : (t.setFlag i b).pc = t.pc := Thread.pc_setFlags _ _
@[simp] theorem Thread.pc_setZN (t : Thread) (v : Nat) : (t.setZN v).pc = t.pc := by simp [Thread.setZN]

@[simp] theorem Thread.flags_setFlags (t : Thread) (v : Nat) : (t.setFlags v).flags = v % 2 ^ 6 := Thread.get_set_same _ _ _
@[simp] theorem Thread.flags_setG (t : Thread) (i v : Nat) : (t.setG i v).flags = t.flags :=
  Thread.get_set_ne (by simp only [SEQ_TG_VAL, SEQ_TFLAGS_FLAGS, Fld.key]; omega) _ _
@[simp] theorem Thread.flags_setL (t : Thread) (i v : Nat) : (t.setL i v).flags = t.flags :=
  Thread.get_set_ne (by simp only [SEQ_TL_CNT, SEQ_TFLAGS_FLAGS, Fld.key]; omega) _ _
@[simp] theorem Thread.flags_setPc (t : Thread) (v : Nat) : (t.setPc v).flags = t.flags := Thread.get_set_ne (by decide) _ _
@[simp] theorem Thread.flag_setG (t : Thread) (i v j : Nat) : (t.setG i v).flag j = t.flag j := by simp [Thread.flag]
@[simp] theorem Thread.flag_setL (t : Thread) (i v j : Nat) : (t.setL i v).flag j = t.flag j := by simp [Thread.flag]
@[simp] theorem Thread.flag_setPc (t : Thread) (v j : Nat) : (t.setPc v).flag j = t.flag j := by simp [Thread.flag]
theorem Thread.flag_setFlag (t : Thread) {i j : Nat} (hj : j < 6) (b : Bool) :
    (t.setFlag i b).flag j = if j = i then b else t.flag j := by
  unfold Thread.setFlag Thread.flag
  rw [Thread.flags_setFlags, bit_mod hj]
  split
  · rename_i h; rw [h, bit_setBit_same]
  · rename_i h; exact bit_setBit_ne h _ _
/-- Z and N of a result, and no other flag. -/
theorem Thread.flag_setZN (t : Thread) (v : Nat) {j : Nat} (hj : j < 6) :
    (t.setZN v).flag j = if j = 0 then (v % 2 ^ 64 == 0) else if j = 1 then bit v 63 else t.flag j := by
  unfold Thread.setZN
  rw [Thread.flag_setFlag _ hj, Thread.flag_setFlag _ hj]
  split
  · rename_i h; simp [h]
  · rfl

@[simp] theorem Thread.setG_redirect (t : Thread) (i v : Nat) : (t.setG i v).redirect = t.redirect := rfl
@[simp] theorem Thread.setL_redirect (t : Thread) (i v : Nat) : (t.setL i v).redirect = t.redirect := rfl
@[simp] theorem Thread.setPc_redirect (t : Thread) (v : Nat) : (t.setPc v).redirect = t.redirect := rfl
@[simp] theorem Thread.setFlags_redirect (t : Thread) (v : Nat) : (t.setFlags v).redirect = t.redirect := rfl
@[simp] theorem Thread.setFlag_redirect (t : Thread) (i : Nat) (b : Bool) : (t.setFlag i b).redirect = t.redirect := rfl
@[simp] theorem Thread.setZN_redirect (t : Thread) (v : Nat) : (t.setZN v).redirect = t.redirect := rfl
@[simp] theorem Thread.result_redirect (t : Thread) (i v : Nat) (x y : Bool) : (t.result i v x y).redirect = t.redirect := rfl
@[simp] theorem Thread.setG_haltReq (t : Thread) (i v : Nat) : (t.setG i v).haltReq = t.haltReq := rfl
@[simp] theorem Thread.setL_haltReq (t : Thread) (i v : Nat) : (t.setL i v).haltReq = t.haltReq := rfl
@[simp] theorem Thread.setPc_haltReq (t : Thread) (v : Nat) : (t.setPc v).haltReq = t.haltReq := rfl
@[simp] theorem Thread.setFlags_haltReq (t : Thread) (v : Nat) : (t.setFlags v).haltReq = t.haltReq := rfl
@[simp] theorem Thread.setFlag_haltReq (t : Thread) (i : Nat) (b : Bool) : (t.setFlag i b).haltReq = t.haltReq := rfl
@[simp] theorem Thread.setZN_haltReq (t : Thread) (v : Nat) : (t.setZN v).haltReq = t.haltReq := rfl
@[simp] theorem Thread.result_haltReq (t : Thread) (i v : Nat) (x y : Bool) : (t.result i v x y).haltReq = t.haltReq := rfl

/-- A result and its flags (R201). -/
@[simp] theorem Thread.g_result (t : Thread) (i v j : Nat) (x y : Bool) : (t.result i v x y).g j = if j % 16 = i % 16 then v % 2 ^ 64 else t.g j := by
  simp [Thread.result, Thread.g_setG]
@[simp] theorem Thread.l_result (t : Thread) (i v j : Nat) (x y : Bool) : (t.result i v x y).l j = t.l j := by simp [Thread.result]
@[simp] theorem Thread.pc_result (t : Thread) (i v : Nat) (x y : Bool) : (t.result i v x y).pc = t.pc := by simp [Thread.result]
theorem Thread.flag_result (t : Thread) (i v : Nat) (x y : Bool) {j : Nat} (hj : j < 6) :
    (t.result i v x y).flag j = if j = 3 then y else if j = 2 then x else if j = 1 then bit (v % 2 ^ 64) 63
      else if j = 0 then v % 2 ^ 64 == 0 else t.flag j := by
  unfold Thread.result
  rw [Thread.flag_setFlag _ hj, Thread.flag_setFlag _ hj, Thread.flag_setZN _ _ hj, Thread.flag_setG]
  split
  · rfl
  · split
    · rfl
    · split
      · rename_i h; simp [h]
      · split <;> rfl

/-- A field beside them keeps its value through each of these. -/
theorem Thread.get_setG {f : Fld} (h : f.besides) (i v : Nat) (t : Thread) : (t.setG i v).get f = t.get f := Thread.get_set_ne (h.1 _ (Nat.mod_lt _ (by decide))) _ _
theorem Thread.get_setL {f : Fld} (h : f.besides) (i v : Nat) (t : Thread) : (t.setL i v).get f = t.get f :=
  Thread.get_set_ne (h.2.1 _ (Nat.mod_lt _ (by decide))) _ _
theorem Thread.get_setFlags {f : Fld} (h : f.besides) (v : Nat) (t : Thread) : (t.setFlags v).get f = t.get f := Thread.get_set_ne h.2.2.1 _ _
theorem Thread.get_setFlag {f : Fld} (h : f.besides) (i : Nat) (b : Bool) (t : Thread) : (t.setFlag i b).get f = t.get f :=
  Thread.get_setFlags h _ _
theorem Thread.get_setPc {f : Fld} (h : f.besides) (v : Nat) (t : Thread) : (t.setPc v).get f = t.get f := Thread.get_set_ne h.2.2.2 _ _
theorem Thread.get_result {f : Fld} (h : f.besides) (i v : Nat) (x y : Bool) (t : Thread) : (t.result i v x y).get f = t.get f := by
  simp only [Thread.result, Thread.setZN, Thread.get_setFlag h, Thread.get_setG h]

/-! ### The end of an instruction -/

@[simp] theorem Thread.ended_redirect (q : Bool) (u : Thread) : (u.ended q).redirect = u.redirect := by
  unfold Thread.ended; dsimp only; split
  · split <;> rfl
  · rfl
@[simp] theorem Thread.ended_haltReq (q : Bool) (u : Thread) : (u.ended q).haltReq = u.haltReq := by
  unfold Thread.ended; dsimp only; split
  · split <;> rfl
  · rfl
/-- The end of an instruction leaves every register but STATE. -/
theorem Thread.ended_get {f : Fld} (h : f.key ≠ SEQ_TSTAT_STATE.key) (q : Bool) (u : Thread) : (u.ended q).get f = u.get f := by
  unfold Thread.ended; dsimp only; split
  · split
    · show (Thread.set SEQ_TSTAT_STATE 4 u.drop).get f = u.get f
      exact Thread.get_set_ne h _ _
    · exact Thread.get_set_ne h _ _
  · rfl
@[simp] theorem Thread.ended_g (q : Bool) (u : Thread) (i : Nat) : (u.ended q).g i = u.g i :=
  Thread.ended_get (by simp only [SEQ_TG_VAL, SEQ_TSTAT_STATE, Fld.key]; omega) q u
@[simp] theorem Thread.ended_l (q : Bool) (u : Thread) (i : Nat) : (u.ended q).l i = u.l i :=
  Thread.ended_get (by simp only [SEQ_TL_CNT, SEQ_TSTAT_STATE, Fld.key]; omega) q u
@[simp] theorem Thread.ended_pc (q : Bool) (u : Thread) : (u.ended q).pc = u.pc := Thread.ended_get (by decide) q u
@[simp] theorem Thread.ended_flags (q : Bool) (u : Thread) : (u.ended q).flags = u.flags := Thread.ended_get (by decide) q u
@[simp] theorem Thread.ended_flag (q : Bool) (u : Thread) (i : Nat) : (u.ended q).flag i = u.flag i := by simp [Thread.flag]
/-- A thread that ran is READY once its instruction has ended. -/
theorem Thread.ended_state {u : Thread} (h : u.state = 1 ∨ u.state = 2) : (u.ended false).state = 1 := by
  unfold Thread.ended; dsimp only
  have e : u.drop.state = u.state := rfl
  rcases h with h | h
  · simp [e, h]
  · simp only [e, h, beq_self_eq_true, if_true, Bool.false_eq_true, if_false]
    exact Thread.get_set_same _ _ _

/-- The end of an instruction when no redirect, host request or quiesce waits for it: only the thread changes. -/
theorem Device.retire_calm {k c : Nat} (hk : k < 16) (hc : c < 64) (f : Thread → Thread) (d : Device)
    (hr : (f (d.thread k c)).redirect = none) (hh : (f (d.thread k c)).haltReq = none)
    (hq : (d.clus k).on SEQ_CTL_QUIESCE = false) :
    d.retire k c f = d.modThr k c fun t => (f t).ended false := by
  have hd : (d.modThr k c fun t => (f t).ended false).redirectThread k c = d.modThr k c fun t => (f t).ended false := by
    unfold Device.redirectThread
    simp [Device.thread_modThr_same hk hc, hr]
  unfold Device.retire
  simp only [hq]
  rw [hd]
  simp [Device.thread_modThr_same hk hc, hh]

end Sys2Proof.Machine
end

