-- ==== Sys2Proof/Laws/Isa.lean ====
section
/-! SUPPORT. What an instruction that changes only its thread does to the machine. -/

namespace Sys2Proof.Machine

/-- A change of one thread leaves everything else. -/
theorem onlyThread_modThr (k c : Nat) (f : Thread → Thread) (d o : Device) : OnlyThread k c d (o.watch (d.modThr k c f)) where
  mem := by simp
  time := by simp
  device := by simp
  chips := by simp
  groups := by simp
  chans := by simp
  clusters := by simp
  intervals := by simp
  captures := by
    intro n
    by_cases h : n < 1024
    · obtain ⟨x, hx⟩ := Device.capt_watch o (d.modThr k c f) h
      simp [hx]
    · have : ¬ n / 64 < 16 := by omega
      simp only [Device.capt, Device.clus, Tab.getD_past _ this]
  threads := by
    intro j i h
    simp [Device.thread_modThr_ne h]

/-- An instruction that ends at once changes its thread as `f` says, and nothing else. -/
theorem run_retire {s : State} {k c : Nat} (h : Turn s k c) (f : Thread → Thread)
    (hr : (f (s.dev.thread k c)).redirect = (s.dev.thread k c).redirect) (hh : (f (s.dev.thread k c)).haltReq = (s.dev.thread k c).haltReq)
    (g : Device → Device) (hg : g s.dev = s.dev.retire k c f) :
    ∃ t, s.run g = .next t ∧ t.pending = s.pending ∧ OnlyThread k c s.dev t.dev ∧
      t.dev.thread k c = (f (s.dev.thread k c)).ended false := by
  obtain ⟨h1, h2, h3, h4, h5, h6, h7⟩ := h
  have e := Device.retire_calm h2 h3 f s.dev (hr.trans h5) (hh.trans h6) h7
  refine ⟨s.apply g, State.run_on h1 g, rfl, ?_, ?_⟩
  · simp only [State.apply_dev, hg, e]; exact onlyThread_modThr k c _ _ _
  · simp only [State.apply_dev, hg, e, Device.thread_watch, Device.thread_modThr_same h2 h3]

theorem Turn.state {s : State} {k c : Nat} (h : Turn s k c) : (s.dev.thread k c).state = 1 ∨ (s.dev.thread k c).state = 2 := by
  have := h.runs
  simp only [Thread.runnable, Bool.and_eq_true, Bool.or_eq_true, beq_iff_eq] at this
  exact this.1

theorem besides_rest {f : Fld} (h : f ∈ threadRest) : f.besides ∧ f.key ≠ SEQ_TSTAT_STATE.key := by
  simp only [threadRest, List.mem_append, List.mem_cons, List.mem_map, List.mem_range, List.not_mem_nil, or_false] at h
  unfold Fld.besides
  rcases h with h | ⟨i, hi, rfl⟩
  · rcases h with h | h | h | h | h | h | h | h | h <;> subst h <;>
      refine ⟨⟨fun i hi => ?_, fun i hi => ?_, ?_, ?_⟩, ?_⟩ <;>
      simp only [SEQ_TSTAT_UCODE, SEQ_TSTAT_CAUSE, SEQ_TSTAT_WREJ, SEQ_TSTAT_OVR, SEQ_TLATE_TICKS, SEQ_TSP_DEPTH, SEQ_TCFG_PRIV,
        SEQ_TOVCNT_CNT, SEQ_TWSTAMP_DT, SEQ_TG_VAL, SEQ_TL_CNT, SEQ_TFLAGS_FLAGS, SEQ_TPC_PC, SEQ_TSTAT_STATE, Fld.key] <;> omega
  · refine ⟨⟨fun i hi => ?_, fun i hi => ?_, ?_, ?_⟩, ?_⟩ <;>
      simp only [SEQ_TSTK_PC, SEQ_TG_VAL, SEQ_TL_CNT, SEQ_TFLAGS_FLAGS, SEQ_TPC_PC, SEQ_TSTAT_STATE, Fld.key] <;> omega

theorem Thread.state_get (t : Thread) : t.state = t.get SEQ_TSTAT_STATE := rfl
theorem besides_state : SEQ_TSTAT_STATE.besides := by
  refine ⟨fun i hi => ?_, fun i hi => ?_, ?_, ?_⟩ <;>
    simp only [SEQ_TSTAT_STATE, SEQ_TG_VAL, SEQ_TL_CNT, SEQ_TFLAGS_FLAGS, SEQ_TPC_PC, Fld.key] <;> omega
@[simp] theorem Thread.state_setG (i v : Nat) (t : Thread) : (t.setG i v).state = t.state := Thread.get_setG besides_state _ _ _
@[simp] theorem Thread.state_setL (i v : Nat) (t : Thread) : (t.setL i v).state = t.state := Thread.get_setL besides_state _ _ _
@[simp] theorem Thread.state_setFlags (v : Nat) (t : Thread) : (t.setFlags v).state = t.state := Thread.get_setFlags besides_state _ _
@[simp] theorem Thread.state_setFlag (i : Nat) (b : Bool) (t : Thread) : (t.setFlag i b).state = t.state := Thread.get_setFlag besides_state _ _ _
@[simp] theorem Thread.state_setPc (v : Nat) (t : Thread) : (t.setPc v).state = t.state := Thread.get_setPc besides_state _ _
@[simp] theorem Thread.state_setZN (v : Nat) (t : Thread) : (t.setZN v).state = t.state := by simp [Thread.setZN]
@[simp] theorem Thread.state_result (i v : Nat) (x y : Bool) (t : Thread) : (t.result i v x y).state = t.state := Thread.get_result besides_state _ _ _ _ _

theorem bit63 {v : Nat} (h : v < 2 ^ 64) : bit v 63 = decide (2 ^ 63 ≤ v) := by
  unfold bit
  by_cases hv : 2 ^ 63 ≤ v
  · rw [show v / 2 ^ 63 = 1 by omega, decide_eq_true hv]; rfl
  · rw [show v / 2 ^ 63 = 0 by omega, decide_eq_false hv]; rfl

/-- The end of an instruction leaves the registers of `threadRest`. -/
theorem ended_rest (u : Thread) : ∀ f ∈ threadRest, (u.ended false).get f = u.get f :=
  fun _ hf => Thread.ended_get (besides_rest hf).2 _ _

/-- A thread that went on with a new PC only. -/
theorem moved_setPc {t : Thread} (h : t.state = 1 ∨ t.state = 2) (pc : Nat) : Moved t ((t.setPc pc).ended false) pc where
  pc := by simp
  ready := Thread.ended_state (by simpa using h)
  general := by simp
  loops := by simp
  flags := by simp
  rest f hf := by rw [ended_rest _ f hf, Thread.get_setPc (besides_rest hf).1]

/-- A thread that loaded a general register. -/
theorem loaded_setG {t : Thread} (h : t.state = 1 ∨ t.state = 2) {dst : Nat} (hd : dst < 16) (v : Nat) :
    Loaded t (((t.setG dst v).setPc (t.pc + 1)).ended false) dst (v % 2 ^ 64) where
  value := by simp
  pc := by simp
  ready := Thread.ended_state (by simpa using h)
  others i hi hn := by
    simp only [Thread.ended_g, Thread.g_setPc, Thread.g_setG]
    rw [if_neg (by rw [Nat.mod_eq_of_lt hi, Nat.mod_eq_of_lt hd]; exact hn)]
  loops := by simp
  flags := by simp
  rest f hf := by rw [ended_rest _ f hf, Thread.get_setPc (besides_rest hf).1, Thread.get_setG (besides_rest hf).1]

/-- A thread that set a loop counter. -/
theorem counted_setL {t : Thread} (h : t.state = 1 ∨ t.state = 2) {x : Nat} (hx : x < 4) (v pc : Nat) :
    Counted t (((t.setL x v).setPc pc).ended false) x (v % 2 ^ 32) pc where
  value := by simp
  pc := by simp
  ready := Thread.ended_state (by simpa using h)
  others i hi hn := by
    simp only [Thread.ended_l, Thread.l_setPc, Thread.l_setL]
    rw [if_neg (by rw [Nat.mod_eq_of_lt hi, Nat.mod_eq_of_lt hx]; exact hn)]
  general := by simp
  flags := by simp
  rest f hf := by rw [ended_rest _ f hf, Thread.get_setPc (besides_rest hf).1, Thread.get_setL (besides_rest hf).1]

/-- A thread that set its flags. -/
theorem flagged_setFlags {t : Thread} (h : t.state = 1 ∨ t.state = 2) (v : Nat) :
    Flagged t (((t.setFlags v).setPc (t.pc + 1)).ended false) (v % 64) where
  value := by simp
  pc := by simp
  ready := Thread.ended_state (by simpa using h)
  general := by simp
  loops := by simp
  rest f hf := by rw [ended_rest _ f hf, Thread.get_setPc (besides_rest hf).1, Thread.get_setFlags (besides_rest hf).1]

/-- A thread that received a result with all four arithmetic flags. -/
theorem wrote_result {t : Thread} (h : t.state = 1 ∨ t.state = 2) {dst : Nat} (hd : dst < 16) (v : Nat) (cy ov : Bool) :
    Wrote t (((t.result dst v cy ov).setPc (t.pc + 1)).ended false) dst (v % 2 ^ 64) cy ov where
  value := by simp
  zero := by
    simp only [Thread.ended_flag, Thread.flag_setPc, Thread.flag_result _ _ _ _ _ (show 0 < 6 by decide)]
    exact Bool.beq_eq_decide_eq _ _
  negative := by
    simp only [Thread.ended_flag, Thread.flag_setPc, Thread.flag_result _ _ _ _ _ (show 1 < 6 by decide)]
    exact bit63 (Nat.mod_lt v (show 2 ^ 64 > 0 by decide))
  carry := by simp only [Thread.ended_flag, Thread.flag_setPc, Thread.flag_result _ _ _ _ _ (show 2 < 6 by decide)]; simp
  overflow := by simp only [Thread.ended_flag, Thread.flag_setPc, Thread.flag_result _ _ _ _ _ (show 3 < 6 by decide)]; simp
  others i hi hn := by
    simp only [Thread.ended_g, Thread.g_setPc, Thread.g_result]
    rw [if_neg (by rw [Nat.mod_eq_of_lt hi, Nat.mod_eq_of_lt hd]; exact hn)]
  loops := by simp
  waitFlags := by
    constructor <;> simp only [Thread.ended_flag, Thread.flag_setPc]
    · rw [Thread.flag_result _ _ _ _ _ (by decide)]; simp
    · rw [Thread.flag_result _ _ _ _ _ (by decide)]; simp
  pc := by simp
  ready := Thread.ended_state (by simpa using h)
  rest f hf := by rw [ended_rest _ f hf, Thread.get_setPc (besides_rest hf).1, Thread.get_result (besides_rest hf).1]

/-- A thread that received a result with its Z and N only. -/
theorem wrote_setZN {t : Thread} (h : t.state = 1 ∨ t.state = 2) {dst : Nat} (hd : dst < 16) {v : Nat} (hv : v < 2 ^ 64) :
    Wrote t ((((t.setG dst v).setZN v).setPc (t.pc + 1)).ended false) dst v (t.flag 2) (t.flag 3) where
  value := by rw [Thread.ended_g, Thread.g_setPc, Thread.g_setZN, Thread.g_setG_same, Nat.mod_eq_of_lt hv]
  zero := by
    simp only [Thread.ended_flag, Thread.flag_setPc, Thread.flag_setZN _ _ (show 0 < 6 by decide), Nat.mod_eq_of_lt hv]
    exact Bool.beq_eq_decide_eq _ _
  negative := by simp only [Thread.ended_flag, Thread.flag_setPc, Thread.flag_setZN _ _ (show 1 < 6 by decide)]; simp [bit63 hv]
  carry := by simp only [Thread.ended_flag, Thread.flag_setPc, Thread.flag_setZN _ _ (show 2 < 6 by decide)]; simp
  overflow := by simp only [Thread.ended_flag, Thread.flag_setPc, Thread.flag_setZN _ _ (show 3 < 6 by decide)]; simp
  others i hi hn := by
    simp only [Thread.ended_g, Thread.g_setPc, Thread.g_setZN, Thread.g_setG]
    rw [if_neg (by rw [Nat.mod_eq_of_lt hi, Nat.mod_eq_of_lt hd]; exact hn)]
  loops := by simp
  waitFlags := by
    constructor <;> simp only [Thread.ended_flag, Thread.flag_setPc]
    · rw [Thread.flag_setZN _ _ (by decide)]; simp
    · rw [Thread.flag_setZN _ _ (by decide)]; simp
  pc := by simp
  ready := Thread.ended_state (by simpa using h)
  rest f hf := by
    rw [ended_rest _ f hf, Thread.get_setPc (besides_rest hf).1]
    simp only [Thread.setZN, Thread.get_setFlag (besides_rest hf).1, Thread.get_setG (besides_rest hf).1]

end Sys2Proof.Machine
end

