-- ==== Sys2Proof/Laws/Mem.lean ====
section
/-! SUPPORT. Memory cells: a byte after a write, and the canonical form, which every memory operation keeps. -/

namespace Sys2Proof.Machine

theorem memGet_filter_same (a : Nat) (m : List Host.Cell) :
    memGet a (m.filter fun c => decide (c.1 ≠ a)) = memDefault := by
  induction m with
  | nil => rfl
  | cons c t ih =>
    by_cases h : c.1 = a
    · simpa [h] using ih
    · simpa [h, memGet] using ih

theorem memGet_filter_ne {a x : Nat} (h : x ≠ a) (m : List Host.Cell) :
    memGet x (m.filter fun c => decide (c.1 ≠ a)) = memGet x m := by
  induction m with
  | nil => rfl
  | cons c t ih =>
    by_cases hc : c.1 = a
    · have : ¬ c.1 = x := by omega
      simpa [hc, memGet, h.symm, this] using ih
    · by_cases hx : c.1 = x
      · simp [memGet, hx, h]
      · simpa [hc, memGet, hx] using ih

theorem memGet_cellPut_same (a : Nat) (b : BitVec 8) (m : List Host.Cell) (h : ∀ c ∈ m, c.1 ≠ a) :
    memGet a (cellPut a b m) = b := by
  induction m with
  | nil => simp [cellPut, memGet]
  | cons c t ih =>
    have hc := h c (by simp)
    unfold cellPut
    split
    · simp [memGet]
    · simp only [memGet, hc, if_false]
      exact ih fun x hx => h x (by simp [hx])

theorem memGet_cellPut_ne {a x : Nat} (h : x ≠ a) (b : BitVec 8) (m : List Host.Cell) :
    memGet x (cellPut a b m) = memGet x m := by
  induction m with
  | nil => simp [cellPut, memGet, h.symm]
  | cons c t ih =>
    unfold cellPut
    split
    · simp [memGet, h.symm]
    · simp [memGet, ih]

/-- A byte reads what was written. -/
@[simp] theorem memGet_memPut_same (a : Nat) (b : BitVec 8) (m : List Host.Cell) : memGet a (memPut a b m) = b := by
  simp only [memPut]
  split
  · rename_i h; rw [memGet_filter_same, h]
  · exact memGet_cellPut_same a b _ fun c hc => by simpa using (List.mem_filter.mp hc).2

/-- A write leaves every other byte. -/
theorem memGet_memPut_ne {a x : Nat} (h : x ≠ a) (b : BitVec 8) (m : List Host.Cell) : memGet x (memPut a b m) = memGet x m := by
  simp only [memPut]
  split
  · exact memGet_filter_ne h m
  · rw [memGet_cellPut_ne h, memGet_filter_ne h]

/-- A write of `n` bytes leaves every byte outside them. -/
theorem memGet_memWrite_ne (n : Nat) : ∀ (a v x : Nat) (m : List Host.Cell), x < a ∨ a + n ≤ x →
    memGet x (memWrite a v n m) = memGet x m := by
  induction n with
  | zero => intros; rfl
  | succ n ih =>
    intro a v x m h
    simp only [memWrite]
    rw [ih _ _ _ _ (by omega), memGet_memPut_ne (by omega)]

theorem memRead_congr {m m' : List Host.Cell} (n : Nat) : ∀ a, (∀ x, a ≤ x → x < a + n → memGet x m = memGet x m') → memRead m a n = memRead m' a n := by
  induction n with
  | zero => intros; rfl
  | succ n ih =>
    intro a h
    simp only [memRead]
    rw [h a (Nat.le_refl _) (by omega), ih (a + 1) fun x h1 h2 => h x (by omega) (by omega)]

/-- `n` bytes read what was written there. -/
theorem memRead_memWrite_same (n : Nat) : ∀ (a v : Nat) (m : List Host.Cell), memRead (memWrite a v n m) a n = v % 2 ^ (8 * n) := by
  induction n with
  | zero => intro a v m; simp [memRead, Nat.mod_one]
  | succ n ih =>
    intro a v m
    simp only [memRead, memWrite]
    rw [memGet_memWrite_ne n (a + 1) _ a _ (by omega), memGet_memPut_same, ih]
    have h : 2 ^ (8 * (n + 1)) = 256 * 2 ^ (8 * n) := by rw [Nat.mul_add, pow_add]; ring
    rw [h, Nat.mod_mul, BitVec.toNat_ofNat]

/-- The canonical form, as a statement about the whole list. -/
theorem Memory.wf_iff (m : List Host.Cell) :
    Memory.wf m = true ↔ (∀ c ∈ m, c.2 ≠ memDefault) ∧ m.Pairwise fun c d => c.1 < d.1 := by
  induction m with
  | nil => simp [Memory.wf]
  | cons c t ih =>
    cases t with
    | nil => simp [Memory.wf]
    | cons d t =>
      simp only [Memory.wf, Bool.and_eq_true, decide_eq_true_eq, ih, List.pairwise_cons, List.mem_cons]
      constructor
      · rintro ⟨⟨h1, h2⟩, h3, h4, h5⟩
        refine ⟨?_, ?_, h4, h5⟩
        · rintro x (rfl | hx)
          · exact h1
          · exact h3 x hx
        · rintro x (rfl | hx)
          · exact h2
          · exact Nat.lt_trans h2 (h4 x hx)
      · rintro ⟨h1, h2, h4, h5⟩
        exact ⟨⟨h1 c (.inl rfl), h2 d (.inl rfl)⟩, fun x hx => h1 x (.inr hx), h4, h5⟩

theorem Memory.wf_filter (p : Host.Cell → Bool) {m : List Host.Cell} (h : Memory.wf m = true) : Memory.wf (m.filter p) = true := by
  rw [Memory.wf_iff] at h ⊢
  exact ⟨fun c hc => h.1 c (List.mem_filter.mp hc).1, h.2.filter p⟩

theorem mem_cellPut {a : Nat} {b : BitVec 8} {m : List Host.Cell} {c : Host.Cell} (h : c ∈ cellPut a b m) : c = (a, b) ∨ c ∈ m := by
  induction m with
  | nil => simpa [cellPut] using h
  | cons d t ih =>
    unfold cellPut at h
    split at h
    · simpa using h
    · rcases List.mem_cons.mp h with rfl | h
      · simp
      · rcases ih h with h | h <;> simp [h]

theorem pairwise_cellPut {a : Nat} {b : BitVec 8} {m : List Host.Cell} (h : m.Pairwise fun c d => c.1 < d.1)
    (hn : ∀ c ∈ m, c.1 ≠ a) : (cellPut a b m).Pairwise fun c d => c.1 < d.1 := by
  induction m with
  | nil => simp [cellPut]
  | cons c t ih =>
    have ⟨h1, h2⟩ := List.pairwise_cons.mp h
    have hc := hn c (by simp)
    unfold cellPut
    split
    · rename_i hlt
      refine List.pairwise_cons.mpr ⟨fun x hx => ?_, h⟩
      rcases List.mem_cons.mp hx with rfl | hx
      · exact hlt
      · exact Nat.lt_trans hlt (h1 x hx)
    · rename_i hlt
      refine List.pairwise_cons.mpr ⟨fun x hx => ?_, ih h2 fun x hx => hn x (by simp [hx])⟩
      rcases mem_cellPut hx with rfl | hx
      · show c.1 < a; omega
      · exact h1 x hx

/-- Writing a byte keeps the canonical form. -/
theorem Memory.wf_memPut (a : Nat) (b : BitVec 8) {m : List Host.Cell} (h : Memory.wf m = true) : Memory.wf (memPut a b m) = true := by
  have hf := Memory.wf_filter (fun c => decide (c.1 ≠ a)) h
  simp only [memPut]
  split
  · exact hf
  · rename_i hb
    rw [Memory.wf_iff] at hf ⊢
    refine ⟨fun c hc => ?_, pairwise_cellPut hf.2 fun c hc => by simpa using (List.mem_filter.mp hc).2⟩
    rcases mem_cellPut hc with rfl | hc
    · exact hb
    · exact hf.1 c hc

/-- Writing bytes keeps the canonical form. -/
theorem Memory.wf_memWrite (n : Nat) : ∀ (a v : Nat) {m : List Host.Cell}, Memory.wf m = true → Memory.wf (memWrite a v n m) = true := by
  induction n with
  | zero => intro a v m h; exact h
  | succ n ih => intro a v m h; exact ih _ _ (Memory.wf_memPut a _ h)

end Sys2Proof.Machine
end

