-- ==== Sys2Proof/Laws/PerInstr.lean ====
section
/-! SUPPORT. The family Coded, command by command: the commands that have a program word are the channel instructions (R182, R186). -/

namespace Sys2Proof.Laws.Coded

/-- The encoder gives a word to exactly the commands that name a thread. -/
def Statement (i : Instr) : Prop := (encode i).isSome = i.thread.isSome

end Sys2Proof.Laws.Coded

theorem Sys2Proof.Laws.Coded.regWrite (m : Nat) (addr : Nat) (v : Nat) : Sys2Proof.Laws.Coded.Statement (.regWrite m addr v) := rfl
theorem Sys2Proof.Laws.Coded.regPairLowRead (m : Nat) (addr : Nat) : Sys2Proof.Laws.Coded.Statement (.regPairLowRead m addr) := rfl
theorem Sys2Proof.Laws.Coded.regPairLowWrite (m : Nat) (addr : Nat) (v : Nat) : Sys2Proof.Laws.Coded.Statement (.regPairLowWrite m addr v) := rfl
theorem Sys2Proof.Laws.Coded.regPairHighWrite (m : Nat) (addr : Nat) (v : Nat) : Sys2Proof.Laws.Coded.Statement (.regPairHighWrite m addr v) := rfl
theorem Sys2Proof.Laws.Coded.regRcRead (m : Nat) (addr : Nat) : Sys2Proof.Laws.Coded.Statement (.regRcRead m addr) := rfl
theorem Sys2Proof.Laws.Coded.lockSet (m : Nat) : Sys2Proof.Laws.Coded.Statement (.lockSet m) := rfl
theorem Sys2Proof.Laws.Coded.powerOn (fell : Bool) : Sys2Proof.Laws.Coded.Statement (.powerOn fell) := rfl
theorem Sys2Proof.Laws.Coded.resetN (inRange : Bool) : Sys2Proof.Laws.Coded.Statement (.resetN inRange) := rfl
theorem Sys2Proof.Laws.Coded.powerFail (high : Bool) : Sys2Proof.Laws.Coded.Statement (.powerFail high) := rfl
theorem Sys2Proof.Laws.Coded.powerfailLanesOff : Sys2Proof.Laws.Coded.Statement (.powerfailLanesOff) := rfl
theorem Sys2Proof.Laws.Coded.powerOnAfterOvervoltage : Sys2Proof.Laws.Coded.Statement (.powerOnAfterOvervoltage) := rfl
theorem Sys2Proof.Laws.Coded.supplyMeasure (vmain : Nat) (vpilot : Nat) : Sys2Proof.Laws.Coded.Statement (.supplyMeasure vmain vpilot) := rfl
theorem Sys2Proof.Laws.Coded.junctionSample (temps : List Int) : Sys2Proof.Laws.Coded.Statement (.junctionSample temps) := rfl
theorem Sys2Proof.Laws.Coded.cmRange (n : Nat) (isI : Bool) : Sys2Proof.Laws.Coded.Statement (.cmRange n isI) := rfl
theorem Sys2Proof.Laws.Coded.bootReady (idBad : Bool) (calBad : Bool) (bad : List Nat) : Sys2Proof.Laws.Coded.Statement (.bootReady idBad calBad bad) := rfl
theorem Sys2Proof.Laws.Coded.refLoss : Sys2Proof.Laws.Coded.Statement (.refLoss) := rfl
theorem Sys2Proof.Laws.Coded.refQualify (src : Nat) (f100 : Bool) (ofs : Int) (amp : Int) : Sys2Proof.Laws.Coded.Statement (.refQualify src f100 ofs amp) := rfl
theorem Sys2Proof.Laws.Coded.tbLock : Sys2Proof.Laws.Coded.Statement (.tbLock) := rfl
theorem Sys2Proof.Laws.Coded.tbFreerun : Sys2Proof.Laws.Coded.Statement (.tbFreerun) := rfl
theorem Sys2Proof.Laws.Coded.tbDtset (m : Nat) (v : Nat) : Sys2Proof.Laws.Coded.Statement (.tbDtset m v) := rfl
theorem Sys2Proof.Laws.Coded.islandUnlock (i : Nat) : Sys2Proof.Laws.Coded.Statement (.islandUnlock i) := rfl
theorem Sys2Proof.Laws.Coded.islandRelock (i : Nat) : Sys2Proof.Laws.Coded.Statement (.islandRelock i) := rfl
theorem Sys2Proof.Laws.Coded.paceWindow (k : Nat) : Sys2Proof.Laws.Coded.Statement (.paceWindow k) := rfl
theorem Sys2Proof.Laws.Coded.roleDecide (clk : Bool) (term : Bool) : Sys2Proof.Laws.Coded.Statement (.roleDecide clk term) := rfl
theorem Sys2Proof.Laws.Coded.roleReqWrite (m : Nat) (v : Nat) : Sys2Proof.Laws.Coded.Statement (.roleReqWrite m v) := rfl
theorem Sys2Proof.Laws.Coded.roleReqSave : Sys2Proof.Laws.Coded.Statement (.roleReqSave) := rfl
theorem Sys2Proof.Laws.Coded.beaconCycle : Sys2Proof.Laws.Coded.Statement (.beaconCycle) := rfl
theorem Sys2Proof.Laws.Coded.beaconIdle : Sys2Proof.Laws.Coded.Statement (.beaconIdle) := rfl
theorem Sys2Proof.Laws.Coded.beaconFrameBad : Sys2Proof.Laws.Coded.Statement (.beaconFrameBad) := rfl
theorem Sys2Proof.Laws.Coded.beaconEnum (p : Nat) : Sys2Proof.Laws.Coded.Statement (.beaconEnum p) := rfl
theorem Sys2Proof.Laws.Coded.beaconDreq (dest : Nat) (t2 : Nat) : Sys2Proof.Laws.Coded.Statement (.beaconDreq dest t2) := rfl
theorem Sys2Proof.Laws.Coded.beaconOffset (dest : Nat) (dp : Nat) : Sys2Proof.Laws.Coded.Statement (.beaconOffset dest dp) := rfl
theorem Sys2Proof.Laws.Coded.beaconEpoch (execAt : Nat) (arr : Nat) (set_ : Bool) (force : Bool) : Sys2Proof.Laws.Coded.Statement (.beaconEpoch execAt arr set_ force) := rfl
theorem Sys2Proof.Laws.Coded.beaconTrig (num : Nat) (origin : Nat) (execAt : Nat) : Sys2Proof.Laws.Coded.Statement (.beaconTrig num origin execAt) := rfl
theorem Sys2Proof.Laws.Coded.beaconSync (num : Nat) (origin : Nat) (execAt : Nat) : Sys2Proof.Laws.Coded.Statement (.beaconSync num origin execAt) := rfl
theorem Sys2Proof.Laws.Coded.beaconEstop (num : Nat) (origin : Nat) (execAt : Nat) : Sys2Proof.Laws.Coded.Statement (.beaconEstop num origin execAt) := rfl
theorem Sys2Proof.Laws.Coded.beaconEnumAck : Sys2Proof.Laws.Coded.Statement (.beaconEnumAck) := rfl
theorem Sys2Proof.Laws.Coded.beaconDrsp (t4 : Nat) (turn : Nat) : Sys2Proof.Laws.Coded.Statement (.beaconDrsp t4 turn) := rfl
theorem Sys2Proof.Laws.Coded.beaconTrigReq (num : Nat) (origin : Nat) : Sys2Proof.Laws.Coded.Statement (.beaconTrigReq num origin) := rfl
theorem Sys2Proof.Laws.Coded.beaconSyncReq (num : Nat) (origin : Nat) : Sys2Proof.Laws.Coded.Statement (.beaconSyncReq num origin) := rfl
theorem Sys2Proof.Laws.Coded.beaconEstopUp (origin : Nat) : Sys2Proof.Laws.Coded.Statement (.beaconEstopUp origin) := rfl
theorem Sys2Proof.Laws.Coded.beaconUpstreamSend (which : Nat) : Sys2Proof.Laws.Coded.Statement (.beaconUpstreamSend which) := rfl
theorem Sys2Proof.Laws.Coded.beaconTrigExec : Sys2Proof.Laws.Coded.Statement (.beaconTrigExec) := rfl
theorem Sys2Proof.Laws.Coded.beaconSyncExec : Sys2Proof.Laws.Coded.Statement (.beaconSyncExec) := rfl
theorem Sys2Proof.Laws.Coded.beaconEstopExec : Sys2Proof.Laws.Coded.Statement (.beaconEstopExec) := rfl
theorem Sys2Proof.Laws.Coded.enumTimeout : Sys2Proof.Laws.Coded.Statement (.enumTimeout) := rfl
theorem Sys2Proof.Laws.Coded.bcnEnum (m : Nat) : Sys2Proof.Laws.Coded.Statement (.bcnEnum m) := rfl
theorem Sys2Proof.Laws.Coded.bcnRecal (m : Nat) : Sys2Proof.Laws.Coded.Statement (.bcnRecal m) := rfl
theorem Sys2Proof.Laws.Coded.bcnSetEpoch (m : Nat) : Sys2Proof.Laws.Coded.Statement (.bcnSetEpoch m) := rfl
theorem Sys2Proof.Laws.Coded.bcnSend (m : Nat) (sync : Bool) (num : Nat) : Sys2Proof.Laws.Coded.Statement (.bcnSend m sync num) := rfl
theorem Sys2Proof.Laws.Coded.epochTimer : Sys2Proof.Laws.Coded.Statement (.epochTimer) := rfl
theorem Sys2Proof.Laws.Coded.beaconMsgLoss : Sys2Proof.Laws.Coded.Statement (.beaconMsgLoss) := rfl
theorem Sys2Proof.Laws.Coded.beaconClkLoss : Sys2Proof.Laws.Coded.Statement (.beaconClkLoss) := rfl
theorem Sys2Proof.Laws.Coded.fefTimingSend (l : Nat) : Sys2Proof.Laws.Coded.Statement (.fefTimingSend l) := rfl
theorem Sys2Proof.Laws.Coded.fefTimingFrame (l : Nat) (t1 : Nat) (t2 : Nat) (t3 : Nat) (t4 : Nat) (crcOk : Bool) (unc : Bool) : Sys2Proof.Laws.Coded.Statement (.fefTimingFrame l t1 t2 t3 t4 crcOk unc) := rfl
theorem Sys2Proof.Laws.Coded.ptpEventMessage (tai : Nat) (unc : Nat) (changed : Bool) : Sys2Proof.Laws.Coded.Statement (.ptpEventMessage tai unc changed) := rfl
theorem Sys2Proof.Laws.Coded.halfRampStart (a : Nat) : Sys2Proof.Laws.Coded.Statement (.halfRampStart a) := rfl
theorem Sys2Proof.Laws.Coded.halfRampEnd (a : Nat) (stamps : List Nat) (clips : List (Nat × Bool × Bool)) : Sys2Proof.Laws.Coded.Statement (.halfRampEnd a stamps clips) := rfl
theorem Sys2Proof.Laws.Coded.conversion (n : Nat) (isI : Bool) (falling : Bool) (merged : Bool) (stamp : Nat) (stamps : List Nat) : Sys2Proof.Laws.Coded.Statement (.conversion n isI falling merged stamp stamps) := rfl
theorem Sys2Proof.Laws.Coded.taperGridWrite (m : Nat) (a : Nat) (phase : Bool) (v : Nat) : Sys2Proof.Laws.Coded.Statement (.taperGridWrite m a phase v) := rfl
theorem Sys2Proof.Laws.Coded.taperRetime (a : Nat) : Sys2Proof.Laws.Coded.Statement (.taperRetime a) := rfl
theorem Sys2Proof.Laws.Coded.taperEnSet (m : Nat) (a : Nat) : Sys2Proof.Laws.Coded.Statement (.taperEnSet m a) := rfl
theorem Sys2Proof.Laws.Coded.taperEnClear (m : Nat) (a : Nat) : Sys2Proof.Laws.Coded.Statement (.taperEnClear m a) := rfl
theorem Sys2Proof.Laws.Coded.taperStop (a : Nat) : Sys2Proof.Laws.Coded.Statement (.taperStop a) := rfl
theorem Sys2Proof.Laws.Coded.calRound (a : Nat) : Sys2Proof.Laws.Coded.Statement (.calRound a) := rfl
theorem Sys2Proof.Laws.Coded.calCoefLoad (a : Nat) (ar : Int) (af : Int) (b : Int) (ar2 : Int) (af2 : Int) (b2 : Int) : Sys2Proof.Laws.Coded.Statement (.calCoefLoad a ar af b ar2 af2 b2) := rfl
theorem Sys2Proof.Laws.Coded.calOpRound (m : Nat) (a : Nat) (mask : Nat) : Sys2Proof.Laws.Coded.Statement (.calOpRound m a mask) := rfl
theorem Sys2Proof.Laws.Coded.calOpTraceTap (m : Nat) (a : Nat) (tap : Nat) (mask : Nat) : Sys2Proof.Laws.Coded.Statement (.calOpTraceTap m a tap mask) := rfl
theorem Sys2Proof.Laws.Coded.calOpTraceIcalH (m : Nat) (a : Nat) (mask : Nat) : Sys2Proof.Laws.Coded.Statement (.calOpTraceIcalH m a mask) := rfl
theorem Sys2Proof.Laws.Coded.calOpTraceIcalL (m : Nat) (a : Nat) (mask : Nat) : Sys2Proof.Laws.Coded.Statement (.calOpTraceIcalL m a mask) := rfl
theorem Sys2Proof.Laws.Coded.calOpCommit (m : Nat) (a : Nat) (mask : Nat) : Sys2Proof.Laws.Coded.Statement (.calOpCommit m a mask) := rfl
theorem Sys2Proof.Laws.Coded.calOpDiscard (m : Nat) (a : Nat) (mask : Nat) : Sys2Proof.Laws.Coded.Statement (.calOpDiscard m a mask) := rfl
theorem Sys2Proof.Laws.Coded.traceDone (a : Nat) (delta : Int) (outside : Bool) (sq : Nat) : Sys2Proof.Laws.Coded.Statement (.traceDone a delta outside sq) := rfl
theorem Sys2Proof.Laws.Coded.calCandidateExpire (a : Nat) : Sys2Proof.Laws.Coded.Statement (.calCandidateExpire a) := rfl
theorem Sys2Proof.Laws.Coded.chFlgRead (m : Nat) (n : Nat) (isI : Bool) : Sys2Proof.Laws.Coded.Statement (.chFlgRead m n isI) := rfl
theorem Sys2Proof.Laws.Coded.windowTransition (n : Nat) (k : Nat) (into : Bool) (unc : Bool) (merged : Bool) (t : Nat) : Sys2Proof.Laws.Coded.Statement (.windowTransition n k into unc merged t) := rfl
theorem Sys2Proof.Laws.Coded.windowMaskEnd (n : Nat) (k : Nat) (now : Bool) : Sys2Proof.Laws.Coded.Statement (.windowMaskEnd n k now) := rfl
theorem Sys2Proof.Laws.Coded.wfinfoRead (m : Nat) (n : Nat) : Sys2Proof.Laws.Coded.Statement (.wfinfoRead m n) := rfl
theorem Sys2Proof.Laws.Coded.stiArm (m : Nat) (k : Nat) (u : Nat) : Sys2Proof.Laws.Coded.Statement (.stiArm m k u) := rfl
theorem Sys2Proof.Laws.Coded.stiDisarm (m : Nat) (k : Nat) (u : Nat) : Sys2Proof.Laws.Coded.Statement (.stiDisarm m k u) := rfl
theorem Sys2Proof.Laws.Coded.stiDone (k : Nat) (u : Nat) : Sys2Proof.Laws.Coded.Statement (.stiDone k u) := rfl
theorem Sys2Proof.Laws.Coded.stiTimeout (k : Nat) (u : Nat) : Sys2Proof.Laws.Coded.Statement (.stiTimeout k u) := rfl
theorem Sys2Proof.Laws.Coded.afeSkcmdGo (m : Nat) (a : Nat) (mask : Nat) : Sys2Proof.Laws.Coded.Statement (.afeSkcmdGo m a mask) := rfl
theorem Sys2Proof.Laws.Coded.deskewLoad (n : Nat) (isI : Bool) (sum : Int) : Sys2Proof.Laws.Coded.Statement (.deskewLoad n isI sum) := rfl
theorem Sys2Proof.Laws.Coded.motCount (a : Bool) (b : Bool) (t : Nat) (held : Nat) : Sys2Proof.Laws.Coded.Statement (.motCount a b t held) := rfl
theorem Sys2Proof.Laws.Coded.motZEdge (rising : Bool) (t : Nat) : Sys2Proof.Laws.Coded.Statement (.motZEdge rising t) := rfl
theorem Sys2Proof.Laws.Coded.motXgEdge (rising : Bool) (t : Nat) : Sys2Proof.Laws.Coded.Statement (.motXgEdge rising t) := rfl
theorem Sys2Proof.Laws.Coded.motCpEdge (k : Nat) (rising : Bool) (t : Nat) : Sys2Proof.Laws.Coded.Statement (.motCpEdge k rising t) := rfl
theorem Sys2Proof.Laws.Coded.motCoastEdge (high : Bool) (t : Nat) : Sys2Proof.Laws.Coded.Statement (.motCoastEdge high t) := rfl
theorem Sys2Proof.Laws.Coded.commit (n : Nat) : Sys2Proof.Laws.Coded.Statement (.commit n) := rfl
theorem Sys2Proof.Laws.Coded.loopUpdate (n : Nat) : Sys2Proof.Laws.Coded.Statement (.loopUpdate n) := rfl
theorem Sys2Proof.Laws.Coded.stepEndTime (n : Nat) : Sys2Proof.Laws.Coded.Statement (.stepEndTime n) := rfl
theorem Sys2Proof.Laws.Coded.formatEdge (n : Nat) : Sys2Proof.Laws.Coded.Statement (.formatEdge n) := rfl
theorem Sys2Proof.Laws.Coded.formatDone (n : Nat) : Sys2Proof.Laws.Coded.Statement (.formatDone n) := rfl
theorem Sys2Proof.Laws.Coded.stepAbortEnd (n : Nat) : Sys2Proof.Laws.Coded.Statement (.stepAbortEnd n) := rfl
theorem Sys2Proof.Laws.Coded.edgeSlotFire (n : Nat) (j : Nat) : Sys2Proof.Laws.Coded.Statement (.edgeSlotFire n j) := rfl
theorem Sys2Proof.Laws.Coded.edgeSlotArm (m : Nat) (n : Nat) (j : Nat) (act : Nat) : Sys2Proof.Laws.Coded.Statement (.edgeSlotArm m n j act) := rfl
theorem Sys2Proof.Laws.Coded.edgeSlotDisarm (m : Nat) (n : Nat) (j : Nat) : Sys2Proof.Laws.Coded.Statement (.edgeSlotDisarm m n j) := rfl
theorem Sys2Proof.Laws.Coded.accIntegrate (n : Nat) : Sys2Proof.Laws.Coded.Statement (.accIntegrate n) := rfl
theorem Sys2Proof.Laws.Coded.clrtot (m : Nat) (n : Nat) : Sys2Proof.Laws.Coded.Statement (.clrtot m n) := rfl
theorem Sys2Proof.Laws.Coded.shadowRead (m : Nat) (n : Nat) : Sys2Proof.Laws.Coded.Statement (.shadowRead m n) := rfl
theorem Sys2Proof.Laws.Coded.psfsWrite (m : Nat) (n : Nat) (r : Nat) (v : Nat) : Sys2Proof.Laws.Coded.Statement (.psfsWrite m n r v) := rfl
theorem Sys2Proof.Laws.Coded.impedWindowStart (n : Nat) : Sys2Proof.Laws.Coded.Statement (.impedWindowStart n) := rfl
theorem Sys2Proof.Laws.Coded.impedWindowEnd (n : Nat) : Sys2Proof.Laws.Coded.Statement (.impedWindowEnd n) := rfl
theorem Sys2Proof.Laws.Coded.driveFrame (g : Nat) : Sys2Proof.Laws.Coded.Statement (.driveFrame g) := rfl
theorem Sys2Proof.Laws.Coded.statusFrame (g : Nat) (fault : Nat) (range : Nat) (temp : Nat) (echo : Nat) (tag : Nat) (flags : Nat) (desc : Nat) : Sys2Proof.Laws.Coded.Statement (.statusFrame g fault range temp echo tag flags desc) := rfl
theorem Sys2Proof.Laws.Coded.statusFrameBad (g : Nat) : Sys2Proof.Laws.Coded.Statement (.statusFrameBad g) := rfl
theorem Sys2Proof.Laws.Coded.statusLockLoss (g : Nat) : Sys2Proof.Laws.Coded.Statement (.statusLockLoss g) := rfl
theorem Sys2Proof.Laws.Coded.setupAckTimeout (n : Nat) : Sys2Proof.Laws.Coded.Statement (.setupAckTimeout n) := rfl
theorem Sys2Proof.Laws.Coded.setupRepeat (n : Nat) : Sys2Proof.Laws.Coded.Statement (.setupRepeat n) := rfl
theorem Sys2Proof.Laws.Coded.rangeResume (n : Nat) : Sys2Proof.Laws.Coded.Statement (.rangeResume n) := rfl
theorem Sys2Proof.Laws.Coded.laneEnable (m : Nat) : Sys2Proof.Laws.Coded.Statement (.laneEnable m) := rfl
theorem Sys2Proof.Laws.Coded.lanesIdle : Sys2Proof.Laws.Coded.Statement (.lanesIdle) := rfl
theorem Sys2Proof.Laws.Coded.laneDisable (m : Nat) : Sys2Proof.Laws.Coded.Statement (.laneDisable m) := rfl
theorem Sys2Proof.Laws.Coded.lanesOff : Sys2Proof.Laws.Coded.Statement (.lanesOff) := rfl
theorem Sys2Proof.Laws.Coded.identifyOn (m : Nat) (g : Nat) (mask : Nat) : Sys2Proof.Laws.Coded.Statement (.identifyOn m g mask) := rfl
theorem Sys2Proof.Laws.Coded.identifyOff (m : Nat) (g : Nat) (mask : Nat) : Sys2Proof.Laws.Coded.Statement (.identifyOff m g mask) := rfl
theorem Sys2Proof.Laws.Coded.hostSnuff (m : Nat) (n : Nat) : Sys2Proof.Laws.Coded.Statement (.hostSnuff m n) := rfl
theorem Sys2Proof.Laws.Coded.hostRearm (m : Nat) (n : Nat) : Sys2Proof.Laws.Coded.Statement (.hostRearm m n) := rfl
theorem Sys2Proof.Laws.Coded.snuffAll (m : Nat) : Sys2Proof.Laws.Coded.Statement (.snuffAll m) := rfl
theorem Sys2Proof.Laws.Coded.ilkEstopOpen : Sys2Proof.Laws.Coded.Statement (.ilkEstopOpen) := rfl
theorem Sys2Proof.Laws.Coded.ilkEstopClose : Sys2Proof.Laws.Coded.Statement (.ilkEstopClose) := rfl
theorem Sys2Proof.Laws.Coded.instructionFetch (k : Nat) (c : Nat) (mck : Option (Nat × Nat × Nat)) : Sys2Proof.Laws.Coded.Statement (.instructionFetch k c mck) := rfl
theorem Sys2Proof.Laws.Coded.nop (k : Nat) (c : Nat) : Sys2Proof.Laws.Coded.Statement (.nop k c) :=
  Option.isSome_map.trans rfl
theorem Sys2Proof.Laws.Coded.halt (k : Nat) (c : Nat) (a : Bool) (ucode : Nat) : Sys2Proof.Laws.Coded.Statement (.halt k c a ucode) := rfl
theorem Sys2Proof.Laws.Coded.jmp (k : Nat) (c : Nat) (target : Nat) : Sys2Proof.Laws.Coded.Statement (.jmp k c target) := rfl
theorem Sys2Proof.Laws.Coded.jcc (k : Nat) (c : Nat) (cond : Nat) (target : Nat) : Sys2Proof.Laws.Coded.Statement (.jcc k c cond target) := rfl
theorem Sys2Proof.Laws.Coded.call (k : Nat) (c : Nat) (cond : Nat) (target : Nat) : Sys2Proof.Laws.Coded.Statement (.call k c cond target) := rfl
theorem Sys2Proof.Laws.Coded.ret (k : Nat) (c : Nat) (cond : Nat) : Sys2Proof.Laws.Coded.Statement (.ret k c cond) :=
  Option.isSome_map.trans rfl
theorem Sys2Proof.Laws.Coded.loop (k : Nat) (c : Nat) (x : Nat) (target : Nat) : Sys2Proof.Laws.Coded.Statement (.loop k c x target) := rfl
theorem Sys2Proof.Laws.Coded.waitc (k : Nat) (c : Nat) (cls : Nat) (reg : Nat) (timeout : Nat) : Sys2Proof.Laws.Coded.Statement (.waitc k c cls reg timeout) := rfl
theorem Sys2Proof.Laws.Coded.waitt (k : Nat) (c : Nat) (base : Nat) (reg : Nat) (timeout : Nat) : Sys2Proof.Laws.Coded.Statement (.waitt k c base reg timeout) := rfl
theorem Sys2Proof.Laws.Coded.sync (k : Nat) (c : Nat) (b : Nat) (reg : Nat) (timeout : Nat) : Sys2Proof.Laws.Coded.Statement (.sync k c b reg timeout) := rfl
theorem Sys2Proof.Laws.Coded.yield (k : Nat) (c : Nat) : Sys2Proof.Laws.Coded.Statement (.yield k c) := rfl
theorem Sys2Proof.Laws.Coded.signal (k : Nat) (c : Nat) (a : Nat) (b : Opnd) : Sys2Proof.Laws.Coded.Statement (.signal k c a b) := rfl
theorem Sys2Proof.Laws.Coded.fence (k : Nat) (c : Nat) : Sys2Proof.Laws.Coded.Statement (.fence k c) := rfl
theorem Sys2Proof.Laws.Coded.movi (k : Nat) (c : Nat) (dst : Nat) (cls : Nat) (hi : Bool) (imm : Int) : Sys2Proof.Laws.Coded.Statement (.movi k c dst cls hi imm) := rfl
theorem Sys2Proof.Laws.Coded.mov (k : Nat) (c : Nat) (dst : Nat) (src : Nat) (dcls : Nat) (scls : Nat) : Sys2Proof.Laws.Coded.Statement (.mov k c dst src dcls scls) := rfl
theorem Sys2Proof.Laws.Coded.ld (k : Nat) (c : Nat) (dst : Nat) (a : Nat) (ofs : Int) (sg : Bool) (sz : Nat) : Sys2Proof.Laws.Coded.Statement (.ld k c dst a ofs sg sz) := rfl
theorem Sys2Proof.Laws.Coded.st (k : Nat) (c : Nat) (a : Nat) (b : Nat) (ofs : Int) (sz : Nat) : Sys2Proof.Laws.Coded.Statement (.st k c a b ofs sz) := rfl
theorem Sys2Proof.Laws.Coded.add (k : Nat) (c : Nat) (dst : Nat) (a : Nat) (b : Opnd) : Sys2Proof.Laws.Coded.Statement (.add k c dst a b) := rfl
theorem Sys2Proof.Laws.Coded.sub (k : Nat) (c : Nat) (dst : Nat) (a : Nat) (b : Opnd) : Sys2Proof.Laws.Coded.Statement (.sub k c dst a b) := rfl
theorem Sys2Proof.Laws.Coded.mul (k : Nat) (c : Nat) (dst : Nat) (a : Nat) (b : Opnd) (sg : Bool) (hi : Bool) : Sys2Proof.Laws.Coded.Statement (.mul k c dst a b sg hi) := rfl
theorem Sys2Proof.Laws.Coded.divq (k : Nat) (c : Nat) (dst : Nat) (a : Nat) (b : Opnd) (sg : Bool) (rem : Bool) : Sys2Proof.Laws.Coded.Statement (.divq k c dst a b sg rem) := rfl
theorem Sys2Proof.Laws.Coded.and (k : Nat) (c : Nat) (dst : Nat) (a : Nat) (b : Opnd) : Sys2Proof.Laws.Coded.Statement (.and k c dst a b) := rfl
theorem Sys2Proof.Laws.Coded.or (k : Nat) (c : Nat) (dst : Nat) (a : Nat) (b : Opnd) : Sys2Proof.Laws.Coded.Statement (.or k c dst a b) := rfl
theorem Sys2Proof.Laws.Coded.xor (k : Nat) (c : Nat) (dst : Nat) (a : Nat) (b : Opnd) : Sys2Proof.Laws.Coded.Statement (.xor k c dst a b) := rfl
theorem Sys2Proof.Laws.Coded.shl (k : Nat) (c : Nat) (dst : Nat) (a : Nat) (b : Opnd) : Sys2Proof.Laws.Coded.Statement (.shl k c dst a b) := rfl
theorem Sys2Proof.Laws.Coded.shr (k : Nat) (c : Nat) (dst : Nat) (a : Nat) (b : Opnd) (sg : Bool) : Sys2Proof.Laws.Coded.Statement (.shr k c dst a b sg) := rfl
theorem Sys2Proof.Laws.Coded.cmp (k : Nat) (c : Nat) (a : Nat) (b : Opnd) : Sys2Proof.Laws.Coded.Statement (.cmp k c a b) := rfl
theorem Sys2Proof.Laws.Coded.min (k : Nat) (c : Nat) (dst : Nat) (a : Nat) (b : Opnd) (sg : Bool) : Sys2Proof.Laws.Coded.Statement (.min k c dst a b sg) := rfl
theorem Sys2Proof.Laws.Coded.max (k : Nat) (c : Nat) (dst : Nat) (a : Nat) (b : Opnd) (sg : Bool) : Sys2Proof.Laws.Coded.Statement (.max k c dst a b sg) := rfl
theorem Sys2Proof.Laws.Coded.sel (k : Nat) (c : Nat) (dst : Nat) (a : Nat) (b : Opnd) (cond : Nat) : Sys2Proof.Laws.Coded.Statement (.sel k c dst a b cond) := rfl
theorem Sys2Proof.Laws.Coded.rds (k : Nat) (c : Nat) (dst : Nat) (item : Nat) : Sys2Proof.Laws.Coded.Statement (.rds k c dst item) := rfl
theorem Sys2Proof.Laws.Coded.tlu (k : Nat) (c : Nat) (dst : Nat) (a : Nat) (b : Opnd) : Sys2Proof.Laws.Coded.Statement (.tlu k c dst a b) := rfl
theorem Sys2Proof.Laws.Coded.atadd (k : Nat) (c : Nat) (dst : Nat) (a : Nat) (b : Opnd) (sg : Bool) (swp : Bool) (sz : Nat) : Sys2Proof.Laws.Coded.Statement (.atadd k c dst a b sg swp sz) := rfl
theorem Sys2Proof.Laws.Coded.waitConditionMet (k : Nat) (c : Nat) : Sys2Proof.Laws.Coded.Statement (.waitConditionMet k c) := rfl
theorem Sys2Proof.Laws.Coded.waitTimeout (k : Nat) (c : Nat) : Sys2Proof.Laws.Coded.Statement (.waitTimeout k c) := rfl
theorem Sys2Proof.Laws.Coded.waittDeadline (k : Nat) (c : Nat) : Sys2Proof.Laws.Coded.Statement (.waittDeadline k c) := rfl
theorem Sys2Proof.Laws.Coded.threadRun (m : Nat) (k : Nat) (c : Nat) : Sys2Proof.Laws.Coded.Statement (.threadRun m k c) := rfl
theorem Sys2Proof.Laws.Coded.hostHalt (m : Nat) (k : Nat) (c : Nat) : Sys2Proof.Laws.Coded.Statement (.hostHalt m k c) := rfl
theorem Sys2Proof.Laws.Coded.hostAbort (m : Nat) (k : Nat) (c : Nat) : Sys2Proof.Laws.Coded.Statement (.hostAbort m k c) := rfl
theorem Sys2Proof.Laws.Coded.runmaskWrite (m : Nat) (k : Nat) (v : Nat) : Sys2Proof.Laws.Coded.Statement (.runmaskWrite m k v) := rfl
theorem Sys2Proof.Laws.Coded.haltreqWrite (m : Nat) (k : Nat) (v : Nat) : Sys2Proof.Laws.Coded.Statement (.haltreqWrite m k v) := rfl
theorem Sys2Proof.Laws.Coded.quiesce (m : Nat) (k : Nat) : Sys2Proof.Laws.Coded.Statement (.quiesce m k) := rfl
theorem Sys2Proof.Laws.Coded.quiesceRelease (m : Nat) (k : Nat) : Sys2Proof.Laws.Coded.Statement (.quiesceRelease m k) := rfl
theorem Sys2Proof.Laws.Coded.threadStateWrite (m : Nat) (k : Nat) (c : Nat) (off : Nat) (v : Nat) : Sys2Proof.Laws.Coded.Statement (.threadStateWrite m k c off v) := rfl
theorem Sys2Proof.Laws.Coded.programRegionWrite (m : Nat) (k : Nat) (size : Bool) (v : Nat) : Sys2Proof.Laws.Coded.Statement (.programRegionWrite m k size v) := rfl
theorem Sys2Proof.Laws.Coded.step (k : Nat) (c : Nat) (a : StepArgs) : Sys2Proof.Laws.Coded.Statement (.step k c a) := rfl
theorem Sys2Proof.Laws.Coded.setp (k : Nat) (c : Nat) (w : Nat) (b : Opnd) : Sys2Proof.Laws.Coded.Statement (.setp k c w b) := rfl
theorem Sys2Proof.Laws.Coded.limit (k : Nat) (c : Nat) (comp : Nat) (ctl : Bool) (b : Opnd) : Sys2Proof.Laws.Coded.Statement (.limit k c comp ctl b) := rfl
theorem Sys2Proof.Laws.Coded.expect (k : Nat) (c : Nat) (e : Nat) (w : Nat) (b : Opnd) : Sys2Proof.Laws.Coded.Statement (.expect k c e w b) := rfl
theorem Sys2Proof.Laws.Coded.expectCheck (k : Nat) (c : Nat) (dst : Nat) : Sys2Proof.Laws.Coded.Statement (.expectCheck k c dst) := rfl
theorem Sys2Proof.Laws.Coded.endc (k : Nat) (c : Nat) (e : Nat) (val : Bool) (b : Opnd) : Sys2Proof.Laws.Coded.Statement (.endc k c e val b) := rfl
theorem Sys2Proof.Laws.Coded.irange (k : Nat) (c : Nat) (r : Nat) : Sys2Proof.Laws.Coded.Statement (.irange k c r) := rfl
theorem Sys2Proof.Laws.Coded.psrange (k : Nat) (c : Nat) (r : Nat) (w : Bool) : Sys2Proof.Laws.Coded.Statement (.psrange k c r w) := rfl
theorem Sys2Proof.Laws.Coded.soft (k : Nat) (c : Nat) (b : Opnd) : Sys2Proof.Laws.Coded.Statement (.soft k c b) := rfl
theorem Sys2Proof.Laws.Coded.snuff (k : Nat) (c : Nat) : Sys2Proof.Laws.Coded.Statement (.snuff k c) := rfl
theorem Sys2Proof.Laws.Coded.enable (k : Nat) (c : Nat) : Sys2Proof.Laws.Coded.Statement (.enable k c) := rfl
theorem Sys2Proof.Laws.Coded.ldtab (k : Nat) (c : Nat) (dst : Nat) (a : Nat) (b : Nat) (part : Nat) : Sys2Proof.Laws.Coded.Statement (.ldtab k c dst a b part) :=
  Option.isSome_map.trans rfl
theorem Sys2Proof.Laws.Coded.fmt (k : Nat) (c : Nat) (w : Nat) (b : Opnd) : Sys2Proof.Laws.Coded.Statement (.fmt k c w b) := rfl
theorem Sys2Proof.Laws.Coded.fmtLoad (k : Nat) (c : Nat) (f : Nat) : Sys2Proof.Laws.Coded.Statement (.fmtLoad k c f) := rfl
theorem Sys2Proof.Laws.Coded.meas (k : Nat) (c : Nat) (dst : Nat) (isI : Bool) (align : Bool) (b : Opnd) : Sys2Proof.Laws.Coded.Statement (.meas k c dst isI align b) := rfl
theorem Sys2Proof.Laws.Coded.measAsync (k : Nat) (c : Nat) (isI : Bool) (align : Bool) (b : Opnd) : Sys2Proof.Laws.Coded.Statement (.measAsync k c isI align b) := rfl
theorem Sys2Proof.Laws.Coded.measCollect (k : Nat) (c : Nat) (dst : Nat) (isI : Bool) : Sys2Proof.Laws.Coded.Statement (.measCollect k c dst isI) := rfl
theorem Sys2Proof.Laws.Coded.averageDone (n : Nat) (isI : Bool) : Sys2Proof.Laws.Coded.Statement (.averageDone n isI) := rfl
theorem Sys2Proof.Laws.Coded.accRc (k : Nat) (c : Nat) (dst : Nat) : Sys2Proof.Laws.Coded.Statement (.accRc k c dst) :=
  Option.isSome_map.trans rfl
theorem Sys2Proof.Laws.Coded.accClr (k : Nat) (c : Nat) : Sys2Proof.Laws.Coded.Statement (.accClr k c) := rfl
theorem Sys2Proof.Laws.Coded.arm (k : Nat) (c : Nat) (dst : Nat) (b : Opnd) : Sys2Proof.Laws.Coded.Statement (.arm k c dst b) := rfl
theorem Sys2Proof.Laws.Coded.armDis (k : Nat) (c : Nat) (dst : Nat) : Sys2Proof.Laws.Coded.Statement (.armDis k c dst) := rfl
theorem Sys2Proof.Laws.Coded.trigEdge (k : Nat) (c : Nat) (j : Nat) (act : Nat) (a : Nat) (b : Opnd) : Sys2Proof.Laws.Coded.Statement (.trigEdge k c j act a b) := rfl
theorem Sys2Proof.Laws.Coded.trigCapture (k : Nat) (c : Nat) : Sys2Proof.Laws.Coded.Statement (.trigCapture k c) := rfl
theorem Sys2Proof.Laws.Coded.trigBeacon (k : Nat) (c : Nat) (sync : Bool) (b : Opnd) : Sys2Proof.Laws.Coded.Statement (.trigBeacon k c sync b) := rfl
theorem Sys2Proof.Laws.Coded.mark (k : Nat) (c : Nat) (b : Opnd) : Sys2Proof.Laws.Coded.Statement (.mark k c b) := rfl
theorem Sys2Proof.Laws.Coded.markStep (k : Nat) (c : Nat) (b : Opnd) : Sys2Proof.Laws.Coded.Statement (.markStep k c b) := rfl
theorem Sys2Proof.Laws.Coded.record (k : Nat) (c : Nat) (typ : Nat) (a : Nat) (b : Opnd) : Sys2Proof.Laws.Coded.Statement (.record k c typ a b) := rfl
theorem Sys2Proof.Laws.Coded.imped (k : Nat) (c : Nat) (w : Bool) (b : Opnd) : Sys2Proof.Laws.Coded.Statement (.imped k c w b) := rfl
theorem Sys2Proof.Laws.Coded.stampArm (k : Nat) (c : Nat) (u : Nat) : Sys2Proof.Laws.Coded.Statement (.stampArm k c u) := rfl
theorem Sys2Proof.Laws.Coded.stampDis (k : Nat) (c : Nat) (u : Nat) : Sys2Proof.Laws.Coded.Statement (.stampDis k c u) := rfl
theorem Sys2Proof.Laws.Coded.stampRd (k : Nat) (c : Nat) (dst : Nat) (u : Nat) : Sys2Proof.Laws.Coded.Statement (.stampRd k c dst u) := rfl
theorem Sys2Proof.Laws.Coded.stampCfg (k : Nat) (c : Nat) (u : Nat) (a : Nat) (b : Opnd) : Sys2Proof.Laws.Coded.Statement (.stampCfg k c u a b) := rfl
theorem Sys2Proof.Laws.Coded.redirect (k : Nat) (c : Nat) : Sys2Proof.Laws.Coded.Statement (.redirect k c) := rfl
theorem Sys2Proof.Laws.Coded.asyncTrap (k : Nat) (c : Nat) (point : Option (Nat × Nat × Nat × Nat × List Nat)) : Sys2Proof.Laws.Coded.Statement (.asyncTrap k c point) := rfl
theorem Sys2Proof.Laws.Coded.budgetExceeded (k : Nat) (c : Nat) : Sys2Proof.Laws.Coded.Statement (.budgetExceeded k c) := rfl
theorem Sys2Proof.Laws.Coded.engineWaitTimeout (k : Nat) (c : Nat) (addr : Nat) : Sys2Proof.Laws.Coded.Statement (.engineWaitTimeout k c addr) := rfl
theorem Sys2Proof.Laws.Coded.controlStoreScrub (k : Nat) (bad : Option (Nat × Nat)) : Sys2Proof.Laws.Coded.Statement (.controlStoreScrub k bad) := rfl
theorem Sys2Proof.Laws.Coded.mceCsWrite (m : Nat) (k : Nat) (bcast : Bool) : Sys2Proof.Laws.Coded.Statement (.mceCsWrite m k bcast) := rfl
theorem Sys2Proof.Laws.Coded.mceCsRead (m : Nat) (k : Nat) : Sys2Proof.Laws.Coded.Statement (.mceCsRead m k) := rfl
theorem Sys2Proof.Laws.Coded.mceDispWrite (m : Nat) (k : Nat) (op : Nat) (v : Nat) : Sys2Proof.Laws.Coded.Statement (.mceDispWrite m k op v) := rfl
theorem Sys2Proof.Laws.Coded.mceLoadedSet (m : Nat) (k : Nat) : Sys2Proof.Laws.Coded.Statement (.mceLoadedSet m k) := rfl
theorem Sys2Proof.Laws.Coded.mceXreqSet (m : Nat) (k : Nat) (c : Nat) : Sys2Proof.Laws.Coded.Statement (.mceXreqSet m k c) := rfl
theorem Sys2Proof.Laws.Coded.failRecordWrite : Sys2Proof.Laws.Coded.Statement (.failRecordWrite) := rfl
theorem Sys2Proof.Laws.Coded.failSpillMove : Sys2Proof.Laws.Coded.Statement (.failSpillMove) := rfl
theorem Sys2Proof.Laws.Coded.failSpillModeWrite (m : Nat) (on_ : Bool) : Sys2Proof.Laws.Coded.Statement (.failSpillModeWrite m on_) := rfl
theorem Sys2Proof.Laws.Coded.capArmWrite (m : Nat) (n : Nat) (i : Nat) : Sys2Proof.Laws.Coded.Statement (.capArmWrite m n i) := rfl
theorem Sys2Proof.Laws.Coded.capDisarmWrite (m : Nat) (n : Nat) : Sys2Proof.Laws.Coded.Statement (.capDisarmWrite m n) := rfl
theorem Sys2Proof.Laws.Coded.capForce (m : Nat) (n : Nat) : Sys2Proof.Laws.Coded.Statement (.capForce m n) := rfl
theorem Sys2Proof.Laws.Coded.captureTrigger (n : Nat) : Sys2Proof.Laws.Coded.Statement (.captureTrigger n) := rfl
theorem Sys2Proof.Laws.Coded.captureSample (n : Nat) : Sys2Proof.Laws.Coded.Statement (.captureSample n) := rfl
theorem Sys2Proof.Laws.Coded.captureHoldoffEnd (n : Nat) : Sys2Proof.Laws.Coded.Statement (.captureHoldoffEnd n) := rfl
theorem Sys2Proof.Laws.Coded.streamSlot (n : Nat) : Sys2Proof.Laws.Coded.Statement (.streamSlot n) := rfl
theorem Sys2Proof.Laws.Coded.streamResume (n : Nat) : Sys2Proof.Laws.Coded.Statement (.streamResume n) := rfl
theorem Sys2Proof.Laws.Coded.streamWaitEnd (n : Nat) : Sys2Proof.Laws.Coded.Statement (.streamWaitEnd n) := rfl
theorem Sys2Proof.Laws.Coded.streamRingRead (n : Nat) : Sys2Proof.Laws.Coded.Statement (.streamRingRead n) := rfl
theorem Sys2Proof.Laws.Coded.stwrWrite (m : Nat) (n : Nat) (v : Nat) : Sys2Proof.Laws.Coded.Statement (.stwrWrite m n v) := rfl
theorem Sys2Proof.Laws.Coded.stcmdJump (m : Nat) (n : Nat) (seg : Nat) (passEnd : Bool) : Sys2Proof.Laws.Coded.Statement (.stcmdJump m n seg passEnd) := rfl
theorem Sys2Proof.Laws.Coded.stcmdGo (m : Nat) (n : Nat) : Sys2Proof.Laws.Coded.Statement (.stcmdGo m n) := rfl
theorem Sys2Proof.Laws.Coded.strmCfg (k : Nat) (c : Nat) (dst : Nat) (a : Nat) : Sys2Proof.Laws.Coded.Statement (.strmCfg k c dst a) :=
  Option.isSome_map.trans rfl
theorem Sys2Proof.Laws.Coded.strmReset (k : Nat) (c : Nat) : Sys2Proof.Laws.Coded.Statement (.strmReset k c) := rfl
theorem Sys2Proof.Laws.Coded.strmGo (k : Nat) (c : Nat) : Sys2Proof.Laws.Coded.Statement (.strmGo k c) := rfl
theorem Sys2Proof.Laws.Coded.strmStat (k : Nat) (c : Nat) (dst : Nat) : Sys2Proof.Laws.Coded.Statement (.strmStat k c dst) := rfl
theorem Sys2Proof.Laws.Coded.strmSlip (k : Nat) (c : Nat) (dst : Nat) : Sys2Proof.Laws.Coded.Statement (.strmSlip k c dst) := rfl
theorem Sys2Proof.Laws.Coded.seg (k : Nat) (c : Nat) (a : Nat) : Sys2Proof.Laws.Coded.Statement (.seg k c a) :=
  Option.isSome_map.trans rfl
theorem Sys2Proof.Laws.Coded.segCopy (k : Nat) (c : Nat) (dst : Nat) (a : Nat) (b : Opnd) : Sys2Proof.Laws.Coded.Statement (.segCopy k c dst a b) := rfl
theorem Sys2Proof.Laws.Coded.sjmp (k : Nat) (c : Nat) (passEnd : Bool) (b : Opnd) : Sys2Proof.Laws.Coded.Statement (.sjmp k c passEnd b) := rfl
theorem Sys2Proof.Laws.Coded.schedGuard : Sys2Proof.Laws.Coded.Statement (.schedGuard) := rfl
theorem Sys2Proof.Laws.Coded.schedWclose : Sys2Proof.Laws.Coded.Statement (.schedWclose) := rfl
theorem Sys2Proof.Laws.Coded.schedDeadline : Sys2Proof.Laws.Coded.Statement (.schedDeadline) := rfl
theorem Sys2Proof.Laws.Coded.schedGate : Sys2Proof.Laws.Coded.Statement (.schedGate) := rfl
theorem Sys2Proof.Laws.Coded.schedWopen : Sys2Proof.Laws.Coded.Statement (.schedWopen) := rfl
theorem Sys2Proof.Laws.Coded.schedEvent : Sys2Proof.Laws.Coded.Statement (.schedEvent) := rfl
theorem Sys2Proof.Laws.Coded.gatePulseEnd (k : Nat) : Sys2Proof.Laws.Coded.Statement (.gatePulseEnd k) := rfl
theorem Sys2Proof.Laws.Coded.hostScheduleAdd (m : Nat) (act : Nat) (arg : Nat) : Sys2Proof.Laws.Coded.Statement (.hostScheduleAdd m act arg) := rfl
theorem Sys2Proof.Laws.Coded.motCoastCmd (m : Nat) : Sys2Proof.Laws.Coded.Statement (.motCoastCmd m) := rfl
theorem Sys2Proof.Laws.Coded.motResume (m : Nat) : Sys2Proof.Laws.Coded.Statement (.motResume m) := rfl
theorem Sys2Proof.Laws.Coded.motSchclr (m : Nat) : Sys2Proof.Laws.Coded.Statement (.motSchclr m) := rfl
theorem Sys2Proof.Laws.Coded.motVelUpdate : Sys2Proof.Laws.Coded.Statement (.motVelUpdate) := rfl
theorem Sys2Proof.Laws.Coded.mwin (k : Nat) (c : Nat) (dst : Nat) (a : Nat) (b : Opnd) (slot : Nat) (act : Nat) (guard : Bool) (cp : Nat) : Sys2Proof.Laws.Coded.Statement (.mwin k c dst a b slot act guard cp) := rfl
theorem Sys2Proof.Laws.Coded.msort (k : Nat) (c : Nat) (dst : Nat) (a : Nat) : Sys2Proof.Laws.Coded.Statement (.msort k c dst a) :=
  Option.isSome_map.trans rfl
theorem Sys2Proof.Laws.Coded.ctlook (k : Nat) (c : Nat) (dst : Nat) (a : Nat) (b : Opnd) : Sys2Proof.Laws.Coded.Statement (.ctlook k c dst a b) := rfl
theorem Sys2Proof.Laws.Coded.ctlookCar (k : Nat) (c : Nat) (dst : Nat) (a : Nat) (b : Opnd) : Sys2Proof.Laws.Coded.Statement (.ctlookCar k c dst a b) := rfl
theorem Sys2Proof.Laws.Coded.ctupdUpdate (k : Nat) (c : Nat) (dst : Nat) (a : Nat) (b : Opnd) : Sys2Proof.Laws.Coded.Statement (.ctupdUpdate k c dst a b) := rfl
theorem Sys2Proof.Laws.Coded.ctupdInsert (k : Nat) (c : Nat) (dst : Nat) (a : Nat) (b : Opnd) : Sys2Proof.Laws.Coded.Statement (.ctupdInsert k c dst a b) := rfl
theorem Sys2Proof.Laws.Coded.ctupdUpsert (k : Nat) (c : Nat) (dst : Nat) (a : Nat) (b : Opnd) : Sys2Proof.Laws.Coded.Statement (.ctupdUpsert k c dst a b) := rfl
theorem Sys2Proof.Laws.Coded.ctupdRetire (k : Nat) (c : Nat) (dst : Nat) (a : Nat) (b : Opnd) : Sys2Proof.Laws.Coded.Statement (.ctupdRetire k c dst a b) := rfl
theorem Sys2Proof.Laws.Coded.ctseal (k : Nat) (c : Nat) (dst : Nat) : Sys2Proof.Laws.Coded.Statement (.ctseal k c dst) :=
  Option.isSome_map.trans rfl
theorem Sys2Proof.Laws.Coded.ctSealCmd (m : Nat) : Sys2Proof.Laws.Coded.Statement (.ctSealCmd m) := rfl
theorem Sys2Proof.Laws.Coded.ctFlush (m : Nat) : Sys2Proof.Laws.Coded.Statement (.ctFlush m) := rfl
theorem Sys2Proof.Laws.Coded.ctFlushDone : Sys2Proof.Laws.Coded.Statement (.ctFlushDone) := rfl
theorem Sys2Proof.Laws.Coded.ctEnable (m : Nat) : Sys2Proof.Laws.Coded.Statement (.ctEnable m) := rfl
theorem Sys2Proof.Laws.Coded.ctRecountDone : Sys2Proof.Laws.Coded.Statement (.ctRecountDone) := rfl
theorem Sys2Proof.Laws.Coded.batchAgeClose : Sys2Proof.Laws.Coded.Statement (.batchAgeClose) := rfl
theorem Sys2Proof.Laws.Coded.batchSigned (sig : List Nat) : Sys2Proof.Laws.Coded.Statement (.batchSigned sig) := rfl
theorem Sys2Proof.Laws.Coded.fefCellrec (l : Nat) (img : Nat) (car : Nat) (lcn : Nat) (upd : Nat) (map : Bool) : Sys2Proof.Laws.Coded.Statement (.fefCellrec l img car lcn upd map) := rfl
theorem Sys2Proof.Laws.Coded.bankAccess (b : Nat) (reqs : List BankReq) : Sys2Proof.Laws.Coded.Statement (.bankAccess b reqs) := rfl
theorem Sys2Proof.Laws.Coded.eccWriteback (b : Nat) : Sys2Proof.Laws.Coded.Statement (.eccWriteback b) := rfl
theorem Sys2Proof.Laws.Coded.btBorrow : Sys2Proof.Laws.Coded.Statement (.btBorrow) := rfl
theorem Sys2Proof.Laws.Coded.btReturn (fault : Option (Nat × Nat)) (cut : Bool) : Sys2Proof.Laws.Coded.Statement (.btReturn fault cut) := rfl
theorem Sys2Proof.Laws.Coded.regionWrite (m : Nat) (mast : Nat) (t : Nat) (i : Nat) (hi : Bool) (v : Nat) : Sys2Proof.Laws.Coded.Statement (.regionWrite m mast t i hi v) := rfl
theorem Sys2Proof.Laws.Coded.ddrTrainingDone (err : Nat) (arr : Nat) (ranks2 : Bool) (dens32 : Bool) (drfm : Bool) : Sys2Proof.Laws.Coded.Statement (.ddrTrainingDone err arr ranks2 dens32 drfm) := rfl
theorem Sys2Proof.Laws.Coded.ddrCommandSlot (x : Nat) : Sys2Proof.Laws.Coded.Statement (.ddrCommandSlot x) := rfl
theorem Sys2Proof.Laws.Coded.ddrRefreshInterval (x : Nat) (r : Nat) : Sys2Proof.Laws.Coded.Statement (.ddrRefreshInterval x r) := rfl
theorem Sys2Proof.Laws.Coded.ddrMr4Poll (x : Nat) (r : Nat) (code : Nat) : Sys2Proof.Laws.Coded.Statement (.ddrMr4Poll x r code) := rfl
theorem Sys2Proof.Laws.Coded.ddrRhTableClear (x : Nat) (r : Nat) : Sys2Proof.Laws.Coded.Statement (.ddrRhTableClear x r) := rfl
theorem Sys2Proof.Laws.Coded.ddrPatrolScrub (n : Nat) : Sys2Proof.Laws.Coded.Statement (.ddrPatrolScrub n) := rfl
theorem Sys2Proof.Laws.Coded.ddrSrEntry (x : Nat) : Sys2Proof.Laws.Coded.Statement (.ddrSrEntry x) := rfl
theorem Sys2Proof.Laws.Coded.ddrSrExit (x : Nat) : Sys2Proof.Laws.Coded.Statement (.ddrSrExit x) := rfl
theorem Sys2Proof.Laws.Coded.hostDoorbell (m : Nat) (v : Nat) : Sys2Proof.Laws.Coded.Statement (.hostDoorbell m v) := rfl
theorem Sys2Proof.Laws.Coded.eventCoalTimer : Sys2Proof.Laws.Coded.Statement (.eventCoalTimer) := rfl
theorem Sys2Proof.Laws.Coded.lapRead (p : Nat) (sid : Nat) (seq : Nat) (ack : Nat) (addr : Nat) (count : Nat) : Sys2Proof.Laws.Coded.Statement (.lapRead p sid seq ack addr count) := rfl
theorem Sys2Proof.Laws.Coded.lapWrite (p : Nat) (sid : Nat) (seq : Nat) (ack : Nat) (addr : Nat) (data : List Nat) : Sys2Proof.Laws.Coded.Statement (.lapWrite p sid seq ack addr data) := rfl
theorem Sys2Proof.Laws.Coded.lapBulkRead (p : Nat) (sid : Nat) (seq : Nat) (ack : Nat) (addr : Nat) (len : Nat) : Sys2Proof.Laws.Coded.Statement (.lapBulkRead p sid seq ack addr len) := rfl
theorem Sys2Proof.Laws.Coded.lapBulkWrite (p : Nat) (sid : Nat) (seq : Nat) (ack : Nat) (addr : Nat) (len : Nat) (data : List Nat) : Sys2Proof.Laws.Coded.Statement (.lapBulkWrite p sid seq ack addr len data) := rfl
theorem Sys2Proof.Laws.Coded.lapStream (p : Nat) (sid : Nat) (seq : Nat) (ack : Nat) (lcn : Nat) (first : Nat) (entries : List Nat) : Sys2Proof.Laws.Coded.Statement (.lapStream p sid seq ack lcn first entries) := rfl
theorem Sys2Proof.Laws.Coded.lapAck (p : Nat) (sid : Nat) (ack : Nat) (sack : Nat) : Sys2Proof.Laws.Coded.Statement (.lapAck p sid ack sack) := rfl
theorem Sys2Proof.Laws.Coded.lapDiscard : Sys2Proof.Laws.Coded.Statement (.lapDiscard) := rfl
theorem Sys2Proof.Laws.Coded.lapAckTimer (i : Nat) : Sys2Proof.Laws.Coded.Statement (.lapAckTimer i) := rfl
theorem Sys2Proof.Laws.Coded.lapRetransmit (i : Nat) : Sys2Proof.Laws.Coded.Statement (.lapRetransmit i) := rfl
theorem Sys2Proof.Laws.Coded.lapSessionIdle (i : Nat) : Sys2Proof.Laws.Coded.Statement (.lapSessionIdle i) := rfl
theorem Sys2Proof.Laws.Coded.lapSessionEnd (m : Nat) (i : Nat) : Sys2Proof.Laws.Coded.Statement (.lapSessionEnd m i) := rfl
theorem Sys2Proof.Laws.Coded.recordSend (q : Nat) (count : Nat) : Sys2Proof.Laws.Coded.Statement (.recordSend q count) := rfl
theorem Sys2Proof.Laws.Coded.ethLinkChange (p : Nat) (up : Bool) (speed : Nat) : Sys2Proof.Laws.Coded.Statement (.ethLinkChange p up speed) := rfl
theorem Sys2Proof.Laws.Coded.fefEvrel (l : Nat) (kind : Nat) (num : Nat) (hops : Nat) (origin : Nat) (oseq : Nat) (at_ : Nat) : Sys2Proof.Laws.Coded.Statement (.fefEvrel l kind num hops origin oseq at_) := rfl
theorem Sys2Proof.Laws.Coded.fefAck (l : Nat) (ack : Nat) : Sys2Proof.Laws.Coded.Statement (.fefAck l ack) := rfl
theorem Sys2Proof.Laws.Coded.fefFrameBad (l : Nat) : Sys2Proof.Laws.Coded.Statement (.fefFrameBad l) := rfl
theorem Sys2Proof.Laws.Coded.fefRetransmit (l : Nat) : Sys2Proof.Laws.Coded.Statement (.fefRetransmit l) := rfl
theorem Sys2Proof.Laws.Coded.secProgram (m : Nat) : Sys2Proof.Laws.Coded.Statement (.secProgram m) := rfl
theorem Sys2Proof.Laws.Coded.secStore (m : Nat) : Sys2Proof.Laws.Coded.Statement (.secStore m) := rfl
theorem Sys2Proof.Laws.Coded.secConfirm (m : Nat) : Sys2Proof.Laws.Coded.Statement (.secConfirm m) := rfl
theorem Sys2Proof.Laws.Coded.secAttest (m : Nat) : Sys2Proof.Laws.Coded.Statement (.secAttest m) := rfl
theorem Sys2Proof.Laws.Coded.secCalcert (m : Nat) : Sys2Proof.Laws.Coded.Statement (.secCalcert m) := rfl
theorem Sys2Proof.Laws.Coded.secSavekeys (m : Nat) : Sys2Proof.Laws.Coded.Statement (.secSavekeys m) := rfl
theorem Sys2Proof.Laws.Coded.flashOpDone (ok : Bool) : Sys2Proof.Laws.Coded.Statement (.flashOpDone ok) := rfl
theorem Sys2Proof.Laws.Coded.attestDone (rom : List Nat) (image : List Nat) (mc : List Nat) (cal : List Nat) (mismatch : Bool) (patches : List (List Nat × Nat)) (sig : List Nat) : Sys2Proof.Laws.Coded.Statement (.attestDone rom image mc cal mismatch patches sig) := rfl
theorem Sys2Proof.Laws.Coded.calcertDone (sig : List Nat) : Sys2Proof.Laws.Coded.Statement (.calcertDone sig) := rfl
theorem Sys2Proof.Laws.Coded.swBegin (m : Nat) : Sys2Proof.Laws.Coded.Statement (.swBegin m) := rfl
theorem Sys2Proof.Laws.Coded.swBeginReady (nd : List Nat) (ek : List Nat) (sig : List Nat) : Sys2Proof.Laws.Coded.Statement (.swBeginReady nd ek sig) := rfl
theorem Sys2Proof.Laws.Coded.swFinish (m : Nat) : Sys2Proof.Laws.Coded.Statement (.swFinish m) := rfl
theorem Sys2Proof.Laws.Coded.swCert (m : Nat) : Sys2Proof.Laws.Coded.Statement (.swCert m) := rfl
theorem Sys2Proof.Laws.Coded.swAbort (m : Nat) : Sys2Proof.Laws.Coded.Statement (.swAbort m) := rfl
theorem Sys2Proof.Laws.Coded.swSetupIdle : Sys2Proof.Laws.Coded.Statement (.swSetupIdle) := rfl
theorem Sys2Proof.Laws.Coded.recoveryProgram : Sys2Proof.Laws.Coded.Statement (.recoveryProgram) := rfl
theorem Sys2Proof.Laws.Coded.pcmdHold (m : Nat) : Sys2Proof.Laws.Coded.Statement (.pcmdHold m) := rfl
theorem Sys2Proof.Laws.Coded.pcmdRun (m : Nat) : Sys2Proof.Laws.Coded.Statement (.pcmdRun m) := rfl
theorem Sys2Proof.Laws.Coded.pcmdDoze (m : Nat) (key : Nat) : Sys2Proof.Laws.Coded.Statement (.pcmdDoze m key) := rfl
theorem Sys2Proof.Laws.Coded.dozeEntryComplete (fp : Nat) : Sys2Proof.Laws.Coded.Statement (.dozeEntryComplete fp) := rfl
theorem Sys2Proof.Laws.Coded.pcmdWake (p : Nat) (i : Nat) : Sys2Proof.Laws.Coded.Statement (.pcmdWake p i) := rfl
theorem Sys2Proof.Laws.Coded.wakeTimer : Sys2Proof.Laws.Coded.Statement (.wakeTimer) := rfl
theorem Sys2Proof.Laws.Coded.wakeComplete : Sys2Proof.Laws.Coded.Statement (.wakeComplete) := rfl
theorem Sys2Proof.Laws.Coded.pcmdReset (m : Nat) (key : Nat) : Sys2Proof.Laws.Coded.Statement (.pcmdReset m key) := rfl
theorem Sys2Proof.Laws.Coded.pcmdReload (m : Nat) (k : Nat) : Sys2Proof.Laws.Coded.Statement (.pcmdReload m k) := rfl
theorem Sys2Proof.Laws.Coded.pcmdOut (m : Nat) (k : Nat) : Sys2Proof.Laws.Coded.Statement (.pcmdOut m k) := rfl
theorem Sys2Proof.Laws.Coded.pcmdRetrain (m : Nat) (l : Nat) : Sys2Proof.Laws.Coded.Statement (.pcmdRetrain m l) := rfl
theorem Sys2Proof.Laws.Coded.watchdogReset : Sys2Proof.Laws.Coded.Statement (.watchdogReset) := rfl
theorem Sys2Proof.Laws.Coded.clusterLoadDone (k : Nat) (same : Bool) : Sys2Proof.Laws.Coded.Statement (.clusterLoadDone k same) := rfl
theorem Sys2Proof.Laws.Coded.clusterRejoin (k : Nat) : Sys2Proof.Laws.Coded.Statement (.clusterRejoin k) := rfl
theorem Sys2Proof.Laws.Coded.pilotCmpTrip (j : Nat) : Sys2Proof.Laws.Coded.Statement (.pilotCmpTrip j) := rfl
theorem Sys2Proof.Laws.Coded.pilotCmpRelease (j : Nat) : Sys2Proof.Laws.Coded.Statement (.pilotCmpRelease j) := rfl
theorem Sys2Proof.Laws.Coded.safePermit (m : Nat) : Sys2Proof.Laws.Coded.Statement (.safePermit m) := rfl
theorem Sys2Proof.Laws.Coded.healthEval (raws : List (Nat × Nat)) : Sys2Proof.Laws.Coded.Statement (.healthEval raws) := rfl
theorem Sys2Proof.Laws.Coded.wearSave : Sys2Proof.Laws.Coded.Statement (.wearSave) := rfl
theorem Sys2Proof.Laws.Coded.contactCountCmd (m : Nat) (count : Nat) (ch : Nat) (rst : Bool) : Sys2Proof.Laws.Coded.Statement (.contactCountCmd m count ch rst) := rfl
theorem Sys2Proof.Laws.Coded.ovenSettled (duty : Nat) : Sys2Proof.Laws.Coded.Statement (.ovenSettled duty) := rfl
theorem Sys2Proof.Laws.Coded.dspApply (m : Nat) (o : Nat) : Sys2Proof.Laws.Coded.Statement (.dspApply m o) := rfl
theorem Sys2Proof.Laws.Coded.vblankStart (o : Nat) : Sys2Proof.Laws.Coded.Statement (.vblankStart o) := rfl
theorem Sys2Proof.Laws.Coded.dpTrainDone (o : Nat) (ok : Bool) : Sys2Proof.Laws.Coded.Statement (.dpTrainDone o ok) := rfl
theorem Sys2Proof.Laws.Coded.hpdChange (o : Nat) (present : Bool) : Sys2Proof.Laws.Coded.Statement (.hpdChange o present) := rfl
theorem Sys2Proof.Laws.Coded.dpLine (o : Nat) (n : Nat) (gone : List (Nat × Nat)) (urgent : Nat) : Sys2Proof.Laws.Coded.Statement (.dpLine o n gone urgent) := rfl
theorem Sys2Proof.Laws.Coded.cmRangeEnd (n : Nat) (isI : Bool) : Sys2Proof.Laws.Coded.Statement (.cmRangeEnd n isI) := rfl
theorem Sys2Proof.Laws.Coded.resetNRelease : Sys2Proof.Laws.Coded.Statement (.resetNRelease) := rfl
theorem Sys2Proof.Laws.Coded.referenceRegained : Sys2Proof.Laws.Coded.Statement (.referenceRegained) := rfl
theorem Sys2Proof.Laws.Coded.fefLinkChange (l : Nat) (up : Bool) : Sys2Proof.Laws.Coded.Statement (.fefLinkChange l up) := rfl
theorem Sys2Proof.Laws.Coded.tdcLockChange (a : Nat) (locked : Bool) : Sys2Proof.Laws.Coded.Statement (.tdcLockChange a locked) := rfl
theorem Sys2Proof.Laws.Coded.pilotDomainStart : Sys2Proof.Laws.Coded.Statement (.pilotDomainStart) := rfl
theorem Sys2Proof.Laws.Coded.pilotDomainLoss : Sys2Proof.Laws.Coded.Statement (.pilotDomainLoss) := rfl
theorem Sys2Proof.Laws.Coded.ovenokLost : Sys2Proof.Laws.Coded.Statement (.ovenokLost) := rfl
end

