-- ==== Sys2Proof/Tests/Slice0.lean ====
section
/-! SUPPORT. The model's own tests: for each obligation's hypotheses a state and operands that meet them together, words of the spec's examples with the instructions they stand for, and for each check of Instr.wf a command that it refuses. -/

namespace Sys2Proof.Tests

open Sys2Proof.Machine

set_option Elab.async false

/-! ### Small states -/

/-- Reset with the device changed. -/
@[irreducible] def st (f : Device → Device) : State := { pending := [], dev := f State.reset.dev }

/-- Thread `c` of cluster `k` READY, then changed by `f`. -/
def ready (k c : Nat) (f : Thread → Thread) (d : Device) : Device := d.modThr k c fun t => f (t.set SEQ_TSTAT_STATE 1)

/-- Thread `c` of cluster `k` WAITING in `w`. -/
def waiting (k c : Nat) (w : Wait) (d : Device) : Device :=
  d.modThr k c fun t => { t.set SEQ_TSTAT_STATE 3 with wait := some w }

/-- Master `m` may do everything at target `t`. -/
def opened (m t : Nat) (d : Device) : Device :=
  let d := ((d.setB (MEM_RLO_EN m t 0) true).set (MEM_RLO_BASE m t 0) (targetBase t / 4096)).set (MEM_RHI_LIMIT m t 0) (targetEnd t / 4096)
  (((d.setB (MEM_RHI_R m t 0) true).setB (MEM_RHI_W m t 0) true).setB (MEM_RHI_A m t 0) true).setB (MEM_RHI_X m t 0) true

theorem turn_of {s : State} {k c : Nat} (h : (s.dev.pw.phase = 2 ∧ k < 16 ∧ c < 64) ∧ (s.dev.thread k c).runnable = true ∧
    (s.dev.thread k c).redirect = none ∧ (s.dev.thread k c).haltReq = none ∧ (s.dev.clus k).on SEQ_CTL_QUIESCE = false) : Turn s k c :=
  ⟨h.1.1, h.1.2.1, h.1.2.2, h.2.1, h.2.2.1, h.2.2.2.1, h.2.2.2.2⟩

theorem inWait_of {s : State} {k c : Nat} {w : Wait} (h : (s.dev.pw.phase = 2 ∧ k < 16 ∧ c < 64) ∧ (s.dev.thread k c).state = 3 ∧
    (s.dev.thread k c).wait = some w ∧ (s.dev.thread k c).held = none ∧ (s.dev.thread k c).onStore = false) : InWait s k c w :=
  ⟨h.1.1, h.1.2.1, h.1.2.2, h.2.1, h.2.2.1, h.2.2.2.1, h.2.2.2.2⟩

/-- `Granted` as a computation. -/
def grantedB (s : State) (m kind a : Nat) : Bool := s.dev.pw.phase == 2 && targetOf a == some 21 && s.dev.regRefused m kind a == false

theorem granted_of {s : State} {m kind a : Nat} (h : grantedB s m kind a = true) : Granted s m kind a := by
  simp only [grantedB, Bool.and_eq_true, beq_iff_eq] at h
  exact ⟨h.1.1, h.1.2, h.2⟩

/-- `BankOpen` as a computation. -/
def bankB (d : Device) (m kind a n t : Nat) : Bool :=
  targetOf a == some t && decide (t < 20) && d.allowed m t kind (a / 4096) false && d.allowed m t kind ((a + max n 1 - 1) / 4096) false &&
    !d.stalled a n && (unitsOf t a n).all fun u => !d.bad.contains u

theorem bank_of {d : Device} {m kind a n t : Nat} (h : bankB d m kind a n t = true) : BankOpen d m kind a n t := by
  simp only [bankB, Bool.and_eq_true, beq_iff_eq, decide_eq_true_eq, Bool.not_eq_true', List.all_eq_true] at h
  exact ⟨h.1.1.1.1.1, h.1.1.1.1.2, h.1.1.1.2, h.1.1.2, h.1.2, h.2⟩

/-- A register file in which every listed value lies below `B`. -/
theorem get_below {r : Regs} {B : Nat} (h : ∀ e ∈ r, e.2 < B) (f : Fld) (hr : f.rst < B) : r.get f < B := by
  have hl : ∀ (q : Regs) (v : Nat), (∀ e ∈ q, e.2 < B) → q.look f.key = some v → v < B := by
    intro q
    induction q with
    | nil => intro v _ h; cases h
    | cons e t ih =>
      intro v hq hv
      unfold Regs.look at hv
      split at hv
      · exact Option.some.inj hv ▸ hq e List.mem_cons_self
      · exact ih v (fun x hx => hq x (List.mem_cons_of_mem _ hx)) hv
  unfold Regs.get
  cases hk : r.look f.key with
  | none => exact hr
  | some v => exact hl r v h hk

theorem pair2 {α : Type} {x : α × Nat} {e : Nat} (h : x.2 = e) : ∃ d, x = (d, e) := ⟨x.1, by subst h; rfl⟩
theorem pair3 {α β : Type} {x : α × Nat × β} {e : Nat} (h : x.2.1 = e) : ∃ d y, x = (d, e, y) := ⟨x.1, x.2.2, by subst h; rfl⟩
theorem pair3r {α β : Type} {x : α × β × Nat} {e : Nat} (h : x.2.2 = e) : ∃ d y, x = (d, y, e) := ⟨x.1, x.2.1, by subst h; rfl⟩

theorem pair {α β : Type} {x : α × β} {y : β} (h : x.2 = y) : ∃ d, x = (d, y) := ⟨x.1, by subst h; rfl⟩
theorem pairP {α β : Type} {x : α × β × Nat} {e : Nat} {p : α → β → Prop} (h : x.2.2 = e) (hp : p x.1 x.2.1) :
    ∃ d y, x = (d, y, e) ∧ p d y := ⟨x.1, x.2.1, by subst h; rfl, hp⟩

/-! ### Thread instructions: witnesses of the statements' hypotheses -/

/-- Thread 63 of cluster 15 READY: G1 = −2^63, G2 = 7, G3 = bit 63, L3 = 5. -/
def busy : State := st (ready 15 63 fun t => (((t.setG 1 (2 ^ 63)).setG 2 7).setG 3 (2 ^ 63)).setL 3 5)

theorem turn_busy : Turn busy 15 63 := turn_of (by decide +kernel)

theorem witness_AddSubCmp : Turn busy 15 63 ∧ 15 < 16 := ⟨turn_busy, by decide⟩
theorem witness_Logic : Turn busy 15 63 ∧ 0 < 16 := ⟨turn_busy, by decide⟩
theorem witness_Shifts : Turn busy 15 63 ∧ 15 < 16 ∧ (busy.dev.thread 15 63).g 1 < 2 ^ 64 ∧ (busy.dev.thread 15 63).opnd (.imm 63) % 64 = 63 :=
  ⟨turn_busy, by decide +kernel⟩
theorem witness_Multiply : Turn busy 15 63 ∧ 15 < 16 ∧ (busy.dev.thread 15 63).g 1 < 2 ^ 64 ∧ (busy.dev.thread 15 63).opnd (.imm (-1)) < 2 ^ 64 :=
  ⟨turn_busy, by decide +kernel⟩
theorem witness_Divide : Turn busy 15 63 ∧ 15 < 16 ∧ (busy.dev.thread 15 63).g 1 < 2 ^ 64 ∧ (busy.dev.thread 15 63).opnd (.imm 0) = 0 ∧
    (busy.dev.thread 15 63).opnd (.imm 1) ≠ 0 ∧ (busy.dev.thread 15 63).g 1 = 2 ^ 63 ∧ (busy.dev.thread 15 63).opnd (.imm (-1)) = 2 ^ 64 - 1 ∧
    ¬ ((busy.dev.thread 15 63).g 1 = 2 ^ 63 ∧ (busy.dev.thread 15 63).opnd (.imm 1) = 2 ^ 64 - 1) := ⟨turn_busy, by decide +kernel⟩
theorem witness_MinMax : Turn busy 15 63 ∧ 15 < 16 ∧ (busy.dev.thread 15 63).g 1 < 2 ^ 64 ∧ (busy.dev.thread 15 63).opnd (.reg 2) < 2 ^ 64 :=
  ⟨turn_busy, by decide +kernel⟩
theorem witness_Moves : Turn busy 15 63 ∧ 3 < 16 ∧ 15 < 16 ∧ (∀ i, (busy.dev.thread 15 63).g i < 2 ^ 64) ∧
    (busy.dev.thread 15 63).opnd (.imm (-1)) < 2 ^ 64 ∧ (∀ i, (busy.dev.thread 15 63).l i < 2 ^ 32) ∧ 3 < 4 := by
  refine ⟨turn_busy, by decide, by decide, fun i => get_below (by decide +kernel) _ (show 0 < 2 ^ 64 by decide), by decide +kernel, fun i => ?_, by decide⟩
  have h : ∀ j, j < 4 → (busy.dev.thread 15 63).get (SEQ_TL_CNT j) < 2 ^ 32 := by decide +kernel
  exact h (i % 4) (Nat.mod_lt _ (by decide))
theorem witness_Jumps : Turn busy 15 63 ∧ 3 < 4 ∧ 2 ^ 32 - 1 < 2 ^ 32 ∧ 1 < (busy.dev.thread 15 63).l 3 ∧ (busy.dev.thread 15 63).l 0 ≤ 1 :=
  ⟨turn_busy, by decide +kernel⟩

/-- The same thread at call depth `dep`. -/
def deep (dep : Nat) : State := st (ready 15 63 fun t => t.set SEQ_TSP_DEPTH dep)

theorem witness_CallRet : (Turn (deep 16) 15 63 ∧ Turn (deep 0) 15 63) ∧
    (∀ dep ∈ [0, 15, 16], ((deep dep).dev.thread 15 63).get SEQ_TSP_DEPTH = dep) ∧ 100 < 2 ^ 32 ∧
    condOf ((deep 16).dev.thread 15 63) ((deep 16).dev.chan 1023) 0 = true ∧ condOf ((deep 16).dev.thread 15 63) ((deep 16).dev.chan 1023) 1 = false :=
  ⟨⟨turn_of (by decide +kernel), turn_of (by decide +kernel)⟩, by decide +kernel⟩
theorem witness_HaltSignal : Turn busy 15 63 ∧ 255 < 256 := ⟨turn_busy, by decide⟩
theorem witness_Waiting : Turn busy 15 63 ∧ 15 < 16 ∧ 5 ≠ 6 ∧ 2 < 3 ∧
    busy.dev.dt ≤ (busy.dev.thread 15 63).g 2 + 128 * 0 ∧ bit ((busy.dev.thread 15 63).g 3) 63 = true ∧
    ((busy.dev.clus 15).bars.find? fun e => e.1 == 15) = none ∧ bit ((busy.dev.thread 15 63).g 2) 63 = false := ⟨turn_busy, by decide +kernel⟩

/-- A thread in a wait, its step ended at 1,000. -/
def wstate (w : Wait) (dt : Nat) : State :=
  st fun d => (({ d with dt := dt } : Device).modChan 1023 fun c => ((c.setB CH_RSTAT_ENDED true).set CH_ENDDT_DT 1000)).modThr 15 63
    fun t => { t.set SEQ_TSTAT_STATE 3 with wait := some w }

theorem witness_WaitsEnd : InWait (wstate ⟨.cond 0 0, some 1000, 0⟩ 1000) 15 63 ⟨.cond 0 0, some 1000, 0⟩ ∧
    InWait (wstate ⟨.cond 1 0, some 1000, 0⟩ 1000) 15 63 ⟨.cond 1 0, some 1000, 0⟩ ∧
    InWait (wstate ⟨.until_, some 1000, 0⟩ 1000) 15 63 ⟨.until_, some 1000, 0⟩ ∧
    InWait (st (waiting 15 63 ⟨.cond 0 0, some 7, 0⟩ ∘ fun d => { d with dt := 204808 })) 15 63 ⟨.cond 0 0, some 7, 0⟩ :=
  ⟨inWait_of (by decide +kernel), inWait_of (by decide +kernel), inWait_of (by decide +kernel), inWait_of (by decide +kernel)⟩
theorem witness_WaitsEnd_values : (let x := (wstate ⟨.cond 0 0, some 1000, 0⟩ 1000).dev.chan 1023
    (x.on CH_RSTAT_ENDED = true ∧ x.get CH_ENDDT_DT ≤ 1000) ∧ x.on CH_RSTAT_PEND = false ∧ x.on CH_RSTAT_STEP_TRANSITION = false ∧
    x.get CH_ENDDT_DT ≤ 1000 ∧ x.get CH_TSTART_DT ≤ 1000) ∧ (State.reset.dev.chan 1023).on CH_RSTAT_ENDED = false ∧ 7 + 204800 < 204808 := by decide +kernel

/-- The same thread with an address in G4, an unaligned one in G5, one out of range in G6, a table in bank 15 in G7. -/
def atBank : State := st fun d => opened 15 15 (ready 15 63 (fun t => (((t.setG 4 0x2D00008).setG 5 0x2D00009).setG 6 (2 ^ 40)).setG 7 0x2D01000)
  { d with mem := memWrite 0x2D01008 5 8 (memWrite 0x2D01018 9 8 (memWrite 0x2D01000 2 8 d.mem)) })

theorem turn_atBank : Turn atBank 15 63 := turn_of (by decide +kernel)
theorem witness_LoadStore : Turn atBank 15 63 ∧ 15 < 16 ∧ 0 < 4 ∧ (let x := (atBank.dev.thread 15 63).g 4
      x < 2 ^ 40 ∧ x % accSize 0 = 0 ∧ BankOpen atBank.dev 15 0 x 8 15 ∧ BankOpen atBank.dev 15 1 x 8 15) ∧
    2 ^ 40 ≤ (atBank.dev.thread 15 63).g 6 ∧ (atBank.dev.thread 15 63).g 5 % accSize 2 ≠ 0 :=
  ⟨turn_atBank, by decide, by decide, ⟨by decide +kernel, by decide +kernel, bank_of (by decide +kernel), bank_of (by decide +kernel)⟩,
    by decide +kernel, by decide +kernel⟩
theorem witness_AtomicAdd : Turn atBank 15 63 ∧ 15 < 16 ∧ 1 < 2 ∧ (let x := (atBank.dev.thread 15 63).g 4
      x < 2 ^ 40 ∧ x % accSize 1 = 0 ∧ BankOpen atBank.dev 15 2 x 4 15) ∧ targetOf 0x40000000 = some 21 :=
  ⟨turn_atBank, by decide, by decide, ⟨by decide +kernel, by decide +kernel, bank_of (by decide +kernel)⟩, by decide +kernel⟩
theorem witness_TableLookup : Turn atBank 15 63 ∧ 15 < 16 ∧ (let tab := (atBank.dev.thread 15 63).opnd (.reg 7)
      tab < 2 ^ 39 ∧ tab % 8 = 0 ∧ memRead atBank.dev.mem tab 8 = 2 ∧ atBank.dev.soft = [] ∧
      (∀ o, o % 8 = 0 → o < 8 + 16 * 2 → ∃ t, BankOpen atBank.dev 15 0 (tab + o) 8 t) ∧
      sgn 64 (memRead atBank.dev.mem (tab + 8) 8) = 5 ∧ sgn 64 (memRead atBank.dev.mem (tab + 24) 8) = 9 ∧ (atBank.dev.thread 15 63).g 0 = 0 ∧
      5 < (atBank.dev.thread 15 63).g 4) := by
  refine ⟨turn_atBank, by decide, by decide +kernel, by decide +kernel, by decide +kernel, by decide +kernel, fun o _ h => ⟨15, ?_⟩, by decide +kernel⟩
  have all : ∀ o, o < 40 → bankB atBank.dev 15 0 ((atBank.dev.thread 15 63).opnd (.reg 7) + o) 8 15 = true := by decide +kernel
  exact bank_of (all o h)
theorem witness_ReadState : Turn busy 15 63 ∧ 15 < 16 := ⟨turn_busy, by decide⟩
theorem witness_ReadState_wfpop : Turn (st fun d => (ready 15 63 id d).modChan 1023 fun c => { c with fifo := [⟨1, true, false, false, false, false, 9⟩] }) 15 63 :=
  turn_of (by decide +kernel)

/-- Thread 63 of cluster 15 READY with its own bank open. -/
def seq (g : Device → Device) (f : Thread → Thread) : State := st fun d => g (opened 15 15 (ready 15 63 f d))

theorem turn_seq : Turn (seq id id) 15 63 := turn_of (by decide +kernel)
theorem witness_ShadowWrites : Turn busy 15 63 ∧ 15 < 16 ∧ 3 < 4 ∧ 5 < 6 := ⟨turn_busy, by decide⟩

/-- Current mode (SP from the table) and sine mode with every table. -/
def stepMax : StepArgs := ⟨15, 15, 15, 15, 15, 2, false, false, 0⟩
def stepKeep : StepArgs := ⟨1, 0, 0, 0, 0, 0, true, false, 0⟩
def spOne : State := seq (Device.modCl 15 fun x => { x with regs := x.regs.set RG_SPCNT_CNT 1 }) id

theorem witness_StepCommand : Turn spOne 15 63 ∧ (stepMax.s < (spOne.dev.clus 15).get RG_SPCNT_CNT ∧
    ∃ d' set, spOne.dev.stepReads 15 63 stepMax = (d', 0, set)) ∧ ∃ d' ws, spOne.dev.readTable 15 (spOne.dev.tableAt 15 RG_FMTBASE_BASE (63 * 0x400 + 15 * 0x40)) 16 = (d', ws, 0) :=
  ⟨turn_of (by decide +kernel), ⟨by decide +kernel, pair3 (by decide +kernel)⟩, pair3r (by decide +kernel)⟩
theorem witness_StepCommand_stops : Turn (seq id id) 15 63 ∧ ¬ (stepMax.keepsp = true ∨ stepMax.s < ((seq id id).dev.clus 15).get RG_SPCNT_CNT) ∧
    Turn (st (ready 15 63 id)) 15 63 ∧ stepKeep.keepsp = true ∧ (∃ d' x, (st (ready 15 63 id)).dev.stepReads 15 63 stepKeep = (d', 1, x)) :=
  ⟨turn_seq, by decide +kernel, turn_of (by decide +kernel), rfl, pair3 (by decide +kernel)⟩
/-- The first word of the limit table with an uncorrectable error. -/
def badTable : State := seq (fun d => { d with bad := [d.tableAt 15 RG_LTBASE_BASE 0] }) id
theorem witness_StepCommand_memerr : Turn badTable 15 63 ∧ ∃ d' x, badTable.dev.stepReads 15 63 stepKeep = (d', 2, x) :=
  ⟨turn_of (by decide +kernel), pair3 (by decide +kernel)⟩

theorem witness_ChannelControl : Turn busy 15 63 ∧ 15 < 16 ∧ (busy.dev.chan 1023).on CH_SNFSTAT_SNUFFED = false := ⟨turn_busy, by decide +kernel⟩

/-- Channel 1023 with PSFS of range 3 set and its group's set-up in a given state. -/
def ranged (f : Chan → Chan) : State := st fun d => (ready 15 63 id d).modChan 1023 fun c => f (c.set (CH_PSFS_FS 3) 5)
theorem witness_RangeSwitch : Turn (ranged id) 15 63 ∧ 3 < 4 ∧ ((ranged id).dev.chan 1023).get (CH_PSFS_FS 2) = 0 ∧
    ((ranged id).dev.chan 1023).get (CH_PSFS_FS 3) ≠ 0 ∧ ((ranged id).dev.chan 1023).on CH_PSCTL_BUSY = false ∧ 3 ≠ ((ranged id).dev.chan 1023).psr ∧
    Turn (ranged (Chan.setB CH_PSCTL_BUSY true)) 15 63 ∧ ((ranged (Chan.setB CH_PSCTL_BUSY true)).dev.chan 1023).on CH_PSCTL_BUSY = true ∧
    Turn (ranged fun c => { c.set CH_RSTAT_PSR 3 with setupAcked := true }) 15 63 :=
  ⟨turn_of (by decide +kernel), by decide, by decide +kernel, by decide +kernel, by decide +kernel, by decide +kernel, turn_of (by decide +kernel),
    by decide +kernel, turn_of (by decide +kernel)⟩

/-- LDTAB operands: G1 source, G2 destination, G3 length. -/
def copying (src dst len : Nat) : State := seq id fun t => ((t.setG 1 src).setG 2 dst).setG 3 len
theorem turn_copying : Turn (copying 0x2D00000 0x2FFBFF8 8) 15 63 := turn_of (by decide +kernel)
theorem witness_LoadTable : Turn (copying 0x2D00000 0x2FFBFF8 8) 15 63 ∧ (let s := copying 0x2D00000 0x2FFBFF8 8
      let t := s.dev.thread 15 63
      (t.g 1 % 8 = 0 ∧ t.g 2 % 8 = 0 ∧ t.g 3 = 8) ∧ 8 ≤ 256 ∧ targetBase 15 ≤ t.g 2 ∧ t.g 2 + 8 ≤ targetBase 15 + 0x300000 ∧
      ¬ (t.g 1 < t.g 2 + 8 ∧ t.g 2 < t.g 1 + 8) ∧ t.g 1 + 8 ≤ 2 ^ 40 ∧ s.dev.soft = [] ∧ BankOpen s.dev 15 0 (t.g 1) 8 15 ∧ BankOpen s.dev 15 1 (t.g 2) 8 15) ∧
    Turn (copying 1 0 8) 15 63 ∧ Turn (copying 0x2D00000 0x2D00008 0) 15 63 ∧ Turn (copying 0x2D00000 0x2D00008 (2 ^ 20 + 8)) 15 63 ∧
    Turn (copying 0x2D00000 0x2D00008 16) 15 63 ∧ 2 ≠ 1 ∧ 2 ≠ 3 ∧ 1 ≠ 3 :=
  ⟨turn_copying, ⟨by decide +kernel, by decide, by decide +kernel, by decide +kernel, by decide +kernel, by decide +kernel, by decide +kernel,
    bank_of (by decide +kernel), bank_of (by decide +kernel)⟩, turn_of (by decide +kernel), turn_of (by decide +kernel), turn_of (by decide +kernel),
    turn_of (by decide +kernel), by decide⟩

/-- Channel 1023 on a running Taper with an average that is full. -/
def averaging : State := st fun d => ((ready 15 63 id d).modAfe 7 fun a => a.setB AFE_TPRSTAT_RUN true).modChan 1023 fun c =>
  { c.setB CH_MSTAT_IBUSY true with avgI := some { align := false, issue := 0, need := 1, covered := 1 } }
theorem witness_Averages : Turn averaging 15 63 ∧ (averaging.dev.chip 7).on AFE_TPRSTAT_RUN = true ∧ (averaging.dev.chan 1023).on CH_MSTAT_IBUSY = true ∧
    (averaging.dev.chan 1023).on CH_MSTAT_VBUSY = false ∧ (averaging.dev.chan 1023).on CH_MSTAT_VDONE = false ∧
    (averaging.dev.chan 1023).avgI = some { align := false, issue := 0, need := 1, covered := 1 } := ⟨turn_of (by decide +kernel), by decide +kernel⟩
theorem witness_AccArm : Turn busy 15 63 ∧ (busy.dev.capt 1023).state ≠ 2 := ⟨turn_busy, by decide +kernel⟩

/-- A capture of channel 1023 in PRE, and the device in a Beacon role. -/
def capturing (role : Nat) : State := st fun d => ((ready 15 63 id d).set DEV_POS_ROLE role).modCap 1023 fun u => u.set CAP_STAT_STATE 2
theorem witness_Triggers : Turn (capturing 1) 15 63 ∧ ((capturing 1).dev.capt 1023).state ≠ 0 ∧ (capturing 1).dev.get DEV_POS_ROLE = 1 ∧
    Turn (capturing 2) 15 63 ∧ (capturing 2).dev.get DEV_POS_ROLE = 2 ∧ 3 < 4 ∧ 1 ≠ 0 ∧ 1 ≠ 3 :=
  ⟨turn_of (by decide +kernel), by decide +kernel, by decide +kernel, turn_of (by decide +kernel), by decide +kernel, by decide⟩

/-- A sine step at the lowest frequency, and an interval unit set up. -/
def sining : State := st fun d => ((ready 15 63 id d).modChan 1023 fun c => { c with mode := 7 }).modSti 15 7 fun u => u.set STI_CTL_MODE 1
theorem witness_ImpedStamp : Turn sining 15 63 ∧ ¬ ((sining.dev.chan 1023).mode ≠ 7 ∨ 2 ^ 32 < (sining.dev.chan 1023).ac.ftw * 4 * (sining.dev.chip 7).half) ∧
    1 ≤ (sining.dev.sti 15 7).mode ∧ (sining.dev.sti 15 7).mode ≤ 4 ∧ (sining.dev.sti 15 7).get STI_START_SEL = 0 ∧ (sining.dev.sti 15 7).get STI_STOP_SEL = 0 ∧
    Turn busy 15 63 ∧ (busy.dev.chan 1023).mode ≠ 7 := ⟨turn_of (by decide +kernel), by decide +kernel, by decide +kernel, by decide +kernel, by decide +kernel,
      by decide +kernel, turn_busy, by decide +kernel⟩

/-- G4 names the bank; `n` records wait in the cluster's queue. -/
def recording (n : Nat) : State := seq (Device.modCl 15 fun x => { x with records := List.replicate n ⟨0, 0, 0, 0, 0, [], none⟩ }) fun t => t.setG 4 0x2D00000
theorem witness_RecordInstr : Turn (recording 63) 15 63 ∧ ((recording 63).dev.thread 15 63).opnd (.imm 64) = 64 ∧
    ((recording 63).dev.thread 15 63).g 4 % 8 = 0 ∧ ((recording 63).dev.clus 15).records.length < 64 ∧
    (∃ d' ws, (recording 63).dev.readWords 15 0 8 (64 / 8) (((recording 63).dev.thread 15 63).g 4) = (d', ws, 0)) ∧
    Turn (recording 64) 15 63 ∧ 64 ≤ ((recording 64).dev.clus 15).records.length ∧ 64 < ((recording 63).dev.thread 15 63).opnd (.imm 72) :=
  ⟨turn_of (by decide +kernel), by decide +kernel, by decide +kernel, by decide +kernel, pair3r (by decide +kernel), turn_of (by decide +kernel),
    by decide +kernel, by decide +kernel⟩

/-! ### Streams, cells -/

/-- A stream of channel 1023 in bank 15: ring of 4096 B at offset 0, playing or not; G4 names a descriptor, G5 a header. -/
def streaming (play : Bool) : State := seq (fun d => (({ d with mem := memWrite 0x2D01010 1600 8 (memWrite 0x2D01008 0x1000 8 d.mem) } : Device)).modChan 1023 fun c =>
  { c.set CH_STSIZE_SIZE 4096 with stream := { c.stream with play := play } }) fun t => ((t.setG 4 0x2D01000).setG 5 (2 ^ 63)).setG 6 0x2D02000
theorem turn_streaming (b : Bool) : Turn (streaming b) 15 63 := by cases b <;> exact turn_of (by decide +kernel)
theorem witness_StreamInstr : Turn (streaming false) 15 63 ∧ 15 < 16 ∧ ((streaming false).dev.chan 1023).stream.play = false ∧
    ((streaming true).dev.chan 1023).stream.play = true ∧ ((streaming false).dev.thread 15 63).g 4 % 8 = 0 ∧
    (∃ d', (streaming false).dev.readWords 15 0 4 8 (((streaming false).dev.thread 15 63).g 4) = (d', [0, 0, 0x1000, 0, 1600, 0, 0, 0], 0)) ∧
    (0 % 4096 = 0 ∧ 0x1000 ≤ 262144 ∧ 1600 ≤ 1600 ∧ 1600 ≤ 5760000000000 ∧ 0 + 0x1000 ≤ 0x300000) :=
  ⟨turn_streaming false, by decide, by decide +kernel, by decide +kernel, by decide +kernel,
    pair (by decide +kernel), by decide⟩
theorem witness_StreamJump : Turn (streaming true) 15 63 ∧ Turn (streaming false) 15 63 := ⟨turn_streaming true, turn_streaming false⟩
theorem witness_SegmentInstr : Turn (streaming false) 15 63 ∧ 
    (let t := (streaming false).dev.thread 15 63
      let x := (streaming false).dev.chan 1023
      x.segOk (t.g 4) 0 = false ∧ x.segOk (t.g 5) 0 = true ∧ t.opnd (.imm 0) < 1 ∧ 4096 < t.opnd (.imm 4097) ∧ x.segOk (t.g 5) 512 = false ∧
      x.segOk (t.g 5) 2 = true ∧ t.g 6 % 8 = 0) ∧
    (∃ d1, (streaming false).dev.ringStore 1023 15 (((streaming false).dev.chan 1023).get CH_STWR_IDX) [((streaming false).dev.thread 15 63).g 5] = (d1, 0)) ∧
    (∃ d1 vs, (streaming false).dev.readWords 15 0 8 2 (((streaming false).dev.thread 15 63).g 6) = (d1, vs, 0) ∧
        ∃ d2, d1.ringStore 1023 15 (((streaming false).dev.chan 1023).get CH_STWR_IDX) (((streaming false).dev.thread 15 63).g 5 :: vs) = (d2, 0)) :=
  ⟨turn_streaming false, by decide +kernel, pair2 (by decide +kernel),
    pairP (p := fun (d1 : Device) (vs : List Nat) => ∃ d2, d1.ringStore 1023 15 (((streaming false).dev.chan 1023).get CH_STWR_IDX) (((streaming false).dev.thread 15 63).g 5 :: vs) = (d2, 0))
      (by decide +kernel) (pair2 (by decide +kernel))⟩

/-- The cell table and motion enabled over a trained DDR5 array; G4 names an image of cell 77, G5 holds 77, G6 an MSORT block, G7 a carrier. -/
def cells (f : Device → Device) : State := seq (fun d =>
    let d := opened 33 17 (opened 33 20 (d.ddrTrained 0 1 false false false))
    let d := (((d.setB CT_CTL_EN true).setB MOT_CTL_EN true).set CT_BASE_ADDR 0x1000000000).set CT_CMBASE_ADDR 0x1010000000
    f { d with mem := memWrite 0x2D00428 20 8 (memWrite 0x2D00430 10 8 (memWrite 0x2D00400 77 8 (memWrite 0x2D00000 77 8 d.mem))) })
  fun t => (((t.setG 4 0x2D00000).setG 5 77).setG 6 0x2D00400).setG 7 5
/-- Cell 77 in the cell cache, a leaf of it in the open batch, and carrier 5 bound to it. -/
def filled : State := cells fun d =>
  { d with
    mem := memWrite 0x1010000050 (5 + 2 ^ 63 + 77 * 2 ^ 64) 16 (memWrite (0x3800000 + 13996 % 1024 * 4 * 1024) 77 8 d.mem)
    ct := { d.ct with lines := [{ way := 0, bucket := 13996, dirty := true }], leaves := [{ handle := 111968, upd := 0, digest := [] }] } }
theorem turn_filled : Turn filled 15 63 := turn_of (by decide +kernel)
theorem witness_MotionCells : Turn filled 15 63 ∧ (15 < 16 ∧ 3 < 4 ∧ 2 < 4 ∧ 4 < 8) ∧ filled.dev.on CT_STAT_RECOUNT = false ∧ filled.dev.on CT_CTL_EN = true ∧
    ((filled.dev.thread 15 63).opnd (.reg 4) < 2 ^ 40 ∧ (filled.dev.thread 15 63).opnd (.reg 4) % 8 = 0 ∧ 77 = (filled.dev.thread 15 63).g 5 ∧ badId 77 = false) ∧
    (filled.dev.mot.slots.any fun q => q.owner.isSome) = false ∧ filled.dev.ct.leaves.isEmpty = false ∧ filled.dev.ct.closed.length < 4 ∧
    (filled.dev.mwin 1023 5 100 (3 + 4 * 2 + 16 + 32 * 4)).2 % 256 = 0 := ⟨turn_filled, by decide +kernel⟩
theorem witness_MotionCells_found : (filled.dev.ctFind 77).2 = (0, some 111968) ∧ ((filled.dev.ctFind 77).1.ctRead 111968).2.1 = 0 ∧
    (((filled.dev.ctFind 77).1.ctRead 111968).1.storeImage 15 16 0x2D00000 77).2 = 0 := by decide +kernel
theorem witness_MotionCells_carrier : (filled.dev.carrierCell ((filled.dev.thread 15 63).g 7)).2 = (0, some 77) := by decide +kernel

/-- The device after the 16 words of the image, and after the 8 words of the block, have been read; and the number they make. -/
def imageRead (s : State) : Device := (s.dev.readWords 15 0 8 16 0x2D00000).1
def blockRead (s : State) : Device := (s.dev.readWords 15 0 8 8 0x2D00400).1
def imageOf (s : State) (n a : Nat) : Nat := ofBytes ((s.dev.readWords 15 0 8 n a).2.1.flatMap (toBytes 8))
/-- An operation of the table ends without error and leaves the thread as it was. -/
def updOk (s : State) (op : Nat) : Bool :=
  let x := (imageRead s).ctUpd op (imageOf s 16 0x2D00000) 0
  decide (x.2.1 = 0 ∧ x.1.thread 15 63 = s.dev.thread 15 63 ∧ (x.1.clus 15).on SEQ_CTL_QUIESCE = false)
/-- The same table disabled. -/
def idleCells : State := cells fun d => d.setB CT_CTL_EN false
theorem turn_idleCells : Turn idleCells 15 63 := turn_of (by decide +kernel)
theorem witness_CellUpdates : Turn filled 15 63 ∧ filled.dev.on CT_STAT_RECOUNT = false ∧ (filled.dev.thread 15 63).g 4 % 8 = 0 ∧
    (filled.dev.readWords 15 0 8 16 ((filled.dev.thread 15 63).g 4)).2.2 = 0 ∧ updOk filled 1 = true := ⟨turn_filled, by decide +kernel⟩
theorem witness_CellUpdates_all : Turn idleCells 15 63 ∧ (idleCells.dev.readWords 15 0 8 16 ((idleCells.dev.thread 15 63).g 4)).2.2 = 0 ∧
    ∀ op ∈ [0, 1, 2, 3], updOk idleCells op = true := ⟨turn_idleCells, by decide +kernel⟩
/-- An MSORT of a carrier without a cell: it starts, and it ends with NOMAP. -/
def sortOk (s : State) : Bool :=
  let x := (blockRead s).msortStart 1023 (imageOf s 8 0x2D00400)
  decide (x.2 = 0) && match x.1.mot.slots.find? fun q => q.owner == some 1023 with
    | some q => let y := x.1.msortFinish 1023 q
      decide (y.2.1 = 0 ∧ y.1.thread 15 63 = s.dev.thread 15 63 ∧ (y.1.clus 15).on SEQ_CTL_QUIESCE = false)
    | none => false
/-- The same with no cell named in the block. -/
def noCell : State := cells fun d => { d with mem := memWrite 0x2D00400 0 8 d.mem }
theorem witness_CellUpdates_msort : Turn noCell 15 63 ∧ (noCell.dev.readWords 15 0 8 8 ((noCell.dev.thread 15 63).g 6)).2.2 = 0 ∧
    (noCell.dev.mot.slots.find? fun q => q.owner == some 1023) = none ∧ sortOk noCell = true := ⟨turn_of (by decide +kernel), by decide +kernel⟩

/-! ### Registers -/

theorem witness_RegisterWrites : (15 < 16 ∧ 63 < 64 ∧ 511 < 512 ∧ reservedSource 511 = false ∧ 2 ^ 32 - 1 < 2 ^ 32) ∧
    Granted State.reset 35 1 (devAddr (0x41000 + 4 * 511)) ∧ Granted State.reset 35 1 (clAddr 15 0x31008) ∧
    Granted State.reset 35 1 (thrAddr 15 63 (0x40 + 8 * 15)) ∧ Granted State.reset 35 1 (thrAddr 15 63 (0x40 + 8 * 15) + 4) ∧
    (State.reset.dev.thread 15 63).state = 0 ∧ Granted State.reset 35 1 (devAddr 4) :=
  ⟨by decide, granted_of (by decide +kernel), granted_of (by decide +kernel), granted_of (by decide +kernel), granted_of (by decide +kernel),
    by decide +kernel, granted_of (by decide +kernel)⟩
/-- The Lamplighter has written the low word of G15. -/
def halfWritten : State := st fun d => { d with held := [(35, thrAddr 15 63 (0x40 + 8 * 15), 5)] }
theorem witness_RegisterWrites_high : Granted halfWritten 35 1 (thrAddr 15 63 (0x40 + 8 * 15) + 4) ∧
    findWord 35 (thrAddr 15 63 (0x40 + 8 * 15)) halfWritten.dev.held = some 5 ∧ 5 < 2 ^ 32 := ⟨granted_of (by decide +kernel), by decide +kernel, by decide⟩
theorem witness_RegisterReads : (15 < 16 ∧ 63 < 64 ∧ 1023 < 1024) ∧ Granted State.reset 35 0 (devAddr 0x10008) ∧ Granted State.reset 35 0 (thrAddr 15 63 0x1C) ∧
    Granted State.reset 35 0 (chAddr 1023 0x110) ∧ Granted State.reset 35 0 (chAddr 1023 0x120) ∧ Granted State.reset 35 0 (chAddr 1023 0x200) ∧
    Granted (st (Device.modChan 1023 fun c => { c with fifo := [⟨3, true, true, true, true, true, 9⟩] })) 35 0 (chAddr 1023 0x1A0) :=
  ⟨by decide, granted_of (by decide +kernel), granted_of (by decide +kernel), granted_of (by decide +kernel), granted_of (by decide +kernel),
    granted_of (by decide +kernel), granted_of (by decide +kernel)⟩
theorem witness_RefusedAccess : State.reset.powered ∧ targetOf 0x40000000 = some 21 ∧ State.reset.dev.regRefused 36 1 0x40000000 = true ∧
    State.reset.dev.regRefused 35 1 0x40FFFFFC = true := ⟨rfl, by decide +kernel⟩

/-! ### Resets and power -/

/-- The core off, with the Pilot domain on and a cause of the last power-fail. -/
def offState (cause : Nat) (pilot : Bool) : State := st fun d => { d.set DEV_PWRFAIL_LAST_CAUSE cause with pw := { d.pw with phase := 0, pilot := pilot } }
/-- RESET_N held low after a cold or a warm start. -/
def heldLow (cold : Bool) : State := st fun d => { d with pw := { d.pw with phase := 1, pilot := true, rstLow := true, cold := cold } }
theorem witness_Resets : (∀ c ∈ [0, 1, 3], let d := (offState c true).dev
      d.pw.phase = 0 ∧ d.pw.pilot = true ∧ d.pw.rstLow = false ∧ d.get DEV_PWRFAIL_LAST_CAUSE = c ∧ d.get DEV_PWRFAIL_LAST_CAUSE ≠ 2) ∧
    ((offState 2 true).dev.get DEV_PWRFAIL_LAST_CAUSE = 2) ∧ (State.reset.dev.pw.phase = 2 ∧ State.reset.dev.pw.failAt = none) ∧
    (∀ b, (heldLow b).dev.pw.phase = 1 ∧ (heldLow b).dev.pw.cold = b ∧ (heldLow b).dev.pw.pilot = true) := by decide +kernel
theorem witness_WarmResets : State.reset.powered ∧ Granted State.reset 35 1 (devAddr 0xC) ∧ 0 % 256 ≠ 0xA5 := ⟨rfl, granted_of (by decide +kernel), by decide⟩
theorem witness_PowerFail : (State.reset.dev.pw.phase ≠ 0 ∧ State.reset.dev.pw.failAt = none) ∧
    (∃ s : State, s.dev.pw.failAt = some 0 ∧ 0 + 2 * usLen ≤ s.dev.dt) ∧ (offState 0 false).dev.pw.phase = 0 ∧ (offState 0 false).dev.pw.pilot = false :=
  ⟨by decide +kernel, ⟨st fun d => { d with dt := 2 * usLen, pw := { d.pw with failAt := some 0 } }, by decide +kernel⟩, by decide +kernel⟩

/-- Reset with device fields set. -/
def setting (xs : List (Fld × Nat)) (f : Device → Device) : State := st fun d => f (xs.foldl (fun d x => d.set x.1 x.2) d)

theorem witness_Supplies : State.reset.powered ∧ 1023 < 1024 ∧ 2 ^ 16 - 1 < 2 ^ 16 ∧ 2 ^ 13 - 1 < 2 ^ 13 ∧ State.reset.dev.hot = false ∧
    (∃ t ∈ ([115, 20] : List Int), 115 ≤ t) ∧ State.reset.dev.pw.failAt = none ∧ (∃ t ∈ ([125] : List Int), 125 ≤ t) ∧
    (st fun d => { d with hot := true }).powered ∧ (st fun d => { d with hot := true }).dev.hot = true ∧ ∀ t ∈ ([114] : List Int), t < 115 := by
  refine ⟨rfl, by decide +kernel, by decide +kernel, by decide +kernel, by decide +kernel, ⟨115, by decide⟩, by decide +kernel, ⟨125, by decide⟩, ?_⟩
  exact ⟨show _ = 2 by decide +kernel, by decide +kernel⟩
/-- Boot at its last step before READY, DT running, the role fixed. -/
def booting (told : Bool) : State := setting [(SEC_BOOT_STATE, 6), (TB_STAT_DT_VALID, 1)] fun d => { d with roleDone := true, pw := { d.pw with told := told } }
theorem powered_of {s : State} (h : s.dev.pw.phase = 2) : s.powered := h
theorem witness_BootEnds : (booting true).powered ∧ (let d := (booting true).dev;
    1 ≤ d.get SEC_BOOT_STATE ∧ d.get SEC_BOOT_STATE ≤ 6 ∧ d.on TB_STAT_DT_VALID = true ∧ d.roleDone = true ∧ d.pw.told = true) :=
  ⟨powered_of (by decide +kernel), by decide +kernel⟩
theorem witness_Wear : State.reset.powered ∧ 0 < 2 ^ HLT_OVEN_DUTY.width ∧ 1023 < 1024 ∧ 0 < 1 ∧ 2 ^ 16 - 1 < 2 ^ 16 ∧ State.reset.dev.on HLT_STAT_OVENOK = false ∧
    Granted State.reset 35 1 (devAddr 0x70028) ∧ (let s := setting [(HLT_CTL_EN, 1)] fun d => { d with dt := 3600 * 204800000000 };
      s.powered ∧ s.dev.on HLT_CTL_EN = true ∧ s.dev.health.at_ + 3600 * 204800000000 ≤ s.dev.dt) :=
  ⟨rfl, by decide +kernel, by decide, by decide, by decide, by decide +kernel, granted_of (by decide +kernel), powered_of (by decide +kernel), by decide +kernel⟩
/-- Comparator `j` enabled with safe-off, and tripped or not; the core in RUN. -/
def comparing (j : Nat) (tripped : Bool) : State :=
  setting [(DEV_PSTATE_STATE, 1), (PIL_CMP_EN j, 1), (PIL_CMP_SAFE j, 1), (PIL_CMP_TRIPPED j, b2n tripped), (DEV_SNFSRC_SMOKE_EN, 1), (DEV_SNFSRC_DOOR_EN, 1)] id
theorem witness_SafeOff : (∀ j ∈ [0, 4, 5, 7], let d := (comparing j false).dev
      j < 8 ∧ d.pw.phase = 2 ∧ d.get DEV_PSTATE_STATE ≠ 3 ∧ d.pw.pilot = true ∧ d.on (PIL_CMP_EN j) = true ∧ d.on (PIL_CMP_TRIPPED j) = false ∧ d.on (PIL_CMP_SAFE j) = true ∧
        d.on DEV_SNFSRC_SMOKE_EN = true ∧ d.on DEV_SNFSRC_DOOR_EN = true) ∧
    ((comparing 7 true).dev.pw.pilot = true ∧ (comparing 7 true).dev.on (PIL_CMP_TRIPPED 7) = true ∧
      ∀ i, i < 8 → i ≠ 7 → (comparing 7 true).dev.on (PIL_CMP_TRIPPED i) = true → (comparing 7 true).dev.on (PIL_CMP_SAFE i) = false) := by decide +kernel
/-- Nothing forces safe-off. -/
def permitted : State := setting [(PIL_SAFECTL_FORCE, 0)] id
theorem witness_SafeOff_permit : Granted permitted 35 1 (devAddr 0x80040) ∧ permitted.dev.get PIL_SAFECTL_FORCE = 0 ∧ permitted.dev.on PIL_SAFECTL_CONDUCT = false ∧
    Granted State.reset 35 1 (devAddr 0x80040) ∧ State.reset.dev.get PIL_SAFECTL_FORCE ≠ 0 :=
  ⟨granted_of (by decide +kernel), by decide +kernel, by decide +kernel, granted_of (by decide +kernel), by decide +kernel⟩

/-- The core in a power state with other fields. -/
def inState (p : Nat) (xs : List (Fld × Nat)) : State := setting ((DEV_PSTATE_STATE, p) :: xs) id
theorem witness_HoldAndRun : Granted (inState 1 []) 35 1 (devAddr 0xC) ∧ (inState 1 []).dev.get DEV_PSTATE_STATE = 1 ∧
    Granted (inState 2 [(DEV_POS_ROLE, 2), (BCN_STAT_MEMBERS, 1)]) 35 1 (devAddr 0xC) ∧ Granted (inState 2 [(CT_STAT_FLUSHBUSY, 1)]) 35 1 (devAddr 0xC) ∧
    Granted (inState 2 [(PIL_WAKECFG_ETH, 0)]) 35 1 (devAddr 0xC) :=
  ⟨granted_of (by decide +kernel), by decide +kernel, granted_of (by decide +kernel), granted_of (by decide +kernel), granted_of (by decide +kernel)⟩
theorem witness_HoldAndRun_values : (let d := (inState 2 [(DEV_POS_ROLE, 2), (BCN_STAT_MEMBERS, 1)]).dev;
      d.get DEV_PSTATE_STATE = 2 ∧ d.get DEV_POS_ROLE = 2 ∧ d.get BCN_STAT_MEMBERS ≠ 0) ∧
    (let d := (inState 2 [(CT_STAT_FLUSHBUSY, 1)]).dev;
      d.get DEV_PSTATE_STATE = 2 ∧ d.get DEV_POS_ROLE ≠ 2 ∧ (d.sec.op ≠ 0 ∨ d.sec.setup ≠ none ∨ d.on CT_STAT_FLUSHBUSY = true)) ∧
    (let d := (inState 2 [(PIL_WAKECFG_ETH, 0)]).dev;
      d.get DEV_PSTATE_STATE = 2 ∧ d.get DEV_POS_ROLE ≠ 2 ∧ d.sec.op = 0 ∧ d.sec.setup = none ∧ d.on CT_STAT_FLUSHBUSY = false ∧
      d.on PIL_WAKECFG_TIMER = false ∧ d.on PIL_WAKECFG_CMP = false ∧ d.on PIL_WAKECFG_ETH = false) := by decide +kernel
/-- The core in DOZE with a session of slot 3 and the wake timer due. -/
def dozing : State := setting [(DEV_PSTATE_STATE, 3), (PIL_WAKECFG_ETH, 1), (PIL_WAKECFG_ETHPORT, 1), (PIL_WAKECFG_TIMER, 1), (PIL_WAKEAT_TICKS, 5), (PIL_TIME_TICKS, 5)] fun d =>
  { d with pw := { d.pw with phase := 3 }, sess := d.sess.modify 3 fun x => { x with open_ := true } }
theorem witness_Doze : Granted (inState 2 [(PIL_WAKECFG_ETH, 1), (PIL_SAFECTL_DOZEOFF, 1)]) 35 1 (devAddr 0xC) ∧
    (let d := (inState 2 [(PIL_WAKECFG_ETH, 1), (PIL_SAFECTL_DOZEOFF, 1)]).dev;
      d.get DEV_PSTATE_STATE = 2 ∧ d.get DEV_POS_ROLE ≠ 2 ∧ d.sec.op = 0 ∧ d.sec.setup = none ∧ d.on CT_STAT_FLUSHBUSY = false ∧ d.on PIL_WAKECFG_ETH = true ∧
      d.on PIL_SAFECTL_DOZEOFF = true) ∧
    (inState 3 [(DDR_STAT_AVAIL, 1)]).powered ∧ (let d := (inState 3 [(DDR_STAT_AVAIL, 1)]).dev;
      d.get DEV_PSTATE_STATE = 3 ∧ d.lanes = 0 ∧ d.on CT_STAT_FLUSHBUSY = false ∧ d.pw.wake = 0 ∧ d.on DDR_STAT_AVAIL = true) ∧
    (let d := dozing.dev;
      d.pw.phase = 3 ∧ (d.sess.getD 3 {}).open_ = true ∧ d.get PIL_WAKECFG_ETHPORT = 1 ∧ d.on PIL_WAKECFG_ETH = true ∧
      d.get PIL_WAKEAT_TICKS ≤ d.get PIL_TIME_TICKS ∧ d.on PIL_WAKECFG_TIMER = true) ∧
    (inState 4 []).dev.pw.phase = 2 ∧ (inState 4 []).dev.get DEV_PSTATE_STATE = 4 :=
  ⟨granted_of (by decide +kernel), by decide +kernel, powered_of (by decide +kernel), by decide +kernel⟩
/-- Cluster 15 in a service state. -/
def serving (v : Nat) : State := st fun d => (d.setClState 15 v).set DEV_PSTATE_STATE 1
theorem witness_ClusterService : (15 < 16 ∧ 3 < 4) ∧ Granted (serving 0) 35 1 (devAddr 0xC) ∧ (serving 0).dev.clState 15 = 0 ∧
    Granted (serving 1) 35 1 (devAddr 0xC) ∧ (serving 1).dev.clState 15 = 1 ∧ (serving 2).powered ∧ (serving 2).dev.clState 15 = 2 ∧
    (serving 2).dev.get DEV_PSTATE_STATE ≠ 0 ∧ ((serving 2).dev.clus 15).failed = 0 ∧ (serving 3).powered ∧ (serving 3).dev.clState 15 = 3 ∧
    ((serving 3).dev.get DEV_POS_ROLE = 0 → (serving 3).dev.dt % msLen = 0) ∧
    (setting [(FEF_TTSTAT_TRUSTED 3, 1)] id).dev.on (FEF_TTSTAT_TRUSTED 3) = true ∧ Granted (setting [(FEF_TTSTAT_TRUSTED 3, 1)] id) 35 1 (devAddr 0xC) :=
  ⟨by decide, granted_of (by decide +kernel), by decide +kernel, granted_of (by decide +kernel), by decide +kernel, powered_of (by decide +kernel), by decide +kernel,
    by decide +kernel, by decide +kernel, powered_of (by decide +kernel), by decide +kernel, by decide +kernel, by decide +kernel, granted_of (by decide +kernel)⟩

/-! ### Timebase and Beacon -/

/-- The reference input qualified; DT not yet valid. -/
def qualified : State := setting [(TB_REFIN_QUAL, 1), (TB_REFIN_PRESENT, 1)] id
/-- Locked to REF_IN, every island locked. -/
def onReference : State := setting [(TB_STAT_SRC, 1), (TB_REFIN_QUAL, 1), (TB_ISLOCK_LOCK, 2 ^ 25 - 1)] fun d => { d with tb := { d.tb with pullIn := some 3 } }
theorem witness_TimebaseRuns : State.reset.powered ∧ (1 ≤ 25 ∧ 25 ≤ 25) ∧ qualified.powered ∧ qualified.dev.refChoice = some 1 ∧ qualified.dev.tb.locked = false ∧
    (State.reset.dev.tb.locked = false ∧ State.reset.dev.on TB_STAT_DT_VALID = false ∧ State.reset.dev.refChoice = none) ∧
    onReference.powered ∧ onReference.dev.get TB_STAT_SRC = 1 ∧ onReference.dev.tb.pullIn = some 3 ∧ 3 < 4 ∧
    (∀ i ∈ [1, 9, 25], bit (onReference.dev.get TB_ISLOCK_LOCK) (i - 1) = true) ∧ 1023 / 128 + 2 = 9 :=
  ⟨rfl, by decide, powered_of (by decide +kernel), by decide +kernel, by decide +kernel, by decide +kernel, powered_of (by decide +kernel), by decide +kernel⟩
/-- The low word of TB_DTSET written. -/
def setTime (role : Nat) : State := setting [(DEV_POS_ROLE, role)] fun d => { d with held := [(35, devAddr 0x10010, 2 ^ 32 - 1)] }
theorem witness_TimeSetAndPace : (∀ r ∈ [0, 1, 2], findWord 35 (devAddr 0x10010) (setTime r).dev.held = some (2 ^ 32 - 1) ∧ (setTime r).dev.get DEV_POS_ROLE = r) ∧
    (setTime 0).dev.idle = true ∧ Granted (setTime 0) 35 1 (devAddr 0x10014) ∧ Granted (setTime 1) 35 1 (devAddr 0x10014) ∧ Granted (setTime 2) 35 1 (devAddr 0x10014) ∧
    (let s := setting [(DEV_PACE_CTL_LIM, 5), (DEV_PACE_CTL_EVT_EN, 1), (DEV_CLSVC_STATE, 0)] fun d => { d with dt := msLen };
      s.powered ∧ (s.dev.clus 15).paceAt + msLen ≤ s.dev.dt ∧ s.dev.clState 15 = 0 ∧ s.dev.on DEV_PACE_CTL_EVT_EN = true) :=
  ⟨by decide +kernel, by decide +kernel, granted_of (by decide +kernel), granted_of (by decide +kernel), granted_of (by decide +kernel),
    powered_of (by decide +kernel), by decide +kernel⟩
theorem witness_Roles : 3 < 4 ∧ State.reset.powered ∧ State.reset.dev.roleDone = false ∧ (st fun d => { d with roleDone := true, roleDirty := true }).powered ∧
    (st fun d => { d with roleDone := true, roleDirty := true }).dev.roleDone = true ∧ (st fun d => { d with roleDone := true, roleDirty := true }).dev.roleDirty = true ∧
    Granted State.reset 35 1 (devAddr 0x20000) ∧ State.reset.dev.on DEV_CTL_LOCK = false ∧ Granted (setting [(DEV_CTL_LOCK, 1)] id) 35 1 (devAddr 0x20000) ∧
    (setting [(DEV_CTL_LOCK, 1)] id).dev.on DEV_CTL_LOCK = true :=
  ⟨by decide, rfl, by decide +kernel, powered_of (by decide +kernel), by decide +kernel, by decide +kernel, granted_of (by decide +kernel), by decide +kernel,
    granted_of (by decide +kernel), by decide +kernel⟩
theorem served_of {s : State} (h : s.dev.pw.phase = 2 ∧ s.dev.pw.failAt = none) : s.served := h
/-- A Beacon member at position 5. -/
def member (xs : List (Fld × Nat)) (dt : Nat) (f : Beacon → Beacon) : State :=
  setting ((DEV_POS_ROLE, 1) :: xs) fun d => { d with dt := dt, bcn := f d.bcn }
def alignedMember : State := member [(DEV_POS_VALID, 1), (DEV_POS_DEVICE, 5), (BCN_STAT_CAL_DONE, 1), (BCN_STAT_ALIGNED, 1), (BCN_STAT_MSG_LOCK, 1), (BCN_STAT_CLK_LOCK, 1),
  (TB_STAT_SRC, 2), (BCN_CTL_ESTOP_ON_LOSS, 1)] (10 * usLen) id
theorem witness_BeaconMember : (member [] 0 id).served ∧ (member [] 0 id).dev.get DEV_POS_ROLE = 1 ∧ 2 ^ BCN_DELAY_D.width - 1 < 2 ^ BCN_DELAY_D.width ∧
    (1 ≤ 15 ∧ 15 ≤ 15) ∧ (member [] 0 id).dev.on DEV_POS_VALID = false ∧ (member [] 0 id).dev.on BCN_STAT_ALIGNED = false ∧ alignedMember.served ∧
    (let d := alignedMember.dev;
      d.get DEV_POS_ROLE = 1 ∧ (d.on DEV_POS_VALID = true ∧ d.get DEV_POS_DEVICE = 5) ∧ d.on BCN_STAT_CAL_DONE = true ∧ d.on BCN_STAT_ALIGNED = true ∧
      64 < ((65 : Int) + (d.get BCN_DELAY_D : Int) - 0).natAbs ∧ d.dt ≤ 10 * usLen ∧ 0 < d.dt ∧
      d.on BCN_STAT_MSG_LOCK = true ∧ d.bcn.lastFrame + 10 * usLen ≤ d.dt ∧ d.on BCN_CTL_ESTOP_ON_LOSS = true ∧ d.on BCN_STAT_CLK_LOCK = true ∧ d.get TB_STAT_SRC = 2) :=
  ⟨served_of (by decide +kernel), by decide +kernel, by decide +kernel, by decide, by decide +kernel, by decide +kernel, served_of (by decide +kernel), by decide +kernel⟩
theorem witness_BeaconMember_upstream : (let s := member [(BCN_STAT_ALIGNED, 1)] (14 * usLen / 10) fun b => { b with reply := some (5, 0x81, 6), upEstop := some 7 };
      s.served ∧ s.dev.get DEV_POS_ROLE = 1 ∧ s.dev.bcn.reply = some (5, 0x81, 6) ∧ 5 ≤ s.dev.dt ∧ s.dev.bcn.upEstop = some 7 ∧ s.dev.on BCN_STAT_ALIGNED = true ∧
      14 * usLen ≤ 10 * ((s.dev.dt + s.dev.get BCN_DELAY_D) % (2 * usLen)) ∧ 10 * ((s.dev.dt + s.dev.get BCN_DELAY_D) % (2 * usLen)) < 14 * usLen + 1280) ∧
    (let s := member [(BCN_STAT_ALIGNED, 1)] (16 * usLen / 10) fun b => { b with upQ := [(0x85, 9)] };
      s.served ∧ s.dev.bcn.upQ = [(0x85, 9)] ∧
      16 * usLen ≤ 10 * ((s.dev.dt + s.dev.get BCN_DELAY_D) % (2 * usLen)) ∧ 10 * ((s.dev.dt + s.dev.get BCN_DELAY_D) % (2 * usLen)) < 16 * usLen + 1280) :=
  ⟨⟨served_of (by decide +kernel), by decide +kernel⟩, served_of (by decide +kernel), by decide +kernel⟩
/-- The shelf master. -/
def master (xs : List (Fld × Nat)) (dt : Nat) (f : Beacon → Beacon) : State := setting ((DEV_POS_ROLE, 2) :: xs) fun d => { d with dt := dt, bcn := f d.bcn }
theorem witness_BeaconMaster : (master [(BCN_CTL_EPOCH_EN, 1), (BCN_STAT_MEMBERS, 3)] (2 * usLen * 1000000) id).served ∧
    (let s := master [(BCN_CTL_EPOCH_EN, 1), (BCN_STAT_MEMBERS, 3)] (2 * usLen * 1000000) id;
      s.dev.get DEV_POS_ROLE = 2 ∧ s.dev.dt % (2 * usLen) = 0 ∧ s.dev.bcn.hush ≠ 2 ∧ s.dev.bcn.downQ = [] ∧ s.dev.bcn.enumPos = none ∧ s.dev.bcn.cal = none ∧
      s.dev.on BCN_CTL_EPOCH_EN = true ∧ s.dev.bcn.epochAt + max 10 (s.dev.get BCN_EPOCHPER_MS) * msLen ≤ s.dev.dt ∧ s.dev.get BCN_STAT_MEMBERS ≠ 0) ∧
    Granted (master [(BCN_STAT_MEMBERS, 3)] 0 id) 35 1 (devAddr 0x2000C) ∧ Granted (master [] 0 id) 35 1 (devAddr 0x20020) :=
  ⟨served_of (by decide +kernel), by decide +kernel, granted_of (by decide +kernel), granted_of (by decide +kernel)⟩
theorem witness_BeaconMaster_cycles : (let s := master [] 0 fun b => { b with downQ := [{ typ := 4 }] };
      s.served ∧ s.dev.dt % (2 * usLen) = 0 ∧ s.dev.bcn.hush ≠ 2 ∧ s.dev.bcn.downQ = [{ typ := 4 }]) ∧
    (let s := master [] (128 * usLen) fun b => { b with enumPos := some 14 };
      s.served ∧ s.dev.bcn.hush = 0 ∧ s.dev.bcn.downQ = [] ∧ s.dev.bcn.enumPos = some 14 ∧ s.dev.bcn.offeredAt = none) ∧
    (let s := master [] 0 fun b => { b with hush := 2 }; s.served ∧ s.dev.bcn.hush = 2) ∧
    (let s := master [] (128 * usLen) fun b => { b with enumPos := some 14, offeredAt := some 0, found := 13 };
      s.served ∧ s.dev.bcn.enumPos = some 14 ∧ s.dev.bcn.offeredAt = some 0 ∧ 14 < 15 ∧ 0 + 128 * usLen ≤ s.dev.dt ∧ s.dev.bcn.found ≠ 0) ∧
    (let s := master [] 0 fun b => { b with enumPos := some 255, offeredAt := some 0 };
      s.served ∧ s.dev.bcn.enumPos = some 255 ∧ s.dev.bcn.offeredAt = some 0) ∧
    (let s := master [(BCN_STAT_MEMBERS, 2)] 0 fun b => { b with cal := some ⟨1, 255, 0⟩ };
      s.served ∧ s.dev.bcn.cal = some ⟨1, 255, 0⟩ ∧ 1 < s.dev.get BCN_STAT_MEMBERS) ∧
    (let s := master [] 0 fun b => { b with cal := some ⟨15, 254, 0⟩ }; s.served ∧ s.dev.bcn.cal = some ⟨15, 254, 0⟩ ∧ 254 < 255) :=
  ⟨⟨served_of (by decide +kernel), by decide +kernel⟩, ⟨served_of (by decide +kernel), by decide +kernel⟩, ⟨served_of (by decide +kernel), by decide +kernel⟩,
    ⟨served_of (by decide +kernel), by decide +kernel⟩, ⟨served_of (by decide +kernel), by decide +kernel⟩, ⟨served_of (by decide +kernel), by decide +kernel⟩,
    ⟨served_of (by decide +kernel), by decide +kernel⟩⟩

/-! ### Fefitil, Tapers, calibration -/

/-- Execute-at messages waiting at the device. -/
def execAt (x : BExec) (dt : Nat) : State := st fun d => { d with dt := dt, bcn := { d.bcn with execs := [x] } }
theorem witness_BeaconActs : ∀ k ∈ [0, 1, 2], (execAt ⟨k, 3, 1, 8190⟩ 8192).dev.pw.phase = 2 ∧ (execAt ⟨k, 3, 1, 8190⟩ 8192).dev.pw.failAt = none ∧
    (execAt ⟨k, 3, 1, 8190⟩ 8192).dev.bcn.execs = [⟨k, 3, 1, 8190⟩] ∧ 8190 ≤ (execAt ⟨k, 3, 1, 8190⟩ 8192).dev.dt ∧ boundaryAt 8190 ≤ (execAt ⟨k, 3, 1, 8190⟩ 8192).dev.dt := by
  decide +kernel
/-- Link 3 locked with what it sent and received. -/
def linked (xs : List (Fld × Nat)) (dt : Nat) (f : FefLink → FefLink) : State :=
  setting ((FEF_TTSTAT_LOCK 3, 1) :: (FEF_EVCTL_RX 3, 1) :: xs) fun d => { d with dt := dt, fef := d.fef.modify 3 f }
theorem witness_Fefitil : (linked [] 0 id).powered ∧ 3 < 4 ∧ 0 < 2 ^ TB_WALLUNC_NS.width ∧
    (let d := (linked [] 0 id).dev;
      d.on (FEF_TTSTAT_LOCK 3) = true ∧ (d.flink 3).unclean < 3 ∧ (d.flink 3).hist = [] ∧ d.on (FEF_EVCTL_RX 3) = true ∧
      d.evSeen.contains (5, 6) = false ∧ d.get DEV_POS_ROLE = 0 ∧ d.dt + 2 * usLen ≤ 2 * usLen ∧ d.on (FEF_TTSTAT_TRUSTED 3) = false) ∧
    (let d := (linked [(DEV_POS_ROLE, 2), (FEF_TTSTAT_TRUSTED 3, 1)] 0 fun x => { x with unclean := 3 }).dev;
      d.get DEV_POS_ROLE = 2 ∧ alignUp (d.dt + 1) (2 * usLen) + 2 * usLen ≤ 4 * usLen ∧ 3 ≤ (d.flink 3).unclean ∧ d.on (FEF_TTSTAT_TRUSTED 3) = true) :=
  ⟨powered_of (by decide +kernel), by decide +kernel⟩
theorem witness_Fefitil_frames : (let d := (linked [] (10 * usLen) fun x => { x with tx := [⟨7, 1, [], 0, 7⟩] }).dev;
      d.pw.phase = 2 ∧ ∀ g ∈ (d.flink 3).tx.take 32, ¬ (g.sent + 10 * usLen ≤ d.dt ∧ 8 ≤ g.tries)) ∧
    (let d := (linked [] (10 * usLen) fun x => { x with tx := [⟨7, 1, [], 0, 8⟩] }).dev;
      ⟨7, 1, [], 0, 8⟩ ∈ (d.flink 3).tx.take 32 ∧ 0 + 10 * usLen ≤ d.dt) := by decide +kernel

/-- Chiplet 7 with its Taper running, islands locked, at DT `dt`. -/
def tapering (dt : Nat) (f : Afe → Afe) : State :=
  st fun d => (({ d with dt := dt } : Device).set TB_ISLOCK_LOCK (2 ^ 25 - 1)).modAfe 7 fun x => f ((x.setB AFE_TPRSTAT_RUN true).setB AFE_CTL_TPR_EN true)
/-- The nine stamps of a half-ramp of 1,250 frames whose taps are at their nominal voltages. -/
def goodStamps : List Nat := [0, 60, 120, 160, 200, 260, 320, 360, 400].map fun v => v * (1250 * 8192) / 416
theorem witness_Taper : (tapering 0 id).powered ∧ 7 < 8 ∧ (let d := (tapering 0 id).dev; let x := d.chip 7;
      d.dt % frameLen = 0 ∧ x.on AFE_TPRSTAT_RUN = true ∧ bit (d.get TB_ISLOCK_LOCK) (1 + 7) = true ∧ x.grid.gridPos (d.dt / frameLen) = 0 ∧
      x.stopping = false ∧ x.ramping = false ∧ x.committing = false) ∧
    (let d := (tapering (1250 * 8192) fun x => { x with ramping := true }).dev; let x := d.chip 7;
      d.dt % frameLen = 0 ∧ x.gridPos (d.dt / frameLen) = x.half ∧ 0 < x.half ∧ x.ramping = true ∧ x.committing = false ∧
      x.get AFE_TPRSTART_DT + x.half * frameLen ≤ d.dt ∧ x.lastEnd ≠ x.get AFE_TPRSTART_DT + x.half * frameLen ∧
      x.tapCheck goodStamps (x.on AFE_TPRSTAT_DIR) = true ∧ x.tapCheck [] (x.on AFE_TPRSTAT_DIR) = false ∧ x.badHalves ≠ 3) :=
  ⟨powered_of (by decide +kernel), by decide +kernel⟩
theorem witness_Taper_commands : Granted (tapering 0 id) 35 1 (afeAddr 7 0) ∧ Granted (tapering 0 id) 35 1 (afeAddr 7 4) ∧ Granted (tapering 0 id) 35 1 (afeAddr 7 8) ∧
    ((tapering 0 id).dev.chip 7).on AFE_CTL_TPR_EN = true ∧ (∀ n, n < 1024 → n / 128 = 7 → ((tapering 0 id).dev.chan n).on CH_SNFSTAT_EN = false) ∧
    (let s := st fun d => (d.modAfe 7 fun x => x.setB AFE_CTL_TPR_EN true).modChan 896 fun c => c.setB CH_SNFSTAT_EN true;
      Granted s 35 1 (afeAddr 7 0) ∧ (s.dev.chip 7).on AFE_CTL_TPR_EN = true ∧ (s.dev.chan (128 * 7)).on CH_SNFSTAT_EN = true) :=
  ⟨granted_of (by decide +kernel), granted_of (by decide +kernel), granted_of (by decide +kernel), by decide +kernel, by decide +kernel,
    granted_of (by decide +kernel), by decide +kernel⟩
theorem witness_Taper_ends : (let d := (tapering (1250 * 8192) fun x => { x.setB AFE_TPRSTAT_DIR true with ramping := true, staged := true }).dev; let x := d.chip 7;
      d.dt % frameLen = 0 ∧ x.on AFE_TPRSTAT_RUN = true ∧ x.staged = true ∧ x.ramping = true ∧ x.on AFE_TPRSTAT_DIR = true ∧ x.on AFE_TPRSTAT_RETIME = false ∧
      x.get AFE_TPRSTART_DT + x.half * frameLen ≤ d.dt) ∧
    (let d := (tapering (1250 * 8192) fun x => { x with ramping := true, badHalves := 3 }).dev; (d.chip 7).badHalves = 3 ∧ (d.chip 7).tapCheck [] false = false) ∧
    (let d := (tapering 0 fun x => { x with stopping := true }).dev; d.dt % frameLen = 0 ∧ (d.chip 7).stopping = true ∧ (d.chip 7).ramping = false) := by decide +kernel

theorem witness_Calibration : (tapering (60 * 60 * 204800000000) id).powered ∧ (7 < 8 ∧ 8 ≤ 8 ∧ 1023 < 1024) ∧
    (let x := (tapering (60 * 60 * 204800000000) id).dev.chip 7;
      x.roundAt + x.interval * 60 * 204800000000 ≤ 60 * 60 * 204800000000 ∧ x.on AFE_TPRSTAT_RUN = true ∧ x.trace = none ∧ x.roundQ = []) ∧
    Granted (tapering 0 id) 35 1 (afeAddr 7 0x64) ∧ (∀ b, b < 8 → ((tapering 0 id).dev.chip b).trace = none) ∧ Granted (tapering 0 id) 35 1 (afeAddr 7 0x80) :=
  ⟨powered_of (by decide +kernel), by decide +kernel, by decide +kernel, granted_of (by decide +kernel), by decide +kernel, granted_of (by decide +kernel)⟩
theorem witness_Calibration_traces : (let s := tapering 0 fun x => { x with trace := some (8, x.get AFE_TPRSTAT_HRCNT + 1) };
      Granted s 35 1 (afeAddr 7 0x64) ∧ (s.dev.chip 7).trace ≠ none ∧ (s.dev.chip 7).trace = some (8, (s.dev.chip 7).get AFE_TPRSTAT_HRCNT + 1) ∧
      (s.dev.chip 7).get AFE_TPRSTAT_HRCNT < 65535) ∧
    (let s := tapering (86400 * 204800000000) fun x => { x with candAt := some 0 }; s.powered ∧ (s.dev.chip 7).candAt = some 0 ∧ 0 + 86400 * 204800000000 ≤ s.dev.dt) :=
  ⟨⟨granted_of (by decide +kernel), by decide +kernel⟩, powered_of (by decide +kernel), by decide +kernel⟩
theorem witness_Calibration_loads : (∀ i : Bool, (let s := tapering 0 fun x => { x with roundQ := [(1023, i)], onBus := true };
      (s.dev.chip 7).roundQ = [(1023, i)] ∧ 1023 / 128 = 7 ∧ (s.dev.chip 7).onBus = true ∧ (s.dev.chip 7).boundary s.dev.dt = true)) ∧
    (let x := (tapering 0 id).dev.chip 7; let c := x.coefs (x.calTarget false false) 0 0 (200000000 * 2 ^ 32); coefOk c.1 c.2.1 c.2.2 = true) ∧
    (let x := (tapering 0 id).dev.chip 7; let c := x.coefs (x.calTarget false false) 0 0 1; coefOk c.1 c.2.1 c.2.2 = false) ∧
    spreadOver 0 65537 = true ∧ spreadOver 0 65536 = false ∧
    (∀ i : Bool, (let s := st fun d => (d.modAfe 7 fun x => x.setB AFE_SKSTAT_BUSY true).modChan 1023 fun c => { c with calI := true, calV := true };
      (if i then (s.dev.chan 1023).calI else (s.dev.chan 1023).calV) = true ∧ (s.dev.chip 7).on AFE_SKSTAT_BUSY = true)) ∧ roundDiv 6553615 32 = 204800 ∧ roundDiv (-16) 32 ≠ 0 := by decide +kernel

/-- Comparator 3 (I low) of channel 1023 enabled, on both edges, with or without its snuff. -/
def windowed (snf : Bool) (f : Chan → Chan) : State := st (Device.modChan 1023 fun c => f (((c.setB CH_IWCFG_LO_EN true).set CH_IWCFG_LO_EDGE 3).setB CH_IWCFG_LO_SNF snf))
theorem witness_Measurements : State.reset.powered ∧ (1023 < 1024 ∧ 3 < 4) ∧ 2 ≤ [1000, 2000].length ∧ ((tapering 0 fun x => { x with ramping := true }).dev.chip 7).held = false ∧
    (∀ b : Bool, (windowed b id).dev.pw.phase = 2 ∧ (let c := (windowed b id).dev.chan 1023;
      c.cmpEn 3 = true ∧ c.masked 3 = false ∧ c.tripped 3 = !true ∧ edgeSelects (c.cmpEdge 3) true = true ∧ c.fifo.length < 16 ∧ c.cmpSnf 3 = b)) ∧
    (State.reset.dev.chan 1023).cmpEn 3 = false ∧
    (∀ b : Bool, let c := (windowed b fun c => { c with masks := [none, none, none, some ⟨some 0, false⟩] }).dev.chan 1023;
      c.masks.getD 3 none = some ⟨some 0, false⟩ ∧ c.cmpEn 3 = true ∧ c.cmpSnf 3 = b ∧ c.fifo.length < 16) :=
  ⟨powered_of (by decide +kernel), by decide +kernel⟩
/-- Unit 7 of cluster 15 set up in mode 1 and changed by `f`. -/
def timing (dt : Nat) (f : Sti → Sti) : State := st fun d => ({ d with dt := dt } : Device).modSti 15 7 fun u => f (u.set STI_CTL_MODE 1)
theorem witness_Intervals : (15 < 16 ∧ 7 < 8) ∧ Granted (timing 0 id) 35 1 (stiAddr 15 7 0x10) ∧
    (let x := (timing 0 id).dev.sti 15 7; 1 ≤ x.mode ∧ x.mode ≤ 4 ∧ selClass (x.get STI_START_SEL) < 2 ∧ selClass (x.get STI_STOP_SEL) < 2) ∧
    Granted (timing 0 (Sti.set STI_START_SEL 65535)) 35 1 (stiAddr 15 7 0x10) ∧ 2 ≤ selClass (((timing 0 (Sti.set STI_START_SEL 65535)).dev.sti 15 7).get STI_START_SEL) ∧
    (let s := timing (2 * usLen) fun u => { u.setB STI_CTL_EVT true with armed := some 0, starts := [⟨5, 2, 0⟩], stops := [⟨9, 2, 0⟩] };
      s.powered ∧ (s.dev.sti 15 7).armed ≠ none ∧ (s.dev.sti 15 7).mode ≤ 2 ∧ (s.dev.sti 15 7).pair = some (⟨5, 2, 0⟩, ⟨9, 2, 0⟩) ∧ 5 + usLen ≤ s.dev.dt ∧ 9 + usLen ≤ s.dev.dt ∧
      (s.dev.sti 15 7).on STI_CTL_EVT = true) ∧
    (let s := timing (128 + usLen) fun u => { u.set STI_TMO_VAL 1 with armed := some 0 };
      s.powered ∧ (s.dev.sti 15 7).armed = some 0 ∧ (s.dev.sti 15 7).mode ≤ 2 ∧ (s.dev.sti 15 7).pair = none ∧ (s.dev.sti 15 7).get STI_TMO_VAL ≠ 0 ∧
      0 + (s.dev.sti 15 7).get STI_TMO_VAL * 128 + usLen ≤ s.dev.dt) :=
  ⟨by decide, granted_of (by decide +kernel), by decide +kernel, granted_of (by decide +kernel), by decide +kernel,
    ⟨powered_of (by decide +kernel), by decide +kernel⟩, powered_of (by decide +kernel), by decide +kernel⟩

/-! ### Motion and the cell table -/

/-- Motion enabled. -/
def moving (xs : List (Fld × Nat)) (f : Device → Device) : State := setting ((MOT_CTL_EN, 1) :: xs) f
theorem witness_MotionEdges : (moving [] id).powered ∧ (3 < 4 ∧ 1023 < 1024) ∧ (let d := (moving [] id).dev;
      d.on MOT_CTL_EN = true ∧ d.mot.ab < 4 ∧ (bit d.mot.ab 0 != true) = true ∧ (bit d.mot.ab 1 != true) = true ∧ (bit d.mot.ab 1 != false) = false ∧
      d.get MOT_CTL_FILT * 1024 ≤ 4096 ∧ 4095 < d.get MOT_CTL_FILT * 1024 ∧ d.on MOT_STAT_COAST = false ∧ true ≠ d.on MOT_CTL_ZPOL ∧ true ≠ d.on MOT_CTL_COASTPOL ∧
      d.on MOT_CTL_COASTEN = true ∧ d.mot.sched = []) ∧
    (moving [(MOT_CTL_ZRESET, 1)] id).dev.on MOT_CTL_ZRESET = true ∧
    (let s := moving [] fun d => { d with dt := 100 * usLen }; s.powered ∧ s.dev.mot.velAt + 100 * usLen ≤ s.dev.dt) ∧
    (let s := st (Device.modChan 1023 fun c => { (c.setB CH_MWSTAT_OPEN true).setB CH_SNFSTAT_EN true with wins := [⟨0, 9, true, some 3, true⟩] });
      s.powered ∧ (s.dev.chan 1023).on CH_MWSTAT_OPEN = true ∧ (s.dev.chan 1023).get CH_MWOPEN_DT ≤ 0 ∧ ⟨0, 9, true, some 3, true⟩ ∈ (s.dev.chan 1023).wins ∧
      (s.dev.chan 1023).on CH_SNFSTAT_EN = true) :=
  ⟨powered_of (by decide +kernel), by decide, by decide +kernel, by decide +kernel, ⟨powered_of (by decide +kernel), by decide +kernel⟩,
    powered_of (by decide +kernel), by decide +kernel⟩
/-- One entry due at 0. -/
def due1 (e : Sched) (dt : Nat) (f : Device → Device) : State := moving [] fun d => f { d with dt := dt, mot := { d.mot with due := [⟨e, 0⟩] } }
theorem witness_Schedule : (∀ e ∈ [(1, 1023), (2, 1023), (3, 1023), (5, 1023), (6, 480), (6, 511), (6, 268), (6, 287)],
      (due1 { pos := 5, code := e.1, arg := e.2 } usLen id).dev.pw.phase = 2 ∧ (due1 { pos := 5, code := e.1, arg := e.2 } usLen id).dev.dt ≤ 0 + usLen ∧
      (due1 { pos := 5, code := e.1, arg := e.2 } usLen id).dev.mot.due = [⟨{ pos := 5, code := e.1, arg := e.2 }, 0⟩]) ∧
    (due1 { pos := 5, code := 1, arg := 1023 } 0 (Device.modChan 1023 (Chan.setB CH_SNFSTAT_EN true))).dev.pw.phase = 2 ∧
    ((due1 { pos := 5, code := 1, arg := 1023 } 0 (Device.modChan 1023 (Chan.setB CH_SNFSTAT_EN true))).dev.chan 1023).on CH_SNFSTAT_EN = true ∧
    (State.reset.dev.chan 1023).on CH_SNFSTAT_EN = false ∧ (due1 { pos := 5, code := 3, arg := 1023 } usLen id).dev.sortSlot 1023 = none := by decide +kernel
theorem witness_Schedule_slots : (let d := (due1 { pos := 5, code := 3, arg := 7 } 0 fun d => { d with mot := { d.mot with slots := [{ slot := 7, cell := 0, owner := some 9 }] } }).dev;
      d.pw.phase = 2 ∧ d.sortSlot 7 = some { slot := 7, cell := 0, owner := some 9 }) ∧
    (let d := (due1 { pos := 5, code := 4, arg := 7, host := true } 0 id).dev; d.pw.phase = 2 ∧ d.coastAt 0 = false) ∧
    (let d := (due1 { pos := 5, code := 4, arg := 7, host := true } (2 * usLen + 1) id).dev; 0 + 2 * usLen < d.dt) := by decide +kernel
theorem witness_MotionCommands : (255 < 256 ∧ 2 ^ 16 - 1 < 2 ^ 16) ∧ Granted State.reset 35 1 (devAddr 0xA0068) ∧ State.reset.dev.on MOT_CTL_EN = false ∧
    Granted (moving [(MOT_SADDPOS_POS, 1)] id) 35 1 (devAddr 0xA0068) ∧ (let d := (moving [(MOT_SADDPOS_POS, 1)] id).dev;
      d.on MOT_CTL_EN = true ∧ ((4 = 4 ∧ 7 < 8) ∧ (6 = 6 ∧ schedSource 511 = true)) ∧ schedSource 288 = false ∧
      sgn 64 (d.get MOT_SADDPOS_POS) = sgn 48 (uns 48 (sgn 64 (d.get MOT_SADDPOS_POS))) ∧ d.motPos < sgn 64 (d.get MOT_SADDPOS_POS) ∧ d.mot.sched.length < 4096) ∧
    (moving [] id).dev.motPos ≥ sgn 64 ((moving [] id).dev.get MOT_SADDPOS_POS) ∧ Granted (moving [] id) 35 1 (devAddr 0xA0068) ∧
    (let s := moving [(MOT_SADDPOS_POS, 1)] fun d => { d with mot := { d.mot with sched := List.replicate 4096 { pos := 9, code := 6, arg := 480 } } };
      Granted s 35 1 (devAddr 0xA0068) ∧ 4096 ≤ s.dev.mot.sched.length) :=
  ⟨by decide, granted_of (by decide +kernel), by decide +kernel, granted_of (by decide +kernel), by decide +kernel, by decide +kernel, granted_of (by decide +kernel),
    granted_of (by decide +kernel), by decide +kernel⟩
theorem witness_MotionCommands_coast : Granted (moving [] id) 35 1 (devAddr 0xA0044) ∧ (moving [] id).dev.on MOT_STAT_COAST = false ∧
    ((moving [] id).dev.on MOT_CTL_COASTEN && (moving [] id).dev.on MOT_STAT_COASTIN) = false ∧ (moving [] id).dev.ilkOpen = false ∧ (moving [] id).dev.mot.sched = [] ∧
    Granted (moving [(MOT_STAT_COASTIN, 1), (MOT_STAT_COAST, 1)] id) 35 1 (devAddr 0xA0044) ∧ (let d := (moving [(MOT_STAT_COASTIN, 1), (MOT_STAT_COAST, 1)] id).dev;
      (d.on MOT_CTL_COASTEN && d.on MOT_STAT_COASTIN) = true ∧ d.on MOT_STAT_COAST = true) :=
  ⟨granted_of (by decide +kernel), by decide +kernel, by decide +kernel, by decide +kernel, by decide +kernel, granted_of (by decide +kernel), by decide +kernel⟩
theorem witness_CellBatches : Granted filled 35 1 (devAddr 0xB0030) ∧ filled.dev.ct.leaves ≠ [] ∧ filled.dev.on CT_CTL_EN = true ∧ Granted State.reset 35 1 (devAddr 0xB0030) ∧
    State.reset.dev.ct.leaves = [] ∧ State.reset.dev.on CT_CTL_EN = false ∧ Granted filled 35 1 (devAddr 0xB0000) ∧ Granted State.reset 35 1 (devAddr 0xB0000) ∧
    (let s := setting [(CT_CTL_AUTOSEAL, 1)] fun d => { d with dt := 10000 * 1000 * usLen, ct := { d.ct with leaves := [⟨0, 0, []⟩] } };
      s.powered ∧ s.dev.on CT_CTL_AUTOSEAL = true ∧ s.dev.ct.leaves ≠ [] ∧ s.dev.ct.first + s.dev.maxMs * 1000 * usLen ≤ s.dev.dt) ∧
    (let s := st fun d => { d with ct := { d.ct with closed := [⟨4, [], 0⟩] } };
      s.powered ∧ s.dev.ct.closed = [⟨4, [], 0⟩] ∧ s.dev.records.length < 256 ∧ s.dev.on SEC_STAT_IDERR = false ∧ (s.dev.markSealed 4 0 []).2 ≠ 3) ∧
    (let s := setting [(CT_STAT_FLUSHBUSY, 1), (CT_STAT_RECOUNT, 1)] id; s.powered ∧ s.dev.on CT_STAT_FLUSHBUSY = true ∧ s.dev.ct.lines = [] ∧ s.dev.on CT_STAT_RECOUNT = true) :=
  ⟨granted_of (by decide +kernel), by decide +kernel, by decide +kernel, granted_of (by decide +kernel), by decide +kernel, by decide +kernel, granted_of (by decide +kernel),
    granted_of (by decide +kernel), ⟨powered_of (by decide +kernel), by decide +kernel⟩, ⟨powered_of (by decide +kernel), by decide +kernel⟩, powered_of (by decide +kernel), by decide +kernel⟩
/-- The same table with reception open on link 3. -/
def receiving : State := st fun _ => filled.dev.setB (CT_REPCTL_RX 3) true
theorem witness_Replication : receiving.powered ∧ 3 < 4 ∧ State.reset.dev.on CT_CTL_EN = false ∧
    (let d := receiving.dev; d.on CT_CTL_EN = true ∧ d.on (CT_REPCTL_RX 3) = true ∧ badId (cellId 77) = false ∧ d.on CT_STAT_RECOUNT = false) ∧
    (receiving.dev.ctFind 77).2 = (0, some 111968) ∧ (let y := (receiving.dev.ctFind 77).1.ctRead 111968;
      y.2.1 = 0 ∧ cellUpd y.2.2 < 1 ∧ (y.1.ctWrite 111968 77).2 ≠ 3) := ⟨powered_of (by decide +kernel), by decide +kernel⟩
theorem witness_Replication_older : (let s := st fun _ => { receiving.dev with mem := memWrite (0x3800000 + 13996 % 1024 * 4 * 1024 + 80) 5 8 receiving.dev.mem };
      s.powered ∧ (s.dev.ctFind 77).2 = (0, some 111968) ∧ ((s.dev.ctFind 77).1.ctRead 111968).2.1 = 0 ∧ 4 < cellUpd ((s.dev.ctFind 77).1.ctRead 111968).2.2) :=
  ⟨powered_of (by decide +kernel), by decide +kernel⟩

/-! ### Commits, steps, loops and lanes -/

/-- Channel 1023 changed at a DT, some device fields set. -/
def chan1 (dt : Nat) (xs : List (Fld × Nat)) (f : Chan → Chan) : State := setting xs fun d => ({ d with dt := dt } : Device).modChan 1023 f
/-- A commit due at boundary 0: shadow MODE `m`, pending or not. -/
def committing (m : Nat) (pend : Bool) (f : Chan → Chan) (g : Device → Device := id) : State := setting [] fun d => g (d.modChan 1023 fun c =>
  f { c.setB CH_RSTAT_PEND pend |>.setB CH_SNFSTAT_SNUFFED false |>.set (CH_PSFS_FS 0) 5 with commitAt := some 0, setupAcked := true, sh := { c.sh with regs := c.sh.regs.set SET_MODE_MODE m } })
def lanesOn (locked : Bool) (d : Device) : Device := (d.setB DEV_CTL_LANE_EN true).modGrp 127 fun g => { g with regs := g.regs.setB GRP_SLSTAT_LOCK locked }
theorem witness_Commits : (committing 1 true id).powered ∧ 1023 < 1024 ∧ ((committing 1 true id).dev.chan 1023).commitAt = some 0 ∧
    ((chan1 0 [] fun c => { c with commitAt := some 1 }).dev.chan 1023).commitAt = some 1 ∧ (let x := (committing 1 false id).dev.chan 1023;
      x.on CH_RSTAT_STEP_TRANSITION = false ∧ x.on CH_RSTAT_PEND = false) ∧
    (let d := (committing 1 true (fun c => { c with setupAcked := false }) (lanesOn false)).dev; let x := d.chan 1023;
      x.on CH_RSTAT_PEND = true ∧ x.wantsEnable = true ∧ x.setupAcked = false ∧ d.on DEV_CTL_LANE_EN = true ∧ x.on CH_SNFSTAT_SNUFFED = false ∧ x.ps = none) ∧
    ((committing 1 true (fun c => { c with setupAcked := false, ps := some { target := 0, b0 := 0 } }) (lanesOn false)).dev.chan 1023).ps ≠ none ∧
    (let x := (committing 1 true id).dev.chan 1023; x.setupAcked = true ∧ x.lateBy = 0 ∧ x.sh.regs.get SET_MODE_IRANGE = x.get CH_MCTL_IRANGE) ∧
    12 ≤ ((committing 12 true id).dev.chan 1023).sh.mode := ⟨powered_of (by decide +kernel), by decide +kernel⟩
theorem witness_Commits_starts : (∀ b : Bool, let d := (committing 1 true id (lanesOn b)).dev; let x := d.chan 1023;
      x.wantsEnable = true ∧ x.on CH_SNFSTAT_SNUFFED = false ∧ x.setupAcked = true ∧ d.on DEV_CTL_LANE_EN = true ∧ (d.group 127).on GRP_SLSTAT_LOCK = b) ∧
    (let d := (committing 1 true id).dev; (d.chan 1023).wantsEnable = true ∧ (d.chan 1023).on CH_SNFSTAT_SNUFFED = false ∧ d.on DEV_CTL_LANE_EN = false) ∧
    ((committing 1 true (Chan.setB CH_SNFSTAT_SNUFFED true)).dev.chan 1023).on CH_SNFSTAT_SNUFFED = true ∧
    ((committing 1 true fun c => { c with running := true }).dev.chan 1023).running = true := by decide +kernel

/-- A running format step of channel 1023: a square of 2 and 3 frames, COUNT repetitions. -/
def formatting (dt cnt : Nat) (f : Chan → Chan) : State := chan1 dt [] fun c => f { c with
  mode := 6, running := true, fmtStart := some 0
  ac := { regs := (((((c.ac.regs.set (SET_FW_W 0) (1 + 65536 * cnt)).set (SET_FW_W 1) 9).set (SET_FW_W 2) 5).set (SET_FW_W 3) 2).set (SET_FW_W 4) 3), ends := [(3, 0)] } }
def doneEnds (c : Chan) : Chan := { c with ac := { c.ac with regs := c.ac.regs.set (SET_FW_W 0) (1 + 64 + 65536 * 1) } }
theorem witness_StepTimes : (formatting 0 0 id).powered ∧ 3 < 4 ∧ ((formatting 0 0 id).dev.chan 1023).timeDue 0 = [0] ∧ ((formatting 0 0 id).dev.chan 1023).running = true ∧
    (State.reset.dev.chan 1023).timeDue 0 = [] ∧ (let d := (formatting (2 * 8192) 0 id).dev; let x := d.chan 1023;
      x.fmtStart = some 0 ∧ (modeType x.mode).isSome = true ∧ d.dt = 2 * frameLen ∧ x.ac.edgeAt 2 = true) ∧
    (let d := (formatting (5 * 8192) 1 doneEnds).dev; let x := d.chan 1023; x.fmtDoneAt = some (5 * 8192) ∧ d.dt = 5 * 8192 ∧ x.fmtDone = false ∧ x.ac.fmtDoneEnd = true ∧ x.running = true) ∧
    (let x := (formatting (5 * 8192) 1 id).dev.chan 1023; x.fmtDoneAt = some (5 * 8192) ∧ x.fmtDone = false ∧ x.ac.fmtDoneEnd = false) ∧
    ((formatting 8192 1 fun c => { c with abortAt := some 8192 }).dev.chan 1023).abortAt = some 8192 :=
  ⟨powered_of (by decide +kernel), by decide +kernel⟩
/-- Slot 3 armed for boundary 0 with an ACT. -/
def slotted (dt act : Nat) (f : Chan → Chan) : State := formatting dt 0 fun c => f (c.armSlot 3 act 0 0 dt)
theorem witness_StepTimes_slots : (∀ dt ∈ [0, 8191, 8192], ∀ act ∈ [0, 1, 2], let x := (slotted dt act id).dev.chan 1023;
      x.on (CH_ESCTL_ARMED 3) = true ∧ x.get (CH_ESCTL_ACT 3) = act ∧ x.slotDue 3 = if dt = 0 then (0, false) else ((dt / 8192 + 1) * 8192, true)) ∧
    (let x := (slotted 5 1 id).dev.chan 1023; x.slotDue 3 = (8192, true)) ∧ (let x := (slotted 8192 1 fun c => { c with slotLate := [(3, 8192)] }).dev.chan 1023; x.slotDue 3 = (8192, true)) ∧
    (∀ b : Bool, ((slotted 0 1 (Chan.setB CH_RSTAT_PEND b)).dev.chan 1023).on CH_RSTAT_PEND = b) ∧
    ((slotted 0 1 fun c => { c.setB CH_RSTAT_PEND true with trig := 1 }).dev.chan 1023).trig = 1 ∧ (State.reset.dev.chan 1023).on (CH_ESCTL_ARMED 3) = false ∧
    Granted State.reset 35 1 (chAddr 1023 (0x328 + 16 * 3)) := ⟨by decide +kernel, by decide +kernel, by decide +kernel, by decide +kernel, by decide +kernel, by decide +kernel, granted_of (by decide +kernel)⟩

/-- Channel 1023 at a loop-group end of a ramping Taper. -/
def looping (f : Chan → Chan) : State := st fun d => (d.modAfe 7 fun x => { x.setB AFE_TPRSTAT_RUN true with ramping := true }).modChan 1023 f
def point (dt : Nat) : IPoint := ⟨1000, dt, 5, 1, 0⟩
theorem witness_LoopAndTotals : (looping id).powered ∧ (∀ i, i < 16 → ((looping id).dev.chan 1023).ac.xEn i = false) ∧ 2 ^ 32 - 1 < 2 ^ 32 ∧
    (State.reset.dev.chip (chipOf 1023)).held = true ∧ ((looping id).dev.chip (chipOf 1023)).groupEnds 0 = true ∧ ((looping id).dev.chip (chipOf 1023)).held = false ∧
    (let x := (looping fun c => { c with irHold := some 0 }).dev.chan 1023; x.on CH_RSTAT_ENDED = false ∧ x.frozenBy 0 false = true ∧ x.ps = none ∧ ∀ i, i < 16 → x.ac.endEn i = false) ∧
    Granted (looping id) 35 1 (chAddr 1023 0x3A8) ∧ ((looping id).dev.chan 1023).on CH_ACCCTL_CLRTOT = false ∧ Granted (looping id) 35 1 (chAddr 1023 (0x304 + 8 * 3)) ∧
    (let d := (looping fun c => { c with enWant := true }).dev; (d.chan 1023).psr = 0 ∧ d.on DEV_CTL_LOCK = false ∧ (d.chan 1023).enWant = true) :=
  ⟨powered_of (by decide +kernel), by decide +kernel, by decide, by decide +kernel, by decide +kernel, by decide +kernel, by decide +kernel,
    granted_of (by decide +kernel), by decide +kernel, granted_of (by decide +kernel), by decide +kernel⟩
/-- Two points to integrate, V known or not yet. -/
def integrating (now : Nat) (f : Chan → Chan) : State := chan1 now [] fun c => f { c with ipts := [point 4000], vpts := [(3000, 70)], accPrev := some (point 2000, 3) }
theorem witness_LoopAndTotals_points : (let d := (integrating 100000000 id).dev; let x := d.chan 1023; x.ipts = point 4000 :: [] ∧
      x.vKnown 4000 (d.chip (chipOf 1023)).period 100000000 = true ∧ x.accPrev = some (point 2000, 3) ∧ x.get CH_TSTART_DT ≤ 2000) ∧
    ((integrating 100000000 fun c => { c with accPrev := none }).dev.chan 1023).accPrev = none ∧
    ((integrating 100000000 fun c => { c with vpts := [] }).dev.chan 1023).vAt 4000 ((integrating 100000000 id).dev.chip (chipOf 1023)).period = none ∧
    ((integrating 4000 id).dev.chan 1023).vKnown 4000 ((integrating 4000 id).dev.chip (chipOf 1023)).period 4000 = false := by decide +kernel
/-- An impedance measurement of one period of a sine that started at 0. -/
def gauging (dt : Nat) (z : Imped) : State := chan1 dt [] fun c => { c with mode := 7, fmtStart := some 0, imp := some z, ac := { regs := (c.ac.regs.set (SET_FW_W 0) 2).set (SET_FW_W 3) 1717986 } }
theorem witness_LoopAndTotals_impedance : (let x := (gauging 0 { periods := 1, req := 0 }).dev.chan 1023; x.imp = some { periods := 1, req := 0 } ∧ x.fmtStart = some 0 ∧
      (x.ac.wrapFrom 0 0).2 = 0) ∧ (∀ i, i < 16 → ((gauging 0 { periods := 1, req := 0 }).dev.chan 1023).ac.xEn i = false) ∧
    (let x := (gauging 20500000 { periods := 1, req := 0, w0 := some 0 }).dev.chan 1023; x.imp = some { periods := 1, req := 0, w0 := some 0 } ∧ x.ac.windowEnd 0 0 1 ≤ 20500000 ∧ fitPhasor [] = none) := by
  decide +kernel

/-- Group 127 with registers set, a few of its lane's fields changed, at a DT. -/
def lane (dt st_ : Nat) (xs : List (Fld × Nat)) (f : Grp → Grp) (g : Chan → Chan := id) : State := setting [] fun d =>
  (({ d with dt := dt, lanes := st_ } : Device).modGrp 127 fun x => f { x with regs := xs.foldl (fun r e => r.set e.1 e.2) x.regs }).modChan 1023 g
def psAsked (resume : Option Nat) : PsChange := { target := 2, b0 := 0, tag := some 9, pol := true, resume := resume }
theorem witness_LaneFrames : (lane 0 2 [] id).powered ∧ (127 < 128 ∧ 7 < 8) ∧ (2 ≤ (lane 0 2 [] id).dev.lanes ∧ (lane 0 2 [] id).dev.dt % frameLen = 0 ∧
      ((lane 0 2 [] id).dev.chan 1023).on CH_RSTAT_ENDED = false) ∧ State.reset.dev.lanes < 2 ∧
    (let d := (lane 0 2 [(GRP_SLSTAT_LOCK, 1), (GRP_DLSTAT_RUN, 128)] id fun c => { c.setB CH_SNFSTAT_SNUFFED false with enWant := true }).dev; let x := d.group 127; let c := d.chan 1023;
      d.lanes = 2 ∧ x.on GRP_SLSTAT_LOCK = true ∧ bit (x.get GRP_DLSTAT_RUN) 7 = true ∧ c.enWant = true ∧ c.on CH_SNFSTAT_SNUFFED = false) ∧
    (let x := (lane 0 2 [(GRP_SLCFG_HBCHK, 1), (GRP_DLSTAT_SFSEQ, 8)] fun g => { g with hot := 3 }).dev.group 127;
      8 < (8 + 256 - 255 % 256) % 256 ∧ x.get GRP_DLSTAT_SFSEQ = 8 ∧ x.on GRP_SLCFG_HBCHK = true ∧ x.hbBad = false ∧ x.hot = 3 ∧ x.tempBad = false ∧ x.on GRP_SLSTAT_TWARN = false ∧
      x.get GRP_SLCFG_TMAX ≤ 255) ∧ (bit 0 0 = false ∧ bit 128 7 = true ∧ bit 3 1 = true) := ⟨powered_of (by decide +kernel), by decide +kernel⟩
theorem witness_LaneFrames_calm : (let d := (lane 0 2 [(GRP_SLCFG_TMAX, 99)] id).dev; let x := d.group 127; (bit 1 0 = true ∧ 0 % 256 = 0 ∧
      ¬ 8 < (x.get GRP_DLSTAT_SFSEQ + 256 - 0 % 256) % 256 ∧ 98 < x.get GRP_SLCFG_TMAX) ∧ (d.chan 1023).ps = none) ∧
    (let d := (lane 0 2 [(GRP_SLCFG_TMAX, 99)] id fun c => { c with ps := some (psAsked none) }).dev; (d.chan 1023).ps = some (psAsked none) ∧
      (∀ j, j < 7 → (d.chan (8 * 127 + j)).waitsTag 9 = false) ∧ (d.chan (8 * 127 + 7)).ps = some (psAsked none) ∧ bits (2 * 2 ^ 14) (2 * 7) 2 = 2 ∧ bits 0 (2 * 7) 2 ≠ 2) ∧
    (let d := (lane (11 * usLen) 2 [(GRP_SLSTAT_LOCK, 1)] fun g => { g with lastGood := some usLen }).dev; let x := d.group 127;
      x.on GRP_SLSTAT_LOCK = true ∧ x.lastGood = some usLen ∧ usLen + 10 * usLen ≤ d.dt) ∧ (State.reset.dev.group 127).on GRP_SLSTAT_LOCK = false := by decide +kernel

theorem witness_LaneStates : 127 < 128 ∧ 1023 < 1024 ∧ Granted State.reset 35 1 (devAddr 4) ∧ State.reset.dev.on DEV_CTL_LANE_EN = false ∧ State.reset.dev.lanes = 0 ∧
    (lane (64 * frameLen) 1 [] id).powered ∧ (let d := (lane (64 * frameLen) 1 [] id).dev; d.lanes = 1 ∧ d.dt % (64 * frameLen) = 0 ∧ d.lanesAt < d.dt) ∧
    Granted (setting [(DEV_CTL_LANE_EN, 1)] fun d => { d with lanes := 2 }) 35 1 (devAddr 4) ∧ (setting [(DEV_CTL_LANE_EN, 1)] id).dev.on DEV_CTL_LANE_EN = true ∧
    (let d := (lane (192 * frameLen) 3 [] id).dev; d.lanes = 3 ∧ d.dt % (64 * frameLen) = 0 ∧ alignUp (sampledFrame d.lanesAt) (64 * frameLen) + 64 * frameLen ≤ d.dt) ∧
    Granted State.reset 35 1 (grpAddr 127 4) ∧ 128 % 256 ≠ 0 :=
  ⟨by decide, by decide, granted_of (by decide +kernel), by decide +kernel, by decide +kernel, powered_of (by decide +kernel), by decide +kernel, granted_of (by decide +kernel),
    by decide +kernel, by decide +kernel, granted_of (by decide +kernel), by decide⟩
theorem witness_LaneStates_changes : (∀ r ∈ [none, some 0], ((lane (1000 * usLen) 2 [] id fun c => { c with ps := some (psAsked r) }).dev.chan 1023).ps = some (psAsked r)) ∧
    (psAsked none).b0 + 1000 * usLen ≤ 1000 * usLen ∧ (psAsked none).sent + 16 * (64 * frameLen) ≤ 1000 * usLen ∧ (psAsked none).tag = some 9 ∧ (psAsked (some 0)).resume = some 0 ∧
    ((lane 0 2 [] id fun c => { c with ps := some (psAsked (some 5)) }).dev.chan 1023).ps = some (psAsked (some 5)) := by decide +kernel

theorem witness_Snuffs : Granted State.reset 35 1 (chAddr 1023 0x498) ∧ (State.reset.dev.chan 1023).on CH_SNFCTL_SNUFF = false ∧ (State.reset.dev.chan 1023).on CH_SNFCTL_REARM = false ∧
    State.reset.dev.inHold = false ∧ (lane 0 2 [(GRP_SLSTAT_LOCK, 1), (GRP_SLSTAT_READY, 1)] id (Chan.setB CH_SNFSTAT_SNUFFED true)).dev.levels 1023 ≠ 0 ∧
    (State.reset.dev.chan 1023).on CH_SNFSTAT_SNUFFED = false ∧ State.reset.dev.levels 1023 ≠ 0 ∧ Granted (inState 2 []) 35 1 (chAddr 1023 0x498) ∧ (inState 2 []).dev.inHold = true ∧
    Granted State.reset 35 1 (devAddr 0x304) ∧ State.reset.dev.on DEV_SNFCMD_ALL = false ∧ State.reset.served ∧ State.reset.dev.ilkOpen = false ∧
    (st fun d => { d with ilkOpen := true }).served ∧ (st fun d => { d with ilkOpen := true }).dev.ilkOpen = true :=
  ⟨granted_of (by decide +kernel), by decide +kernel, by decide +kernel, by decide +kernel, by decide +kernel, by decide +kernel, by decide +kernel, granted_of (by decide +kernel),
    by decide +kernel, granted_of (by decide +kernel), by decide +kernel, served_of (by decide +kernel), by decide +kernel, served_of (by decide +kernel), by decide +kernel⟩

/-! ### Instruction issue, threads and the control store -/

/-- Cluster 15 in service with its microcode loaded; thread 63 READY at word 1 of a program of 2 words, the second one `w`. -/
def loadedWith (w : Nat) (f : Cluster → Cluster) (g : Thread → Thread) : State := seq (fun d => (({ d.set DEV_RSTCFG_MCKLIM 0 with mem := memWrite 0x2D00108 w 8 d.mem } : Device).setClState 15 0).modCl 15 fun x =>
  f { x with regs := ((x.regs.setB MCE_CTL_LOADED true).set SEQ_PBASE_BASE 0x100).set SEQ_PSIZE_WORDS 2, base := true, dispSet := [0x24] }) fun t => g (t.setPc 1)
def addW : Nat := 0x24330800FFFFFFFF
theorem witness_Fetch : (loadedWith addW id id).powered ∧ (let s := loadedWith addW id id; let d := s.dev; let x := d.clus 15; let t := d.thread 15 63;
      x.on MCE_CTL_LOADED = true ∧ d.clState 15 = 0 ∧ t.state = 1 ∧ t.issued = none ∧ t.traps = [] ∧ t.pc = 1 ∧ x.get SEQ_PSIZE_WORDS = 2 ∧
      memRead d.mem (targetBase 15 + x.get SEQ_PBASE_BASE + 8 * t.pc) 8 = addW ∧ bit (x.entry (bits addW 56 8)) 14 = false ∧ listedOp (bits addW 56 8) = true ∧ bits addW 56 8 ≠ 0x81 ∧
      (decodeThread 15 63 addW).isSome = true ∧ d.get DEV_RSTCFG_MCKLIM = 0) ∧ BankOpen (loadedWith addW id id).dev 15 3 0x2D00108 8 15 :=
  ⟨powered_of (by decide +kernel), by decide +kernel, bank_of (by decide +kernel)⟩
theorem witness_Fetch_stops : ((loadedWith addW id (Thread.setPc 2)).dev.thread 15 63).pc = 2 ∧
    (let x := (loadedWith addW (Cluster.setB (MCE_DISP_PRIV 0x24) true ∘ fun x => { x with dispSet := [0x24] }) (Thread.setB SEQ_TCFG_PRIV false)).dev; bit ((x.clus 15).entry (bits addW 56 8)) 14 = true ∧
      (x.thread 15 63).on SEQ_TCFG_PRIV = false) ∧
    (decodeThread 15 63 (0xF0 * 2 ^ 56) = none ∧ listedOp 0xF0 = false ∧ ((loadedWith (0xF0 * 2 ^ 56) id id).dev.clus 15).entry 0xF0 % 8192 = 0x80 ∧ bit (((loadedWith (0xF0 * 2 ^ 56) id id).dev.clus 15).entry 0xF0) 14 = false) ∧
    (let x := (loadedWith (0xF0 * 2 ^ 56) (Cluster.set (MCE_DISP_START 0xF0) 0x1000 ∘ fun x => { x with dispSet := [0xF0] }) id).dev.clus 15; x.entry 0xF0 % 8192 = 0x1000 ∧ bit (x.entry 0xF0) 14 = false) ∧
    (State.reset.dev.thread 15 63).state ≠ 1 ∧ (State.reset.dev.clus 15).on MCE_CTL_LOADED = false ∧ State.reset.dev.clState 15 ≠ 0 := by decide +kernel

/-- Thread 63 of cluster 15 in a state, the low half of RUNMASK or HALTREQ held. -/
def thr (v : Nat) (quiet : Bool) (f : Thread → Thread) : State := st fun d => ({ d with held := [(35, clAddr 15 0x20, 7), (35, clAddr 15 0x28, 7)] } : Device).modCl 15 (Cluster.setB SEQ_CTL_QUIESCE (!quiet)) |>.modThr 15 63
  fun t => f (t.set SEQ_TSTAT_STATE v)
theorem witness_ThreadControl : (∀ v ∈ [0, 1], ∀ b : Bool, ((thr v b id).dev.thread 15 63).state = v ∧ (thr v b id).dev.inHold = false ∧ ((thr v b id).dev.clus 15).on SEQ_CTL_QUIESCE = !b) ∧
    Granted (thr 0 true id) 35 1 (thrAddr 15 63 0) ∧ Granted (thr 1 true id) 35 1 (thrAddr 15 63 0) ∧ (inState 2 []).dev.inHold = true ∧ Granted (inState 2 []) 35 1 (thrAddr 15 63 0) ∧
    ((thr 1 true id).dev.thread 15 63).onStore = false ∧ ((thr 1 true id).dev.thread 15 63).issued = none ∧
    (∀ w ∈ [addW, 0x27 * 2 ^ 56], ((thr 2 true fun t => { t with issued := some w }).dev.thread 15 63).issued = some w) ∧ longRoutine addW = false ∧ longRoutine (0x27 * 2 ^ 56) = true ∧
    ((State.reset.dev.chan 1023).running = false ∧ ((st (Device.modChan 1023 fun c => { c with running := true })).dev.chan 1023).running = true) :=
  ⟨by decide +kernel, granted_of (by decide +kernel), granted_of (by decide +kernel), by decide +kernel, granted_of (by decide +kernel), by decide +kernel, by decide +kernel,
    by decide +kernel, by decide, by decide, by decide +kernel⟩
theorem witness_ThreadControl_masks : Granted (thr 0 true id) 35 1 (clAddr 15 0x24) ∧ findWord 35 (clAddr 15 0x20) (thr 0 true id).dev.held = some 7 ∧ bit (7 + 2 ^ 32 * 2 ^ 31) 63 = true ∧ bit 7 63 = false ∧
    Granted (thr 1 true id) 35 1 (clAddr 15 0x2C) ∧ findWord 35 (clAddr 15 0x28) (thr 1 true id).dev.held = some 7 ∧ (∀ b, ((thr 1 true id).dev.thread 15 63).inSync b = false) ∧
    Granted (thr 3 true id) 35 1 (clAddr 15 0) ∧ ((thr 3 true id).dev.thread 15 63).state = 3 ∧ (∀ b, b < 64 → ((thr 3 true id).dev.thread 15 b).state = 0 ∨ ((thr 3 true id).dev.thread 15 b).state = 3) ∧
    (let s := thr 4 false fun t => { t with former := 3, wait := some ⟨.cond 0 0, none, 0⟩, held := some (true, 9) }; Granted s 35 1 (clAddr 15 0) ∧ (s.dev.thread 15 63).state = 4 ∧
      (s.dev.thread 15 63).wait = some ⟨.cond 0 0, none, 0⟩ ∧ (s.dev.thread 15 63).held = some (true, 9) ∧ (s.dev.thread 15 63).former = 3 ∧ (s.dev.thread 15 63).micro = none) := by
  refine ⟨granted_of (by decide +kernel), by decide +kernel, by decide, by decide, granted_of (by decide +kernel), by decide +kernel, fun b => ?_, granted_of (by decide +kernel), by decide +kernel,
    by decide +kernel, granted_of (by decide +kernel), by decide +kernel⟩
  have h : ((thr 1 true id).dev.thread 15 63).state = 1 := by decide +kernel
  simp [Thread.inSync, h]

theorem witness_ThreadState : (∀ off ∈ [0x8, 0x10, 0x14, 0x20 + 4 * 3], Granted (thr 0 true id) 35 1 (thrAddr 15 63 off) ∧ Granted (thr 1 true id) 35 1 (thrAddr 15 63 off)) ∧
    ((thr 0 true id).dev.thread 15 63).state = 0 ∧ ((thr 1 true id).dev.thread 15 63).state ≠ 0 ∧ (2 ^ 32 - 1 < 2 ^ 32 ∧ 3 < 4) ∧ Granted State.reset 35 1 (clAddr 15 8) ∧
    Granted State.reset 35 1 (clAddr 15 0xC) ∧ (∀ b, b < 64 → (State.reset.dev.thread 15 b).state = 0) ∧ 0x300000 + 8 * (State.reset.dev.clus 15).get SEQ_PSIZE_WORDS ≤ 0x300000 ∧
    (State.reset.dev.clus 15).get SEQ_PBASE_BASE + 8 * (0x60000 % 2 ^ 19) ≤ 0x300000 ∧ 0x300000 < 0x300008 + 8 * (State.reset.dev.clus 15).get SEQ_PSIZE_WORDS := by
  refine ⟨?_, by decide +kernel, by decide +kernel, by decide, granted_of (by decide +kernel), granted_of (by decide +kernel), by decide +kernel, by decide +kernel, by decide +kernel, by decide +kernel⟩
  have h : ∀ off ∈ [0x8, 0x10, 0x14, 0x20 + 4 * 3], grantedB (thr 0 true id) 35 1 (thrAddr 15 63 off) = true ∧ grantedB (thr 1 true id) 35 1 (thrAddr 15 63 off) = true := by decide +kernel
  exact fun off m => ⟨granted_of (h off m).1, granted_of (h off m).2⟩
theorem witness_ThreadState_redirect : (∀ dep ∈ [15, 16], let s := thr 1 true fun t => { t.set SEQ_TSP_DEPTH dep with redirect := some 99 }; s.dev.pw.phase = 2 ∧ (s.dev.thread 15 63).redirect = some 99 ∧
      (s.dev.thread 15 63).onStore = false ∧ (s.dev.thread 15 63).state = 1 ∧ (s.dev.thread 15 63).get SEQ_TSP_DEPTH = dep) ∧ (State.reset.dev.thread 15 63).redirect = none := by decide +kernel

/-- The same loaded cluster with traps pending on the thread. -/
def trapped (c : Nat) (written : Bool) (g : Thread → Thread) : State := loadedWith addW (fun x => if written then { x with cs := [(8 * c, 0)] } else x) fun t => g { t with traps := [c] }
theorem witness_EngineTraps : (∀ c ∈ [0, 12, 13, 15], ∀ b : Bool, let d := (trapped c b id).dev; let t := d.thread 15 63; d.pw.phase = 2 ∧ d.get DEV_RSTCFG_MCKLIM = 0 ∧
      (d.clus 15).on MCE_CTL_LOADED = true ∧ d.clState 15 = 0 ∧ t.state = 1 ∧ t.issued = none ∧ t.wait = none ∧ t.micro = none ∧ t.traps.foldl min 16 = c ∧ (d.clus 15).csWritten (8 * c) = b ∧
      (d.clus 15).on MCE_STAT_MCK = false) ∧ (State.reset.dev.thread 15 63).traps = [] ∧
    (let t := (trapped 3 true fun t => { t with micro := some { level := 4, own := true } }).dev.thread 15 63; t.micro = some { level := 4, own := true } ∧ t.onStore = true ∧ t.state ≠ 0 ∧ t.wait = none) := by
  decide +kernel
theorem witness_EngineTraps_watch : (let d := (loadedWith addW (Cluster.setB MCE_CTL_BUDGET_EN true ∘ Cluster.setB MCE_CTL_SCRUB_EN true) fun t => { t.set SEQ_TSTAT_STATE 2 with issued := some addW, micro := some {} }).dev;
      (d.clus 15).on MCE_CTL_BUDGET_EN = true ∧ (d.thread 15 63).active = true ∧ (d.thread 15 63).traps.contains 12 = false ∧ (d.clus 15).on MCE_CTL_LOADED = true ∧ (d.clus 15).on MCE_CTL_SCRUB_EN = true) ∧
    (State.reset.dev.thread 15 63).active = false ∧ ((loadedWith addW (Cluster.setB MCE_CTL_BUDGET_EN false) id).dev.clus 15).on MCE_CTL_BUDGET_EN = false := by decide +kernel

/-- The Lamplighter's, and another master's, copies of MCE_CSADDR and MCE_CSDATA in an open or a loaded cluster. -/
def storing (isLoaded : Bool) : State := st fun d => ((opened 15 21 d).setClState 15 0).modCl 15 fun x => { x.setB MCE_CTL_LOADED isLoaded with csRegs := [(35, [77, 1, 2, 3, 4, 5, 6]), (15, [78, 1, 2, 3, 4, 5, 6])] }
theorem witness_ControlStore : (∀ b : Bool, ∀ m ∈ [15, 35], Granted (storing b) m 1 (clAddr 15 0x10034) ∧ Granted (storing b) m 1 (clAddr 15 (0x10400 + 4 * 255)) ∧ Granted (storing b) m 1 (clAddr 15 0x10000) ∧
      Granted (storing b) m 1 (clAddr 15 (0x10028 + 4 * (63 / 32)))) ∧ (∀ b : Bool, ((storing b).dev.clus 15).on MCE_CTL_LOADED = b) ∧ 255 < 256 ∧ 15 < 16 := by
  refine ⟨fun b => ?_, by decide +kernel, by decide, by decide⟩
  have h : ∀ b : Bool, ∀ m ∈ [15, 35], ∀ a ∈ [0x10034, 0x10400 + 4 * 255, 0x10000, 0x10028 + 4 * (63 / 32)], grantedB (storing b) m 1 (clAddr 15 a) = true := by decide +kernel
  exact fun m hm => ⟨granted_of (h b m hm _ (by decide)), granted_of (h b m hm _ (by decide)), granted_of (h b m hm _ (by decide)), granted_of (h b m hm _ (by decide))⟩

/-! ### Failures, captures, streams -/

/-- Bank `b` open to master `m`, device fields set. -/
def banked (m b : Nat) (xs : List (Fld × Nat)) (f : Device → Device) : State := setting xs fun d => f (opened m b d)
def oneFail : FailItem := ⟨1023, 3, List.replicate 28 7⟩
def failing (xs : List (Fld × Nat)) (f : FailUnit → FailUnit) : State := banked 32 16 xs fun d => { d with fail := f { d.fail with queue := [oneFail] } }
theorem witness_FailUnit : (failing [] id).powered ∧ (∀ en ∈ [0, 1], ∀ w ∈ [5, 262143], let d := (failing [(FAIL_CTL_EN, en), (FAIL_RWR_IDX, w)] id).dev;
      d.fail.queue = oneFail :: [] ∧ d.stalled (0x3000000 + 32 * w) 32 = false ∧ (d.fail.carried.find? fun x => x.1 == 1023 && x.2.1 == 3) = none ∧ d.on FAIL_CTL_EN = (en == 1) ∧
      d.get FAIL_RRD_IDX = 0 ∧ ((w + 1) % 262144 = 0 ↔ w = 262143)) ∧
    BankOpen (failing [(FAIL_CTL_EN, 1), (FAIL_RWR_IDX, 5)] id).dev 32 5 (0x3000000 + 32 * 5) 32 16 ∧ State.reset.dev.fail.queue = [] :=
  ⟨powered_of (by decide +kernel), by decide +kernel, bank_of (by decide +kernel), by decide +kernel⟩
/-- One record 1 ms old, its spill ring of 128 records in bank 15. -/
def spilling : State := banked 32 16 [(FAIL_CTL_SPILL, 1), (FAIL_SSIZE_LOG2, 7), (FAIL_RWR_IDX, 1), (FAIL_SBASE_ADDR, 0x2D00000)] fun d =>
  { opened 32 15 d with dt := 1000 * usLen, fail := { d.fail with waiting := [0] } }
theorem witness_FailUnit_spill : (let d := spilling.dev; let r := d.readMem 32 4 (0x3000000 + 32 * 0) 32; d.pw.phase = 2 ∧ d.on FAIL_CTL_SPILL = true ∧ d.spillSize ≠ 0 ∧ d.failOcc = 1 ∧ d.fail.waiting = [0] ∧
      0 + 1000 * usLen ≤ d.dt ∧ d.fail.stopped = false ∧ d.spillOcc + 1 ≠ d.spillSize ∧ d.get FAIL_RRD_IDX = 0 ∧ r.2 = ⟨0, 0⟩ ∧
      (r.1.writeMem 32 5 (r.1.get FAIL_SBASE_ADDR + 32 * r.1.get FAIL_SWR_IDX) 32 0 false).2 = ⟨0, 0⟩) ∧ State.reset.dev.on FAIL_CTL_SPILL = false ∧
    Granted State.reset 35 1 (devAddr 0xE0000) ∧ (State.reset.dev.failOcc = 0 ∧ State.reset.dev.spillOcc = 0) ∧ State.reset.dev.spillSize = 0 ∧
    Granted spilling 35 1 (devAddr 0xE0000) ∧ Granted (setting [(FAIL_SSIZE_LOG2, 7)] id) 35 1 (devAddr 0xE0000) ∧ (setting [(FAIL_SSIZE_LOG2, 7)] id).dev.spillSize ≠ 0 :=
  ⟨by decide +kernel, by decide +kernel, granted_of (by decide +kernel), by decide +kernel, by decide +kernel, granted_of (by decide +kernel), granted_of (by decide +kernel), by decide +kernel⟩

/-- A capture of channel 1023 in STATE `v` with a descriptor (SEL 1), its cluster's ring of 64 KiB, its engine's bank open. -/
def recorder (v dt : Nat) (f : CapCh → CapCh) (g : Device → Device := id) : State := banked 31 15 [] fun d => g (({ d with dt := dt } : Device).modCl 15 (Cluster.set CAP_RSIZE_SIZE 65536) |>.modCap 1023 fun u =>
  f { u.set CAP_STAT_STATE v with desc := [4, 0, 0, 1, 9], grid := some 0 })
theorem witness_Captures : (15 < 16 ∧ 63 < 64) ∧ Granted (recorder 0 0 id) 35 1 (capAddr 1023 0) ∧
    ((recorder 0 0 id).dev.capArm 1023 (255 % 256)).2 = 1 ∧ (let s := recorder 0 0 id fun d => { d with mem := memWrite 0x2D03FCC 1 4 (memWrite 0x2D03FC0 4 4 d.mem) };
      Granted s 35 1 (capAddr 1023 0) ∧ (s.dev.capArm 1023 255).2 = 0) ∧ Granted (recorder 2 0 id) 35 1 (capAddr 1023 0) ∧ ((recorder 2 0 id).dev.capt 1023).state = 2 ∧
    (let d := (recorder 0 0 id).dev; ∃ d1 ws, d.readWords 31 0 4 16 (targetBase 15 + (d.clus 15).get CAP_DBASE_BASE + 64 * 255) = (d1, ws, 0) ∧ ({ d.capt 1023 with desc := ws } : CapCh).badDesc = true) ∧
    Granted (recorder 1 0 id) 35 1 (capAddr 1023 0x10) ∧ ((recorder 1 0 id).dev.capt 1023).on CAP_FORCE_TRIG = false :=
  ⟨by decide, granted_of (by decide +kernel), by decide +kernel, ⟨granted_of (by decide +kernel), by decide +kernel⟩, granted_of (by decide +kernel), by decide +kernel,
    pairP (by decide +kernel) (by decide +kernel), granted_of (by decide +kernel), by decide +kernel⟩
theorem witness_Captures_trigger : (let s := recorder 1 (2 * usLen) fun u => { u with offers := [(100, true)] }; let u := s.dev.capt 1023; let half := (s.dev.chip 7).half; let ring := s.dev.capRing 15 u.spill;
      s.dev.pw.phase = 2 ∧ u.state = 1 ∧ earliest (u.offers.filter fun x => decide (u.armDt ≤ x.1)) = some (100, true) ∧ 100 + usLen ≤ s.dev.dt ∧ u.indexOf (u.period half) 100 = some 0 ∧
      u.skip = 0 ∧ u.spill = false ∧ u.samples = [] ∧ u.bcnout = false ∧ ring.2.1 ≠ 0 ∧ 256 + u.post * u.ssize ≤ ringRoom ring.2.1 ring.2.2.1 ring.2.2.2) ∧
    (let s := recorder 1 (2 * usLen) fun u => { u with offers := [(100, true)], desc := [4, 0, 0, 1, 9000] }; let u := s.dev.capt 1023; let ring := s.dev.capRing 15 u.spill;
      ring.2.1 ≠ 0 ∧ ringRoom ring.2.1 ring.2.2.1 ring.2.2.2 < 256 + u.post * u.ssize ∧ earliest (u.offers.filter fun x => decide (u.armDt ≤ x.1)) = some (100, true) ∧ u.samples = []) ∧
    (let u := (recorder 1 (2 * usLen) fun u => { u with offers := [(100, true)], skip := 1 }).dev.capt 1023; 0 < u.skip ∧ u.state = 1) ∧ (State.reset.dev.capt 1023).state = 0 := by decide +kernel
theorem witness_Captures_samples : (let s := recorder 1 (1250 * 8192 + usLen) id; let u := s.dev.capt 1023; s.dev.pw.phase = 2 ∧ u.grid = some 0 ∧
      0 + u.next * max 1 (u.period (s.dev.chip 7).half) + max 1 (u.period (s.dev.chip 7).half) + usLen ≤ s.dev.dt ∧ u.state = 1 ∧ u.sel = 1 ∧ u.pre = 0 ∧ u.tsrc ≠ 6 ∧ u.bufFrom ≤ 0 ∧ u.offers = []) ∧
    (let s := recorder 2 (1250 * 8192 + usLen) fun u => { u with room := 9 }; let u := s.dev.capt 1023; u.state = 2 ∧ u.sel = 1 ∧ u.spill = false ∧ u.maskOn = false ∧ u.tsrc ≠ 6 ∧ bit u.flags 2 = false ∧
      bit u.flags 10 = false ∧ (s.dev.clus 15).stage = [] ∧ u.t0 ≤ u.next ∧ u.npost + 1 < u.post ∧ u.npost + 1 < u.room ∧ (s.dev.capRing 15 u.spill).1 + (u.ofs + 256 + (u.npre + u.npost) * 8) % 65536 = 0x2D00100) ∧
    BankOpen (recorder 2 (1250 * 8192 + usLen) fun u => { u with room := 9 }).dev 31 1 0x2D00100 8 15 ∧ (State.reset.dev.capt 1023).grid = none ∧
    ((recorder 4 9 fun u => { u with armDt := 9 }).dev.capt 1023).state = 4 ∧ ((recorder 4 9 fun u => { u with armDt := 9 }).dev.capt 1023).armDt ≤ 9 ∧
    9 < ((recorder 4 9 fun u => { u with armDt := 10 }).dev.capt 1023).armDt :=
  ⟨by decide +kernel, by decide +kernel, bank_of (by decide +kernel), by decide +kernel⟩

/-- Channel 1023 playing a ring of 512 entries at DT `dt`, its slot 0 at 1 µs; the first entries read ahead, 5 entries written. -/
def playing (dt : Nat) (rd : List (Nat × Option Nat)) (xs : List (Fld × Nat)) (f : Stream → Stream) : State := banked 15 15 [] fun d => ({ d with dt := dt } : Device).modChan 1023 fun c =>
  { c with regs := xs.foldl (fun r e => r.set e.1 e.2) ((c.regs.set CH_STSIZE_SIZE 4096).set CH_STPER_TICKS 1600), running := true, stream := f { c.stream with play := true, origin := usLen, read := rd, wrs := [(5, 0)] } }
/-- The next entry after position `p`. -/
def nxt (s : State) (p : Option SegPos) (t : Nat) : Nxt := (s.dev.natural 1023 p t).2
def firstPos : SegPos := ⟨none, 0, 0, 0, 1, 255, false⟩
def hdr1 : Nat := 2 ^ 63 + 2 ^ 40
theorem witness_Streams : 1023 < 1024 ∧ (let s := playing usLen [(0, some 77)] [] id; let x := s.dev.chan 1023; let z := x.stream; s.dev.pw.phase = 2 ∧ x.on CH_RSTAT_ENDED = false ∧ x.running = true ∧
      z.play = true ∧ z.under = none ∧ z.wait = none ∧ z.jump = none ∧ z.origin + z.slot * x.streamT = usLen ∧ z.pos = none ∧ s.dev.dt = usLen ∧ nxt s none usLen = .sample firstPos 77) ∧
    nxt (playing usLen [] [] fun z => { z with wrs := [] }) none usLen = .absent ∧ nxt (playing usLen [] [] id) (some ⟨some 0, 1, 1, 0, 1, 0, true⟩) usLen = .last ∧
    nxt (playing usLen [(0, none)] [] id) none usLen = .failed ∧ nxt (playing usLen [(0, some (2 ^ 63 + 1))] [] id) none usLen = .bad ∧
    nxt (playing usLen [(0, some (hdr1 + 32))] [] id) none usLen = .wait 0 ∧ (let s := playing 0 [] [] id; s.dev.dt < (s.dev.chan 1023).stream.origin) := by decide +kernel
theorem witness_Streams_natural (s : State) (p : Option SegPos) (t : Nat) (x : Nxt) (h : nxt s p t = x) : ∃ d1, s.dev.natural 1023 p t = (d1, x) := pair h
theorem witness_Streams_late : (let s := playing (2 * usLen) [(0, some 77)] [] fun z => { z with under := some usLen }; let z := (s.dev.chan 1023).stream; z.under = some usLen ∧ z.jump = none ∧ s.dev.dt % frameLen = 0 ∧
      (s.dev.chan 1023).on CH_STCFG_CATCHUP = false ∧ nxt s none (2 * usLen) = .sample firstPos 77) ∧
    (let s := playing usLen [(0, some 77)] [(CH_STCFG_CATCHUP, 1)] fun z => { z with under := some usLen }; let x := s.dev.chan 1023; x.on CH_STCFG_CATCHUP = true ∧
      (usLen - x.stream.origin) / x.streamT = x.stream.slot ∧ nxt s none usLen = .sample firstPos 77) ∧
    nxt (playing (2 * usLen) [] [] fun z => { z with under := some usLen, wrs := [] }) none (2 * usLen) = .absent := by decide +kernel
theorem witness_Streams_wait : (let s := playing usLen [(0, some hdr1), (1, some 77)] [(CH_STSTAT_WAITING, 1)] fun z => { z with wait := some (0, 5), go := some usLen }; let z := (s.dev.chan 1023).stream;
      z.wait = some (0, 5) ∧ z.jump = none ∧ z.go = some usLen ∧ usLen ≤ s.dev.dt ∧ ((s.dev.modChan 1023 (Chan.beginAt 0 usLen true)).enter 1023 0 usLen true).2 = .sample ⟨some 0, 1, 1, 0, 1, 0, false⟩ 77) ∧
    ((playing usLen [] [] fun z => { z with wait := some (0, 5), go := some (2 * usLen) }).dev.chan 1023).stream.go = some (2 * usLen) ∧
    (let s := playing (2 * usLen) [] [] fun z => { z with wait := some (0, 5), jump := some (7, false, usLen) }; (s.dev.chan 1023).stream.jump = some (7, false, usLen) ∧ (s.dev.chan 1023).stream.go = none ∧
      boundaryAt (usLen + usLen) ≤ s.dev.dt ∧ s.dev.jumpTarget 1023 7 (boundaryAt (usLen + usLen)) = none) := by decide +kernel
theorem witness_Streams_ring : (let s := playing usLen [] [] id; let x := s.dev.chan 1023; x.stream.read = [] ∧ x.present (x.get CH_STRD_IDX) s.dev.dt = true ∧ s.dev.ringAddr 1023 (x.get CH_STRD_IDX) = 0x2D00000) ∧
    BankOpen (playing usLen [] [] id).dev 15 0 0x2D00000 8 15 ∧ State.reset.dev.pw.phase = 2 ∧ (State.reset.dev.chan 1023).stream.play = false ∧ Granted (playing usLen [] [] id) 35 1 (chAddr 1023 0x5A0) ∧
    (let x := (playing usLen [] [] id).dev.chan 1023; ¬ (2 ^ 31 ≤ ahead (x.get CH_STWR_IDX) 5 ∨ x.ringLen < ahead (x.get CH_STRET_IDX) 5) ∧ 2 ^ 31 ≤ ahead (x.get CH_STWR_IDX) (2 ^ 32 - 1)) ∧
    Granted (playing usLen [] [] id) 35 1 (chAddr 1023 0x5AC) ∧ Granted State.reset 35 1 (chAddr 1023 0x5AC) :=
  ⟨by decide +kernel, bank_of (by decide +kernel), by decide +kernel, by decide +kernel, granted_of (by decide +kernel), by decide +kernel, granted_of (by decide +kernel), granted_of (by decide +kernel)⟩

/-! ### Banks and DDR5 -/

/-- A request of a master for the 8 bytes at 0x2D00008. -/
def ask (m kind v ecc : Nat) : BankReq := ⟨m, kind, 0x2D00008, 8, v, false, ecc⟩
theorem witness_Banks : (banked 15 15 [] id).powered ∧ 15 < 20 ∧ (∀ kind ∈ [0, 1], BankOpen (banked 15 15 [] id).dev 15 kind 0x2D00008 8 15 ∧ BankOpen (banked 15 15 [] id).dev 35 kind 0x2D00008 8 15) ∧
    (8 ≤ 8 ∧ 0x2D00008 % 8 + 8 ≤ 8) ∧ (banked 15 15 [] id).dev.soft = [] ∧ (ask 15 1 7 0).addr = (ask 35 0 0 0).addr ∧ (ask 15 0 0 1).ecc = 1 ∧ (ask 15 0 0 2).ecc = 2 ∧ (ask 15 1 7 0).ecc = 0 ∧
    reqRank 15 (ask 15 1 7 0) < reqRank 15 (ask 35 1 7 0) ∧ targetOf 0x2D00008 = some 15 ∧ State.reset.dev.allowed 36 15 1 (0x2D00008 / 4096) false = false := by
  refine ⟨powered_of (by decide +kernel), by decide, ?_, by decide +kernel⟩
  have h : ∀ kind ∈ [0, 1], bankB (banked 15 15 [] id).dev 15 kind 0x2D00008 8 15 = true ∧ bankB (banked 15 15 [] id).dev 35 kind 0x2D00008 8 15 = true := by decide +kernel
  exact fun kind m => ⟨bank_of (h kind m).1, bank_of (h kind m).2⟩
/-- The background test before slice `n`, slice `b` borrowed if any. -/
def testing (n : Nat) (borrowed : Bool) (cur : Nat) (f : Device → Device) : State := setting [(MEM_CTL_BT_EN, 1), (MEM_BTMASK_BANKS, 2 ^ 20 - 1), (MEM_BTCUR_SLICE, cur)] fun d =>
  f { d.setB MEM_BTSTAT_BORROWED borrowed with dt := 10000000000, btNext := n }
theorem witness_Banks_test : ((setting [] fun d => { d with wback := [0x2D00008] }).dev.wback.find? (fun x => bankOf x == 15)) = some 0x2D00008 ∧ (State.reset.dev.wback.find? fun x => bankOf x == 15) = none ∧
    (let d := (testing 12283 false 0 id).dev; d.on MEM_CTL_BT_EN = true ∧ d.on MEM_BTSTAT_BORROWED = false ∧ d.btAt + d.get MEM_BTCFG_GAP * usLen ≤ d.dt ∧ d.btNext < 16384 ∧
      bit (d.get MEM_BTMASK_BANKS) (bankOf (12283 * 4096)) = true ∧ d.pinned 12283 = false) ∧
    (let d := (testing 12287 false 0 id).dev; bankOf (12287 * 4096) = 15 ∧ d.pinned 12287 = true ∧ d.pinned 12288 = false ∧ bit (d.get MEM_BTMASK_BANKS) (bankOf (12288 * 4096)) = true ∧ 12287 + 1 < 16384) ∧
    (setting [(MEM_CTL_BT_EN, 0)] id).dev.on MEM_CTL_BT_EN = false ∧ (∀ c ∈ [5, 16383], let d := (testing c true c id).dev; d.on MEM_BTSTAT_BORROWED = true ∧ d.bad = [] ∧ d.get MEM_BTCUR_SLICE = c) ∧
    (let d := (testing 5 true 5 fun d => { d with bad := [5 * 4096] }).dev; d.on MEM_BTSTAT_BORROWED = true ∧ ∃ x ∈ d.bad, x / 4096 = d.get MEM_BTCUR_SLICE) := by decide +kernel
theorem witness_Banks_regions : (∀ lock : Bool, ∀ hi : Bool, Granted (setting [(DEV_CTL_LOCK, b2n lock)] id) 35 1 (devAddr (0xC2000 + 1408 * 37 + 64 * 21 + 8 * 7 + 4 * b2n hi))) ∧
    State.reset.dev.fixedRegion 37 21 7 = none ∧ Granted State.reset 35 1 (devAddr (0xC2000 + 1408 * 15 + 64 * 15 + 8 * 7)) ∧ State.reset.dev.fixedRegion 15 15 7 ≠ none := by
  refine ⟨fun lock hi => granted_of ?_, by decide +kernel, granted_of (by decide +kernel), by decide +kernel⟩
  have h : ∀ lock hi : Bool, grantedB (setting [(DEV_CTL_LOCK, b2n lock)] id) 35 1 (devAddr (0xC2000 + 1408 * 37 + 64 * 21 + 8 * 7 + 4 * b2n hi)) = true := by decide +kernel
  exact h lock hi

/-- Two DIMMs of one rank trained; channel 1 changed by `f`, device fields set. -/
def trained (xs : List (Fld × Nat)) (f : DdrCh → DdrCh) (g : Device → Device := id) : State := setting [] fun d =>
  g (({ xs.foldl (fun d e => d.set e.1 e.2) (d.ddrTrained 0 2 false false true) with dt := 10000000000 } : Device).modDdr 1 f)
def oneReq : DReq := ⟨0x1000000000, false, 0⟩
theorem witness_Ddr5 : (trained [] id).powered ∧ (1 < 2 ∧ 0 < 4 ∧ 3 < 4) ∧ (State.reset.dev.on DDR_STAT_AVAIL = false ∧ State.reset.dev.get SEC_BOOT_STATE ≠ 15) ∧ (trained [] id).dev.on DDR_STAT_AVAIL = true ∧
    (trained [] id).dev.ddrHas 1 = true ∧ (trained [] id).dev.on (DDR_CHSTAT_SR 1) = false ∧ (trained [] fun c => { c with debt := [(0, 3, 8)] }).dev.mustRefresh 1 = some (0, 3) ∧
    (∀ v ∈ [0, 1], let d := (trained [(DDR_RHCFG_NODRFM, v)] fun c => { c with acts := [(0, 3, 7)] }).dev; d.mustRefresh 1 = none ∧ (d.ddrCh 1).acts = [(0, 3, 7)] ∧ d.on (DDR_CHSTAT_DRFM 1) = true ∧
      d.on DDR_RHCFG_NODRFM = (v == 1)) ∧
    (let d := (trained [] fun c => { c with queue := [oneReq] }).dev; d.mustRefresh 1 = none ∧ (d.ddrCh 1).acts = [] ∧ d.pick 1 = some (0, oneReq)) ∧
    (let d := (trained [] fun c => { c with debt := [(0, 3, 2)] }).dev; d.mustRefresh 1 = none ∧ d.pick 1 = none ∧ (d.ddrCh 1).debt = [(0, 3, 2)]) ∧
    (trained [(DDR_CHSTAT_SR 1, 1)] id).dev.on (DDR_CHSTAT_SR 1) = true := ⟨powered_of (by decide +kernel), by decide +kernel⟩
theorem witness_Ddr5_rates : (∀ n ∈ [2, 8], let d := (trained [] fun c => { c with debt := [(0, 3, n)] }).dev; d.ddrRanks.contains 0 = true ∧ 3 ∈ d.refreshUnits ∧ (d.ddrCh 1).debtOf 0 3 = n ∧ d.debtLimit 1 0 = 4 ∧
      d.on (DDR_RKSTAT_DOUBLED 1 0) = false ∧ d.get DDR_REFCFG_RRTHR ≤ 7 % 8) ∧ (let d := (trained [(DDR_RKSTAT_DOUBLED 1 0, 1)] id).dev; d.on (DDR_RKSTAT_DOUBLED 1 0) = true ∧ ¬ d.get DDR_REFCFG_RRTHR ≤ 0 % 8) ∧
    (let d := (trained [] fun c => { c with ivals := [(0, 8192)] }).dev; 8192 ≤ (((d.ddrCh 1).ivals.find? fun e => e.1 == 0).map (·.2)).getD 0) ∧
    ((((trained [] id).dev.ddrCh 1).ivals.find? fun e => e.1 == 0).map (·.2)).getD 0 < 8192 := by decide +kernel
theorem witness_Ddr5_power : (∀ n ∈ [1, 2 ^ 31], let d := (trained [(DDR_CTL_SCRUB_EN, 1)] id).dev; d.on DDR_CTL_SCRUB_EN = true ∧ d.on DDR_STAT_AVAIL = true ∧ (d.ddrCh 0).queue = [] ∧ (d.ddrCh 1).queue = [] ∧
      d.soft = [] ∧ d.bad = [] ∧ (min (d.get DDR_STAT_CAPGIB * 2 ^ 30) (d.ddr.patrol + 64 * n) = d.get DDR_STAT_CAPGIB * 2 ^ 30 ↔ n = 2 ^ 31)) ∧ (trained [(DDR_CTL_SCRUB_EN, 0)] id).dev.on DDR_CTL_SCRUB_EN = false ∧
    (∀ bs ∈ [[], [(0, 3, 2)]], let d := (trained [(DDR_CTL_SR_EN, 1)] fun c => { c with debt := bs }).dev; d.ddrHas 1 = true ∧ d.on DDR_CTL_SR_EN = true ∧ d.on (DDR_CHSTAT_SR 1) = false ∧ (d.ddrCh 1).queue = [] ∧
      (d.ddrCh 1).emptyAt + d.get DDR_PWRCFG_IDLEUS * usLen ≤ d.dt ∧ (d.ddrCh 1).debt = bs ∧ (d.ddrCh 1).entering = false) ∧
    ((trained [] fun c => { c with queue := [oneReq] }).dev.ddrCh 1).queue ≠ [] := by decide +kernel

/-! ### Host access -/

/-- LAP session 3 open as 77 with 5 requests executed, port 1 enabled, bank 15 open to the host DMA, channel 1023 with a ring. -/
def hosted (xs : List (Fld × Nat)) (f : Sess → Sess) (g : Device → Device := id) : State := setting ((LAP_CTL_EN1, 1) :: (TB_STAT_DT_VALID, 1) :: xs) fun d =>
  g { (opened 36 15 d).setClState 15 0 |>.modChan 1023 (Chan.set CH_STSIZE_SIZE 4096) with dt := 10000000, sess := d.sess.modify 3 fun x => f { x with open_ := true, id := 77, rx := 5, tx := 9 } }
/-- Every piece of a transfer is open. -/
def piecesB (s : State) (kind a n : Nat) : Bool := s.dev.soft.isEmpty && (pieces 8 (n + 1) a n).all fun q => bankB s.dev 36 kind q.1 q.2 15
theorem pieces_of {s : State} {kind a n : Nat} (h : piecesB s kind a n = true) : s.dev.soft = [] ∧ ∀ q ∈ pieces 8 (n + 1) a n, ∃ t, BankOpen s.dev 36 kind q.1 q.2 t := by
  simp only [piecesB, Bool.and_eq_true, List.isEmpty_iff, List.all_eq_true] at h
  exact ⟨h.1, fun q m => ⟨15, bank_of (h.2 q m)⟩⟩
theorem bank15 {a n : Nat} (h : targetOf a = some 15 ∧ targetOf (a + n - 1) = some 15) : ∃ t, t < 20 ∧ targetOf a = some t ∧ targetOf (a + n - 1) = some t := ⟨15, by decide, h⟩
theorem witness_LapRequests : (hosted [] id).served ∧ (hosted [] id).dev.portOn 1 = true ∧ 77 ≠ 0 ∧ (hosted [] id).dev.findSess 77 = some 3 ∧ ((hosted [] id).dev.sessOf 3).rx + 1 = 6 ∧
    ((hosted [] id).dev.sessOf 3).held = [] ∧ ((hosted [] id).dev.sessOf 3).unacked = [] ∧ accessOk 0x2D00004 12 = true ∧ (∃ t, t < 20 ∧ targetOf 0x2D00004 = some t ∧ targetOf (0x2D00004 + 12 - 1) = some t) ∧
    (∀ kind ∈ [0, 1], (hosted [] id).dev.soft = [] ∧ ∀ q ∈ pieces 8 (12 + 1) 0x2D00004 12, ∃ t, BankOpen (hosted [] id).dev 36 kind q.1 q.2 t) ∧ accessOk 0x2D00004 3 = false ∧
    Granted (hosted [] id fun d => opened 36 21 d) 36 0 0x40000000 ∧ regLoc 0x40000000 = some (.dev, 0) ∧ targetOf 0x40000000 = some 21 ∧ (hosted [] id).dev.regRefused 36 0 0x40000000 = true := by
  refine ⟨served_of (by decide +kernel), by decide +kernel, by decide, by decide +kernel, by decide +kernel, by decide +kernel, by decide +kernel, by decide, bank15 (by decide), fun kind m => pieces_of ?_, by decide,
    granted_of (by decide +kernel), by decide, by decide, by decide +kernel⟩
  have h : ∀ kind ∈ [0, 1], piecesB (hosted [] id) kind 0x2D00004 12 = true := by decide +kernel
  exact h kind m
theorem witness_LapRequests_bulk : bulkOk 0x2D00000 128 = true ∧ (∃ t, t < 20 ∧ targetOf 0x2D00000 = some t ∧ targetOf (0x2D00000 + 128 - 1) = some t) ∧ (hosted [] id).dev.chunk = 1024 ∧ (128 + 1024 - 1) / 1024 = 1 ∧
    ((hosted [] id).dev.soft = [] ∧ ∀ q ∈ pieces 8 (128 + 1) 0x2D00000 128, ∃ t, BankOpen (hosted [] id).dev 36 0 q.1 q.2 t) ∧ bulkOk 0x2D00000 96 = false ∧
    (∀ o ∈ [0, 64], (hosted [] id).dev.soft = [] ∧ ∀ q ∈ pieces 8 (64 + 1) (0x2D00000 + o) 64, ∃ t, BankOpen (hosted [] id).dev 36 1 q.1 q.2 t) ∧
    ((hosted [] fun x => { x with bulk := some (0x2D00000, 128, 64) }).dev.sessOf 3).bulk = some (0x2D00000, 128, 64) ∧ ((hosted [] id).dev.sessOf 3).bulk = none := by
  refine ⟨by decide, bank15 (by decide), by decide +kernel, by decide, pieces_of (by decide +kernel), by decide, fun o m => pieces_of ?_, by decide +kernel, by decide +kernel⟩
  have h : ∀ o ∈ [0, 64], piecesB (hosted [] id) 1 (0x2D00000 + o) 64 = true := by decide +kernel
  exact h o m
theorem witness_LapRequests_streams : (hosted [] id).dev.lcn 1023 = 1023 ∧ (hosted [] id).dev.clState 15 = 0 ∧ ((hosted [] id).dev.chan 1023).get CH_STWR_IDX = 0 ∧
    1 ≤ ((hosted [] id).dev.chan 1023).ringFree ∧ ((hosted [] id).dev.chan 1023).on CH_RSTAT_ENDED = false ∧ BankOpen (hosted [] id).dev 36 1 ((hosted [] id).dev.ringAddr 1023 0) 8 15 ∧
    ((hosted [] id (Device.modChan 1023 (Chan.set CH_STSIZE_SIZE 0))).dev.chan 1023).ringFree < 1 ∧ (hosted [] id).dev.lcn 1023 ≠ 2047 :=
  ⟨by decide +kernel, by decide +kernel, by decide +kernel, by decide +kernel, by decide +kernel, bank_of (by decide +kernel), by decide +kernel, by decide +kernel⟩
theorem witness_LapRequests_order : (5 + 1 < 7 ∧ 7 ≤ 5 + 64) ∧ (let x := (hosted [] fun x => { x with done := [(5, [])] }).dev.sessOf 3; 5 ≤ x.rx ∧ x.done.find? (fun e => e.1 == 5) = some (5, []) ∧ x.unacked = []) ∧
    ((hosted [] id).dev.sessOf 3).done.find? (fun e => e.1 == 5) = none ∧ 5 + 64 < 70 ∧ (hosted [] id).dev.findSess 78 = none ∧ 0x3FFFFFFC < 0x40000000 := by decide +kernel

def sentMsg (tries sent : Nat) : LMsg := ⟨8, 6, 0, 0, [], sent, tries⟩
theorem witness_LapSessions : (3 < 4 ∧ 1 < 2) ∧ ((hosted [] id).dev.sessOf 3).unacked.length ≤ 64 ∧ (let x := (hosted [] fun x => { x with ackDue := some 0 }).dev.sessOf 3; x.open_ = true ∧ x.ackDue = some 0 ∧ x.held = []) ∧
    0 + 100 * 204800 ≤ (hosted [] id fun d => { d with dt := 20480000 }).dev.dt ∧
    (let x := (hosted [] fun x => { x with ackDue := some 0, held := [(7, .bad), (69, .bad)] }).dev.sessOf 3; x.held ≠ [] ∧ ∀ r ∈ x.held, x.rx < r.1 ∧ r.1 ≤ x.rx + 64) ∧
    (State.reset.dev.sessOf 3).ackDue = none ∧ (State.reset.dev.sessOf 3).open_ = false ∧
    (∀ n ∈ [0, 255], let d := (hosted [] (fun x => { x with unacked := [sentMsg n 0] }) fun d => { d with dt := 2 ^ 60 }).dev; (d.sessOf 3).unacked = [sentMsg n 0] ∧ (n < d.get LAP_RTO_RETRY ↔ n = 0) ∧
      0 + min (max 1 (d.get LAP_RTO_US) * 2 ^ n) (max 64000 (d.get LAP_RTO_US)) * 204800 ≤ d.dt ∧ (d.sessOf 3).last + 60 * 204800000000 ≤ d.dt) ∧
    (let d := (hosted [] fun x => { x with unacked := [sentMsg 0 10000000] }).dev; d.dt < 10000000 + min (max 1 (d.get LAP_RTO_US) * 2 ^ 0) (max 64000 (d.get LAP_RTO_US)) * 204800 ∧ d.dt < (d.sessOf 3).last + 60 * 204800000000) ∧
    Granted (hosted [] id) 35 1 (devAddr (0x50100 + 16 * 3)) ∧ Granted State.reset 35 1 (devAddr (0x50100 + 16 * 3)) :=
  ⟨by decide, by decide +kernel, by decide +kernel, by decide +kernel, by decide +kernel, by decide +kernel, by decide +kernel, by decide +kernel, by decide +kernel, granted_of (by decide +kernel),
    granted_of (by decide +kernel)⟩

/-- Events and records are delivered on session 3; doorbell 31's low word is held. -/
def reporting (xs : List (Fld × Nat)) (g : Device → Device) : State :=
  hosted ([(LAP_DELIV_EVVALID, 1), (LAP_DELIV_EVSESS, 3), (LAP_DELIV_RECVALID, 1), (LAP_DELIV_RECSESS, 3)] ++ xs) id fun d => g { d with held := [(35, devAddr 0x40008, 9)], evt := [⟨511, 3, 4, some 5⟩] }
def oneRec : Record := ⟨2, 1, 1023, 0, 7, [1, 2], none⟩
theorem witness_EventsToHost : (reporting [] id).served ∧ 2 ^ 32 - 1 < 2 ^ 32 ∧ 16 ≤ 16 ∧ Granted (reporting [] id) 35 1 (devAddr 0x4000C) ∧ findWord 35 (devAddr 0x40008) (reporting [] id).dev.held = some 9 ∧
    (let d := (reporting [(EVT_SRC_ENABLE 511, 1), (EVT_SRC_RHOST 511, 1)] id).dev; d.get LAP_DELIV_EVSESS = 3 ∧ d.on LAP_DELIV_EVVALID = true ∧ (d.sessOf 3).open_ = true ∧ d.on (EVT_SRC_ENABLE 511) = true ∧
      d.on (EVT_SRC_RHOST 511) = true ∧ d.evt = [⟨511, 3, 4, some 5⟩] ∧ 5 ≤ d.dt ∧ 1 ≤ d.eventRoom ∧ (d.sessOf 3).unacked = []) ∧ State.reset.dev.on LAP_DELIV_EVVALID = false ∧ State.reset.dev.on LAP_DELIV_RECVALID = false ∧
    (let d := (reporting [] fun d => { d with records := [oneRec] }).dev; d.on LAP_DELIV_RECVALID = true ∧ d.get LAP_DELIV_RECSESS = 3 ∧ (d.sessOf 3).open_ = true ∧ d.records = [oneRec]) ∧
    ((reporting [] (Device.modCl 15 fun x => { x with records := [oneRec] })).dev.clus 15).records = [oneRec] ∧ 15 < 16 :=
  ⟨served_of (by decide +kernel), by decide, by decide, granted_of (by decide +kernel), by decide +kernel, by decide +kernel, by decide +kernel, by decide +kernel, by decide +kernel, by decide +kernel, by decide⟩

/-! ### Security engine and sessions -/

/-- The security engine changed by `f`; an image header staged at 0x2D00000. -/
def secured (xs : List (Fld × Nat)) (f : Sec → Sec) (g : Device → Device := id) : State := setting ((SEC_STAGE_ADDR, 0x2D00000) :: xs) fun d =>
  g { opened 36 21 d with sec := f d.sec, mem := memWrite 0x2D00000 (0x4656514C + 2 ^ 32 + 2 ^ 48 * 0x10) 8 d.mem }
theorem byte_open {d : Device} {m kind t a : Nat} (h1 : targetOf a = some t) (h2 : t < 20) (h3 : d.allowed m t kind (a / 4096) false = true) (h4 : d.on MEM_BTSTAT_BORROWED = false) (h5 : d.bad = []) :
    BankOpen d m kind a 1 t := ⟨h1, h2, h3, h3, by simp [Device.stalled, h4], fun u _ => by simp [h5]⟩
theorem witness_SecurityCommands : (secured [] id).powered ∧ Granted (secured [] id) 35 1 (devAddr 0x60004) ∧ (secured [] id).dev.on SEC_STAT_BUSY = false ∧ (secured [(SEC_STAT_BUSY, 1)] id).dev.on SEC_STAT_BUSY = true ∧
    Granted (secured [(SEC_STAT_BUSY, 1)] id) 35 1 (devAddr 0x60004) ∧ (let d := (secured [] id).dev; let at_ := fun o n => memRead d.mem (d.get SEC_STAGE_ADDR + o) n;
      at_ 0 4 = 0x4656514C ∧ at_ 4 1 = 1 ∧ at_ 6 1 = 0x10 ∧ at_ 5 1 = 0 ∧ d.sec.fused = 0) ∧ (secured [] fun z => { z with fused := 1 }).dev.sec.fused = 1 ∧ memRead State.reset.dev.mem (State.reset.dev.get SEC_STAGE_ADDR) 4 ≠ 0x4656514C ∧
    (∀ b ∈ [0, 1], (secured [(SEC_BOOT_TRIAL, b), (SEC_STAT_IDERR, b)] id).dev.on SEC_BOOT_TRIAL = (b == 1) ∧ (secured [(SEC_BOOT_TRIAL, b), (SEC_STAT_IDERR, b)] id).dev.on SEC_STAT_IDERR = (b == 1)) ∧
    (State.reset.dev.chip 7).traced = [] ∧ ((secured [] id (Device.modAfe 7 fun x => { x with traced := [{ point := 3, value := 5 }] })).dev.chip 7).traced ≠ [] ∧ Granted (secured [] id) 36 1 (devAddr 0x60004) ∧
    (∀ st ∈ [7, 15], (secured [(SEC_BOOT_STATE, st)] id).dev.get SEC_BOOT_STATE = st) ∧ (7 < 8 ∧ 3 < 4) ∧ Granted State.reset 35 1 (devAddr (0x60100 + 32 * 3 + 4 * 7)) :=
  ⟨powered_of (by decide +kernel), granted_of (by decide +kernel), by decide +kernel, by decide +kernel, granted_of (by decide +kernel), by decide +kernel, by decide +kernel, by decide +kernel, by decide +kernel,
    by decide +kernel, by decide +kernel, granted_of (by decide +kernel), by decide +kernel, by decide, granted_of (by decide +kernel)⟩
/-- The Lamplighter may write target 15; ATTEST stores at 0x2D00000. -/
def attesting : State := secured [(SEC_ATTADDR_ADDR, 0x2D00000)] (fun z => { z with op := 4 }) (opened 35 15)
theorem witness_SecurityCommands_ends : (let z := (secured [] fun z => { z with op := 1, image := some ⟨true, 3⟩ }).dev.sec; z.op = 1 ∧ z.image = some ⟨true, 3⟩ ∧ z.patch = none) ∧
    (let z := (secured [] fun z => { z with op := 2, patch := some ⟨3, 0, true, 0⟩ }).dev.sec; z.op = 2 ∧ z.image = none ∧ z.patch = some ⟨3, 0, true, 0⟩ ∧ z.flash.store.length < 16) ∧ State.reset.dev.sec.op = 0 ∧
    attesting.dev.sec.op = 4 ∧ attesting.dev.get SEC_ATTADDR_ADDR / 64 * 64 = 0x2D00000 ∧ (∀ i, i < 50752 → BankOpen attesting.dev 35 1 (0x2D00000 + i) 1 15) ∧ (List.replicate 49856 0).length = 49856 ∧
    (∀ b ∈ List.replicate 49856 0, b < 256) ∧ (let d := (secured [] fun z => { z with op := 5 }).dev; d.sec.op = 5 ∧ d.records.length < 256) ∧
    256 ≤ (secured [] (fun z => { z with op := 5 }) fun d => { d with records := List.replicate 256 oneRec }).dev.records.length := by
  refine ⟨by decide +kernel, by decide +kernel, by decide +kernel, by decide +kernel, by decide +kernel, fun i h => ?_, List.length_replicate .., fun b h => ?_, by decide +kernel, by decide +kernel⟩
  · have ok : ∀ q, q < 13 → attesting.dev.allowed 35 15 1 (0x2D00 + q) false = true := by decide +kernel
    have hq : (0x2D00000 + i) / 4096 = 0x2D00 + i / 4096 := by omega
    refine byte_open ?_ (by decide) (hq ▸ ok _ (by omega)) (by decide +kernel) (by decide +kernel)
    have h0 : 0x2D00000 + i < 0x3000000 := by omega
    have h1 : (0x2D00000 + i) / 0x300000 = 15 := by omega
    simp [targetOf, h0, h1]
  · rw [List.eq_of_mem_replicate h]; decide
theorem witness_SessionSetup : Granted (secured [] id) 35 1 (devAddr 0x60200) ∧ (let d := (secured [] fun z => { z with setup := some (0, false) }).dev; d.sec.setup = some (0, false) ∧ d.dt < 0 + 204800000000) ∧
    (secured [] id).dev.sec.setup = none ∧ (secured [(SEC_STAT_IDERR, 1)] id).dev.on SEC_STAT_IDERR = true ∧ (secured [] id).dev.on SEC_STAT_IDERR = false ∧ (List.replicate 32 7).length = 32 ∧
    (List.replicate 1184 7).length = 1184 ∧ (List.replicate 49856 7).length = 49856 ∧ (∀ b ∈ List.replicate 32 7 ++ List.replicate 1184 7 ++ List.replicate 49856 7, b < 256) ∧
    (∀ n ∈ [0, 4], let s := secured [(SEC_BOOT_STATE, 7)] (fun z => { z with setup := some (0, true) }) fun d => { d with sess := (List.range n).foldl (fun t i => t.modify i fun x => { x with open_ := true }) d.sess };
      s.dev.get SEC_BOOT_STATE = 7 ∧ s.dev.sec.setup = some (0, true) ∧ ((s.dev.sess.filter fun x => x.open_).length < 4 ↔ n = 0)) ∧ (secured [(SEC_BOOT_STATE, 7)] id).dev.get SEC_BOOT_STATE = 7 ∧
    (secured [(SEC_BOOT_STATE, 6)] id).dev.get SEC_BOOT_STATE ≠ 7 ∧ (let d := (secured [] (fun z => { z with setup := some (0, true) }) fun d => { d with dt := 204800000000 }).dev; d.sec.setup = some (0, true) ∧ ¬ d.dt < 0 + 204800000000) := by
  refine ⟨granted_of (by decide +kernel), by decide +kernel, by decide +kernel, by decide +kernel, by decide +kernel, rfl, List.length_replicate .., List.length_replicate .., fun b h => ?_, by decide +kernel, by decide +kernel,
    by decide +kernel, by decide +kernel⟩
  simp only [List.mem_append] at h
  obtain (h | h) | h := h <;> rw [List.eq_of_mem_replicate h] <;> decide

/-! ### Display, whole-machine rules -/

/-- Output 1 changed by `f`, device fields set. -/
def shown (xs : List (Fld × Nat)) (f : Dsp → Dsp) : State := setting xs fun d => opened 34 18 { d with dsp := d.dsp.modify 1 f }
def aLayer : DLayer := { en := true, fmt := 2, x := 3, y := 2, w := 4, h := 5, stride := 64, addr := 0x3C00000 }
/-- A mode that the link does not carry. -/
def tooFast : List (Fld × Nat) := [(DSP_LINK_LANES 1, 0), (DSP_LINK_RATE 1, 0), (DSP_PCLK_KHZ 1, 300000)]
theorem witness_DisplayOutputs : (shown [] id).powered ∧ (1 < 2 ∧ 2 < 3) ∧ Granted (shown tooFast id) 35 1 (devAddr (0x90020 + 4096 * 1)) ∧ (let d := (shown tooFast id).dev;
      d.get (DSP_LINK_LANES 1) = 0 ∧ d.get (DSP_LINK_RATE 1) = 0 ∧ ¬ d.get (DSP_PCLK_KHZ 1) * 240 ≤ 1 * 1620000 * 8) ∧
    (∀ b : Bool, let d := (shown [] fun z => { z with failed := b }).dev; d.get (DSP_HTIM0_HACT 1) ≤ 2560 ∧ d.get (DSP_VTIM0_VACT 1) ≤ 1600 ∧
      (∀ v ∈ [DSP_HTIM0_HFP 1, DSP_HTIM1_HSYNC 1, DSP_HTIM1_HBP 1, DSP_VTIM0_VFP 1, DSP_VTIM1_VSYNC 1, DSP_VTIM1_VBP 1], 1 ≤ d.get v) ∧ 25000 ≤ d.get (DSP_PCLK_KHZ 1) ∧ d.get (DSP_PCLK_KHZ 1) ≤ 300000 ∧
      d.get (DSP_PCLK_KHZ 1) * 240 ≤ [1, 2, 4, 0].getD (d.get (DSP_LINK_LANES 1)) 0 * [1620000, 2700000, 5400000, 0].getD (d.get (DSP_LINK_RATE 1)) 0 * 8 ∧ (d.dspOf 1).failed = b) ∧
    (∀ h ∈ [0, 1], ∀ f ∈ [2, 3], let d := (shown [(DSP_STAT_ACTIVE 1, 1), (DSP_CTL_HOLD 1, h), (DSP_LCTL_FMT 1 2, f), (DSP_LCTL_EN 1 2, 1)] fun z => { z with blank := false, layers := [{}, {}, aLayer] }).dev;
      d.on (DSP_STAT_ACTIVE 1) = true ∧ (d.dspOf 1).blank = false ∧ d.on (DSP_CTL_HOLD 1) = (h == 1) ∧ (d.dspLayer 1 2).fmt = f ∧ (d.dspLayer 1 2).en = true ∧ (d.dspOf 1).layers.length = 3 ∧
      ((d.dspOf 1).layers.getD 2 {}).addr ≠ (d.dspLayer 1 2).addr) ∧
    (∀ k ∈ [0x418D4, 5], let z := (shown [(DSP_STAT_ACTIVE 1, 1)] fun z => { z with blank := false, staged := some { khz := k } }).dev.dspOf 1; z.staged = some { khz := k } ∧ (k = z.mode.khz ↔ k = 0x418D4)) ∧
    State.reset.dev.on (DSP_STAT_ACTIVE 1) = false :=
  ⟨powered_of (by decide +kernel), by decide, granted_of (by decide +kernel), by decide +kernel, by decide +kernel, by decide +kernel, by decide +kernel, by decide +kernel⟩
theorem witness_DisplayOutputs_link : (∀ b : Bool, let d := (shown [(DSP_STAT_RETRAIN 1, 1)] fun z => { z with fresh := b }).dev; d.on (DSP_STAT_RETRAIN 1) = true ∧ (d.dspOf 1).failed = false ∧ (d.dspOf 1).fresh = b) ∧
    State.reset.dev.on (DSP_STAT_RETRAIN 1) = false ∧ (∀ h ∈ [0, 1], let d := (shown [(DSP_STAT_HPD 1, h), (DSP_CTL_EN 1, 1), (DSP_CTL_PWR 1, 1)] id).dev; d.on (DSP_STAT_HPD 1) = (h == 1) ∧ d.on (DSP_CTL_EN 1) = true ∧
      d.on (DSP_CTL_PWR 1) = true ∧ d.on (DSP_STAT_ACTIVE 1) = false ∧ d.on (DSP_STAT_RETRAIN 1) = false) := by decide +kernel
theorem witness_DisplayOutputs_lines : (let d := (shown [(DSP_STAT_ACTIVE 1, 1)] fun z => { z with blank := false }).dev; d.on (DSP_STAT_ACTIVE 1) = true ∧ 2 < (d.dspOf 1).mode.vact) ∧
    (∀ j, ((shown [(DSP_STAT_ACTIVE 1, 1)] fun z => { z with blank := false }).dev.dspOf 1).layers.getD j {} = ({} : DLayer)) ∧
    (let d := (shown [(DSP_STAT_ACTIVE 1, 1)] fun z => { z with blank := false, layers := [aLayer, {}, {}] }).dev; let z := d.dspOf 1; z.layers = [aLayer, {}, {}] ∧ (aLayer.en = true ∧ aLayer.fmt = 2 ∧ aLayer.y ≤ 2 ∧
      2 < aLayer.y + aLayer.h) ∧ d.soft = [] ∧ (3 < z.mode.hact ∧ aLayer.x ≤ 3 ∧ 6 < aLayer.x + aLayer.w ∧ 7 < z.mode.hact ∧ aLayer.x + aLayer.w ≤ 7)) ∧
    (∀ q, 0x3C00000 ≤ q + 31 → q < 0x3C00000 + 4 * aLayer.w → q % 32 = 0 → ∃ t, BankOpen (shown [(DSP_STAT_ACTIVE 1, 1)] fun z => { z with blank := false, layers := [aLayer, {}, {}] }).dev 34 4 q 32 t) := by
  refine ⟨by decide +kernel, fun j => ?_, by decide +kernel, fun q h1 h2 h3 => ?_⟩
  · have h : ((shown [(DSP_STAT_ACTIVE 1, 1)] fun z => { z with blank := false }).dev.dspOf 1).layers = [{}, {}, {}] := by decide +kernel
    rw [h]
    match j with
    | 0 => rfl
    | 1 => rfl
    | 2 => rfl
    | j + 3 => rfl
  · obtain rfl : q = 0x3C00000 := by simp only [aLayer] at h2; omega
    exact ⟨18, bank_of (by decide +kernel)⟩

/-- Device time runs. -/
def running : State := setting [(TB_STAT_DT_VALID, 1), (TB_ISLOCK_LOCK, 1)] id
theorem witness_IdleTick : running.pending = [] ∧ (let d := running.dev; d.pw.phase = 2 ∧ d.on TB_STAT_DT_VALID = true ∧ bit (d.get TB_ISLOCK_LOCK) 0 = true ∧ d.tb.load = none ∧ d.tb.stepBy = none) ∧
    (∀ k c, (running.dev.thread k c).onStore = false) ∧ (∀ k, (running.dev.clus k).stage = []) ∧ (offState 0 true).dev.pw.phase ≠ 2 := by
  have h : running.dev.cl = Tab.all_ {} := by unfold running setting st; rfl
  refine ⟨by decide +kernel, by decide +kernel, fun k c => ?_, fun k => ?_, by decide +kernel⟩
  · simp only [Device.thread, Device.clus, h, Tab.getD_all]
    rfl
  · simp only [Device.clus, h, Tab.getD_all]
theorem witness_PowerGate : (offState 0 true).dev.pw.phase ≠ 2 ∧ (Instr.nop 15 63).thread ≠ none ∧ (st fun d => { d with pw := { d.pw with failAt := some 5 } }).dev.pw.failAt ≠ none := ⟨by decide +kernel, by decide, by decide +kernel⟩
theorem witness_RoundTrip : (Instr.add 15 63 15 15 (.imm (-1))).wf = true ∧ (Instr.add 15 63 15 15 (.imm (-1))).thread = some (15, 63) := by decide
theorem witness_DecodeExact : addW < 2 ^ 64 ∧ 15 < 16 ∧ 63 < 64 ∧ decodeThread 15 63 addW = some (.add 15 63 3 3 (.imm (-1))) := by decide

/-! ### Words that encode no instruction; memory -/

/-- Every field of an encoding below its width, and the opcode below 0x93. -/
def Small (e : Enc) : Prop := e.op < 0x93 ∧ e.d < 16 ∧ e.a < 16 ∧ e.b < 16 ∧ e.md < 4096 ∧ e.imm < 2 ^ 32

theorem small_pack {e : Enc} (h : Small e) : e.pack < 0x93 * 2 ^ 56 := by
  obtain ⟨h1, h2, h3, h4, h5, h6⟩ := h
  unfold Enc.pack
  omega

theorem uns_small (v : Int) : uns 32 v < 2 ^ 32 := by
  unfold uns
  omega

theorem b2n_small (b : Bool) : b2n b ≤ 1 := by cases b <;> decide

theorem small_withB {op d a md : Nat} {b : Opnd} (h : op < 0x93 ∧ d < 16 ∧ a < 16 ∧ md < 2048) (hb : opndOk b = true) : Small (Enc.withB op d a md b) := by
  cases b with
  | reg n => simp only [opndOk, decide_eq_true_eq] at hb; exact ⟨h.1, h.2.1, h.2.2.1, hb, by simp only [Enc.withB]; omega, Nat.two_pow_pos 32⟩
  | imm v => exact ⟨h.1, h.2.1, h.2.2.1, Nat.zero_lt_succ 15, by simp only [Enc.withB]; omega, uns_small v⟩
theorem encodeControl_small {i : Instr} {e : Enc} (h : encodeControl i = some e) (hw : i.wf = true) : Small e := by
  unfold encodeControl at h
  split at h <;> first
    | (cases h; done)
    | (obtain rfl := Option.some.inj h
       simp [Instr.wf, rdsItems] at hw
       first
         | exact small_withB (by omega) (by tauto)
         | exact small_withB (by unfold b2n; (repeat' split) <;> omega) (by tauto)
         | (simp only [Small, Enc.jump, Enc.wait, b2n]
            refine ⟨?_, ?_, ?_, ?_, ?_, ?_⟩ <;> first | exact uns_small _ | omega | ((repeat' split) <;> omega)))

theorem encodeData_small {i : Instr} {e : Enc} (h : encodeData i = some e) (hw : i.wf = true) : Small e := by
  unfold encodeData at h
  split at h <;> first
    | (cases h; done)
    | (obtain rfl := Option.some.inj h
       simp [Instr.wf, classOk, rdsItems] at hw
       first
         | exact small_withB (by omega) (by tauto)
         | exact small_withB (by unfold b2n; (repeat' split) <;> omega) (by tauto)
         | (simp only [Small, Enc.jump, Enc.wait, b2n]
            refine ⟨?_, ?_, ?_, ?_, ?_, ?_⟩ <;> first | exact uns_small _ | omega | ((repeat' split) <;> omega)))

theorem encodeStepArea_small {i : Instr} {e : Enc} (h : encodeStepArea i = some e) (hw : i.wf = true) : Small e := by
  unfold encodeStepArea at h
  split at h <;> first
    | (cases h; done)
    | (obtain rfl := Option.some.inj h
       simp [Instr.wf, stepOk, rdsItems] at hw
       first
         | exact small_withB (by omega) (by tauto)
         | exact small_withB (by unfold b2n; (repeat' split) <;> omega) (by tauto)
         | (simp only [Small, Enc.jump, Enc.wait, b2n]
            refine ⟨?_, ?_, ?_, ?_, ?_, ?_⟩ <;> first | exact uns_small _ | omega | ((repeat' split) <;> omega)))

theorem encodeMeasure_small {i : Instr} {e : Enc} (h : encodeMeasure i = some e) (hw : i.wf = true) : Small e := by
  unfold encodeMeasure at h
  split at h <;> first
    | (cases h; done)
    | (obtain rfl := Option.some.inj h
       simp [Instr.wf, rdsItems] at hw
       first
         | exact small_withB (by omega) (by tauto)
         | exact small_withB (by unfold b2n; (repeat' split) <;> omega) (by tauto)
         | (simp only [Small, Enc.jump, Enc.wait, b2n]
            refine ⟨?_, ?_, ?_, ?_, ?_, ?_⟩ <;> first | exact uns_small _ | omega | ((repeat' split) <;> omega)))

theorem encodeMotion_small {i : Instr} {e : Enc} (h : encodeMotion i = some e) (hw : i.wf = true) : Small e := by
  unfold encodeMotion at h
  split at h <;> first
    | (cases h; done)
    | (obtain rfl := Option.some.inj h
       simp [Instr.wf, rdsItems] at hw
       first
         | exact small_withB (by omega) (by tauto)
         | exact small_withB (by unfold b2n; (repeat' split) <;> omega) (by tauto)
         | (simp only [Small, Enc.jump, Enc.wait, b2n]
            refine ⟨?_, ?_, ?_, ?_, ?_, ?_⟩ <;> first | exact uns_small _ | omega | ((repeat' split) <;> omega)))

theorem encode_below {i : Instr} {w : Nat} (h : encode i = some w) (hw : i.wf = true) : w < 0x93 * 2 ^ 56 := by
  unfold encode at h
  cases h1 : encodeControl i with
  | some e => simp only [h1, Option.some_or, Option.map_some] at h; exact Option.some.inj h ▸ small_pack (encodeControl_small h1 hw)
  | none =>
  cases h2 : encodeData i with
  | some e => simp only [h1, h2, Option.none_or, Option.some_or, Option.map_some] at h; exact Option.some.inj h ▸ small_pack (encodeData_small h2 hw)
  | none =>
  cases h3 : encodeStepArea i with
  | some e => simp only [h1, h2, h3, Option.none_or, Option.some_or, Option.map_some] at h; exact Option.some.inj h ▸ small_pack (encodeStepArea_small h3 hw)
  | none =>
  cases h4 : encodeMeasure i with
  | some e => simp only [h1, h2, h3, h4, Option.none_or, Option.some_or, Option.map_some] at h; exact Option.some.inj h ▸ small_pack (encodeMeasure_small h4 hw)
  | none =>
  cases h5 : encodeMotion i with
  | some e => simp only [h1, h2, h3, h4, h5, Option.none_or, Option.map_some] at h; exact Option.some.inj h ▸ small_pack (encodeMotion_small h5 hw)
  | none => simp only [h1, h2, h3, h4, h5, Option.none_or, Option.map_none] at h; cases h

theorem witness_IllegalWords : (loadedWith (0xF0 * 2 ^ 56) id id).powered ∧ 15 < 16 ∧ 63 < 64 ∧
    (let w := 0xF0 * 2 ^ 56; let d := (loadedWith w id id).dev; let x := d.clus 15; let t := d.thread 15 63; let en := x.entry (bits w 56 8)
     x.on MCE_CTL_LOADED = true ∧ d.clState 15 = 0 ∧ t.state = 1 ∧ t.issued = none ∧ t.traps = [] ∧ t.pc < x.get SEQ_PSIZE_WORDS ∧
      w = memRead d.mem (targetBase 15 + x.get SEQ_PBASE_BASE + 8 * t.pc) 8 ∧ (bit en 14 = true → t.on SEQ_TCFG_PRIV = true) ∧ (∀ e ∈ x.bars, bit e.2 63 = false) ∧
      (listedOp (bits w 56 8) = false ∧ en % 8192 = 0x80)) ∧
    BankOpen (loadedWith (0xF0 * 2 ^ 56) id id).dev 15 3 0x2D00108 8 15 ∧
    (∀ i : Instr, i.wf = true → i.thread = some (15, 63) → encode i ≠ some (0xF0 * 2 ^ 56)) ∧
    ((Instr.nop 15 63).wf = true ∧ encode (.nop 15 63) = some 0) :=
  ⟨powered_of (by decide +kernel), by decide, by decide, by decide +kernel, bank_of (by decide +kernel), fun i hw _ h => absurd (encode_below h hw) (by decide), by decide⟩

/-- A memory that lists bytes, and a store about to run. -/
def storeNext : State := { loadedWith addW id (fun t => t.set SEQ_TSTAT_STATE 1) with pending := [.st 15 63 0 1 8 3] }
theorem witness_MemoryCanonical : Memory.wf storeNext.dev.mem = true ∧ storeNext.dev.mem.length = 7 ∧ ∃ t, step storeNext = .next t :=
  ⟨by decide +kernel, by decide +kernel, _, rfl⟩

/-! ### Ill-formed commands: one for each check of Instr.wf, which refuses it -/

theorem test_wf_refuses_1 : [.nop 16 0, .nop 0 64, .halt 16 0 false 0, .halt 0 64 false 0, .halt 0 0 false 256, .jmp 16 0 0, .jmp 0 64 0, .jmp 0 0 4294967296, .jcc 16 0 0 0, .jcc 0 64 0 0, .jcc 0 0 23 0, .jcc 0 0 0 4294967296, .call 16 0 0 0, .call 0 64 0 0, .call 0 0 23 0, .call 0 0 0 4294967296, .ret 16 0 0, .ret 0 64 0, .ret 0 0 23, .loop 16 0 0 0, .loop 0 64 0 0, .loop 0 0 4 0, .loop 0 0 0 4294967296, .waitc 16 0 0 0 0, .waitc 0 64 0 0 0, .waitc 0 0 12 0 0, .waitc 0 0 0 16 0, .waitc 0 0 0 0 281474976710656, .waitt 16 0 0 0 0, .waitt 0 64 0 0 0, .waitt 0 0 3 0 0, .waitt 0 0 0 16 0, .waitt 0 0 0 0 281474976710656, .sync 16 0 0 0 0, .sync 0 64 0 0 0, .sync 0 0 16 0 0, .sync 0 0 0 16 0, .sync 0 0 0 0 281474976710656, .yield 16 0, .yield 0 64, .signal 16 0 0 (.reg 0), .signal 0 64 0 (.reg 0), .signal 0 0 16 (.reg 0), .signal 0 0 0 (.reg 16), .signal 0 0 0 (.imm (2 ^ 31)), .fence 16 0, .fence 0 64, .movi 16 0 0 0 false 0, .movi 0 64 0 0 false 0, .movi 0 0 16 0 false 0, .movi 0 0 0 0 false (2 ^ 31), .movi 0 0 0 0 false (-2 ^ 31 - 1), .movi 0 0 0 2 false 0, .movi 0 0 0 1 true 0, .movi 0 0 4 1 false 0, .mov 16 0 0 0 0 0, .mov 0 64 0 0 0 0, .mov 0 0 16 0 0 0, .mov 0 0 0 16 0 0, .mov 0 0 0 0 3 0].all (fun i : Instr => i.wf == false) = true := by decide +kernel
theorem test_wf_refuses_2 : [.mov 0 0 4 0 1 0, .mov 0 0 1 0 2 0, .mov 0 0 0 0 0 3, .mov 0 0 0 4 0 1, .mov 0 0 0 1 0 2, .ld 16 0 0 0 0 false 0, .ld 0 64 0 0 0 false 0, .ld 0 0 16 0 0 false 0, .ld 0 0 0 16 0 false 0, .ld 0 0 0 0 (2 ^ 31) false 0, .ld 0 0 0 0 (-2 ^ 31 - 1) false 0, .ld 0 0 0 0 0 false 4, .st 16 0 0 0 0 0, .st 0 64 0 0 0 0, .st 0 0 16 0 0 0, .st 0 0 0 0 (2 ^ 31) 0, .st 0 0 0 0 (-2 ^ 31 - 1) 0, .st 0 0 0 0 0 4, .st 0 0 0 16 0 0, .add 16 0 0 0 (.reg 0), .add 0 64 0 0 (.reg 0), .add 0 0 16 0 (.reg 0), .add 0 0 0 16 (.reg 0), .add 0 0 0 0 (.reg 16), .add 0 0 0 0 (.imm (2 ^ 31)), .sub 16 0 0 0 (.reg 0), .sub 0 64 0 0 (.reg 0), .sub 0 0 16 0 (.reg 0), .sub 0 0 0 16 (.reg 0), .sub 0 0 0 0 (.reg 16), .sub 0 0 0 0 (.imm (2 ^ 31)), .mul 16 0 0 0 (.reg 0) false false, .mul 0 64 0 0 (.reg 0) false false, .mul 0 0 16 0 (.reg 0) false false, .mul 0 0 0 16 (.reg 0) false false, .mul 0 0 0 0 (.reg 16) false false, .mul 0 0 0 0 (.imm (2 ^ 31)) false false, .divq 16 0 0 0 (.reg 0) false false, .divq 0 64 0 0 (.reg 0) false false, .divq 0 0 16 0 (.reg 0) false false, .divq 0 0 0 16 (.reg 0) false false, .divq 0 0 0 0 (.reg 16) false false, .divq 0 0 0 0 (.imm (2 ^ 31)) false false, .and 16 0 0 0 (.reg 0), .and 0 64 0 0 (.reg 0), .and 0 0 16 0 (.reg 0), .and 0 0 0 16 (.reg 0), .and 0 0 0 0 (.reg 16), .and 0 0 0 0 (.imm (2 ^ 31)), .or 16 0 0 0 (.reg 0), .or 0 64 0 0 (.reg 0), .or 0 0 16 0 (.reg 0), .or 0 0 0 16 (.reg 0), .or 0 0 0 0 (.reg 16), .or 0 0 0 0 (.imm (2 ^ 31)), .xor 16 0 0 0 (.reg 0), .xor 0 64 0 0 (.reg 0), .xor 0 0 16 0 (.reg 0), .xor 0 0 0 16 (.reg 0), .xor 0 0 0 0 (.reg 16)].all (fun i : Instr => i.wf == false) = true := by decide +kernel
theorem test_wf_refuses_3 : [.xor 0 0 0 0 (.imm (2 ^ 31)), .shl 16 0 0 0 (.reg 0), .shl 0 64 0 0 (.reg 0), .shl 0 0 16 0 (.reg 0), .shl 0 0 0 16 (.reg 0), .shl 0 0 0 0 (.reg 16), .shl 0 0 0 0 (.imm (2 ^ 31)), .shr 16 0 0 0 (.reg 0) false, .shr 0 64 0 0 (.reg 0) false, .shr 0 0 16 0 (.reg 0) false, .shr 0 0 0 16 (.reg 0) false, .shr 0 0 0 0 (.reg 16) false, .shr 0 0 0 0 (.imm (2 ^ 31)) false, .cmp 16 0 0 (.reg 0), .cmp 0 64 0 (.reg 0), .cmp 0 0 16 (.reg 0), .cmp 0 0 0 (.reg 16), .cmp 0 0 0 (.imm (2 ^ 31)), .min 16 0 0 0 (.reg 0) false, .min 0 64 0 0 (.reg 0) false, .min 0 0 16 0 (.reg 0) false, .min 0 0 0 16 (.reg 0) false, .min 0 0 0 0 (.reg 16) false, .min 0 0 0 0 (.imm (2 ^ 31)) false, .max 16 0 0 0 (.reg 0) false, .max 0 64 0 0 (.reg 0) false, .max 0 0 16 0 (.reg 0) false, .max 0 0 0 16 (.reg 0) false, .max 0 0 0 0 (.reg 16) false, .max 0 0 0 0 (.imm (2 ^ 31)) false, .sel 16 0 0 0 (.reg 0) 0, .sel 0 64 0 0 (.reg 0) 0, .sel 0 0 16 0 (.reg 0) 0, .sel 0 0 0 16 (.reg 0) 0, .sel 0 0 0 0 (.reg 16) 0, .sel 0 0 0 0 (.imm (2 ^ 31)) 0, .sel 0 0 0 0 (.reg 0) 23, .rds 16 0 0 0, .rds 0 64 0 0, .rds 0 0 16 0, .rds 0 0 0 2, .tlu 16 0 0 0 (.reg 0), .tlu 0 64 0 0 (.reg 0), .tlu 0 0 16 0 (.reg 0), .tlu 0 0 0 16 (.reg 0), .tlu 0 0 0 0 (.reg 16), .tlu 0 0 0 0 (.imm (2 ^ 31)), .atadd 16 0 0 0 (.reg 0) false false 0, .atadd 0 64 0 0 (.reg 0) false false 0, .atadd 0 0 16 0 (.reg 0) false false 0, .atadd 0 0 0 16 (.reg 0) false false 0, .atadd 0 0 0 0 (.reg 16) false false 0, .atadd 0 0 0 0 (.imm (2 ^ 31)) false false 0, .atadd 0 0 0 0 (.reg 0) false false 2, .step 16 0 ⟨0, 0, 0, 0, 0, 0, false, false, 0⟩, .step 0 64 ⟨0, 0, 0, 0, 0, 0, false, false, 0⟩, .step 0 0 ⟨16, 0, 0, 0, 0, 0, false, false, 0⟩, .step 0 0 ⟨6, 16, 0, 0, 0, 0, false, false, 0⟩, .step 0 0 ⟨0, 0, 16, 0, 0, 0, false, false, 0⟩, .step 0 0 ⟨0, 0, 0, 16, 0, 0, false, false, 0⟩].all (fun i : Instr => i.wf == false) = true := by decide +kernel
theorem test_wf_refuses_4 : [.step 0 0 ⟨0, 0, 0, 0, 16, 0, false, false, 0⟩, .step 0 0 ⟨0, 0, 0, 0, 0, 3, false, false, 0⟩, .step 0 0 ⟨0, 0, 0, 0, 0, 0, false, false, 4294967296⟩, .step 0 0 ⟨0, 0, 0, 0, 0, 0, true, false, 1⟩, .step 0 0 ⟨6, 1, 0, 0, 0, 0, false, true, 0⟩, .step 0 0 ⟨0, 1, 0, 0, 0, 0, false, false, 0⟩, .step 0 0 ⟨10, 1, 0, 0, 0, 0, false, false, 0⟩, .step 0 0 ⟨5, 0, 0, 0, 0, 0, false, true, 0⟩, .setp 16 0 0 (.reg 0), .setp 0 64 0 (.reg 0), .setp 0 0 0 (.reg 16), .setp 0 0 0 (.imm (2 ^ 31)), .setp 0 0 5 (.reg 0), .limit 16 0 0 false (.reg 0), .limit 0 64 0 false (.reg 0), .limit 0 0 0 false (.reg 16), .limit 0 0 0 false (.imm (2 ^ 31)), .limit 0 0 4 false (.reg 0), .expect 16 0 0 0 (.reg 0), .expect 0 64 0 0 (.reg 0), .expect 0 0 0 0 (.reg 16), .expect 0 0 0 0 (.imm (2 ^ 31)), .expect 0 0 16 0 (.reg 0), .expect 0 0 0 6 (.reg 0), .expectCheck 16 0 0, .expectCheck 0 64 0, .expectCheck 0 0 16, .endc 16 0 0 false (.reg 0), .endc 0 64 0 false (.reg 0), .endc 0 0 0 false (.reg 16), .endc 0 0 0 false (.imm (2 ^ 31)), .endc 0 0 16 false (.reg 0), .irange 16 0 0, .irange 0 64 0, .irange 0 0 2, .psrange 16 0 0 false, .psrange 0 64 0 false, .psrange 0 0 4 false, .soft 16 0 (.reg 0), .soft 0 64 (.reg 0), .soft 0 0 (.reg 16), .soft 0 0 (.imm (2 ^ 31)), .snuff 16 0, .snuff 0 64, .enable 16 0, .enable 0 64, .ldtab 16 0 0 0 0 0, .ldtab 0 64 0 0 0 0, .ldtab 0 0 16 0 0 0, .ldtab 0 0 0 16 0 0, .ldtab 0 0 0 0 16 0, .fmt 16 0 0 (.reg 0), .fmt 0 64 0 (.reg 0), .fmt 0 0 0 (.reg 16), .fmt 0 0 0 (.imm (2 ^ 31)), .fmt 0 0 16 (.reg 0), .fmtLoad 16 0 0, .fmtLoad 0 64 0, .fmtLoad 0 0 16, .meas 16 0 0 false false (.reg 0)].all (fun i : Instr => i.wf == false) = true := by decide +kernel
theorem test_wf_refuses_5 : [.meas 0 64 0 false false (.reg 0), .meas 0 0 16 false false (.reg 0), .meas 0 0 0 false false (.reg 16), .meas 0 0 0 false false (.imm (2 ^ 31)), .measAsync 16 0 false false (.reg 0), .measAsync 0 64 false false (.reg 0), .measAsync 0 0 false false (.reg 16), .measAsync 0 0 false false (.imm (2 ^ 31)), .measCollect 16 0 0 false, .measCollect 0 64 0 false, .measCollect 0 0 16 false, .accRc 16 0 0, .accRc 0 64 0, .accRc 0 0 16, .accClr 16 0, .accClr 0 64, .arm 16 0 0 (.reg 0), .arm 0 64 0 (.reg 0), .arm 0 0 16 (.reg 0), .arm 0 0 0 (.reg 16), .arm 0 0 0 (.imm (2 ^ 31)), .armDis 16 0 0, .armDis 0 64 0, .armDis 0 0 16, .trigEdge 16 0 0 0 0 (.reg 0), .trigEdge 0 64 0 0 0 (.reg 0), .trigEdge 0 0 0 0 16 (.reg 0), .trigEdge 0 0 0 0 0 (.reg 16), .trigEdge 0 0 0 0 0 (.imm (2 ^ 31)), .trigEdge 0 0 4 0 0 (.reg 0), .trigEdge 0 0 0 4 0 (.reg 0), .trigEdge 0 0 0 3 1 (.reg 0), .trigCapture 16 0, .trigCapture 0 64, .trigBeacon 16 0 false (.reg 0), .trigBeacon 0 64 false (.reg 0), .trigBeacon 0 0 false (.reg 16), .trigBeacon 0 0 false (.imm (2 ^ 31)), .mark 16 0 (.reg 0), .mark 0 64 (.reg 0), .mark 0 0 (.reg 16), .mark 0 0 (.imm (2 ^ 31)), .markStep 16 0 (.reg 0), .markStep 0 64 (.reg 0), .markStep 0 0 (.reg 16), .markStep 0 0 (.imm (2 ^ 31)), .record 16 0 0 0 (.reg 0), .record 0 64 0 0 (.reg 0), .record 0 0 0 16 (.reg 0), .record 0 0 0 0 (.reg 16), .record 0 0 0 0 (.imm (2 ^ 31)), .record 0 0 256 0 (.reg 0), .imped 16 0 false (.reg 0), .imped 0 64 false (.reg 0), .imped 0 0 false (.reg 16), .imped 0 0 false (.imm (2 ^ 31)), .stampArm 16 0 0, .stampArm 0 64 0, .stampArm 0 0 8, .stampDis 16 0 0].all (fun i : Instr => i.wf == false) = true := by decide +kernel
theorem test_wf_refuses_6 : [.stampDis 0 64 0, .stampDis 0 0 8, .stampRd 16 0 0 0, .stampRd 0 64 0 0, .stampRd 0 0 16 0, .stampRd 0 0 0 8, .stampCfg 16 0 0 0 (.reg 0), .stampCfg 0 64 0 0 (.reg 0), .stampCfg 0 0 0 16 (.reg 0), .stampCfg 0 0 0 0 (.reg 16), .stampCfg 0 0 0 0 (.imm (2 ^ 31)), .stampCfg 0 0 8 0 (.reg 0), .strmCfg 16 0 0 0, .strmCfg 0 64 0 0, .strmCfg 0 0 16 0, .strmCfg 0 0 0 16, .strmReset 16 0, .strmReset 0 64, .strmGo 16 0, .strmGo 0 64, .strmStat 16 0 0, .strmStat 0 64 0, .strmStat 0 0 16, .strmSlip 16 0 0, .strmSlip 0 64 0, .strmSlip 0 0 16, .seg 16 0 0, .seg 0 64 0, .seg 0 0 16, .segCopy 16 0 0 0 (.reg 0), .segCopy 0 64 0 0 (.reg 0), .segCopy 0 0 16 0 (.reg 0), .segCopy 0 0 0 16 (.reg 0), .segCopy 0 0 0 0 (.reg 16), .segCopy 0 0 0 0 (.imm (2 ^ 31)), .sjmp 16 0 false (.reg 0), .sjmp 0 64 false (.reg 0), .sjmp 0 0 false (.reg 16), .sjmp 0 0 false (.imm (2 ^ 31)), .mwin 16 0 0 0 (.reg 0) 0 0 false 0, .mwin 0 64 0 0 (.reg 0) 0 0 false 0, .mwin 0 0 16 0 (.reg 0) 0 0 false 0, .mwin 0 0 0 16 (.reg 0) 0 0 false 0, .mwin 0 0 0 0 (.reg 16) 0 0 false 0, .mwin 0 0 0 0 (.imm (2 ^ 31)) 0 0 false 0, .mwin 0 0 0 0 (.reg 0) 4 0 false 0, .mwin 0 0 0 0 (.reg 0) 0 3 false 0, .mwin 0 0 0 0 (.reg 0) 0 0 false 5, .msort 16 0 0 0, .msort 0 64 0 0, .msort 0 0 16 0, .msort 0 0 0 16, .ctlook 16 0 0 0 (.reg 0), .ctlook 0 64 0 0 (.reg 0), .ctlook 0 0 16 0 (.reg 0), .ctlook 0 0 0 16 (.reg 0), .ctlook 0 0 0 0 (.reg 16), .ctlook 0 0 0 0 (.imm (2 ^ 31)), .ctlookCar 16 0 0 0 (.reg 0), .ctlookCar 0 64 0 0 (.reg 0)].all (fun i : Instr => i.wf == false) = true := by decide +kernel
theorem test_wf_refuses_7 : [.ctlookCar 0 0 16 0 (.reg 0), .ctlookCar 0 0 0 16 (.reg 0), .ctlookCar 0 0 0 0 (.reg 16), .ctlookCar 0 0 0 0 (.imm (2 ^ 31)), .ctupdUpdate 16 0 0 0 (.reg 0), .ctupdUpdate 0 64 0 0 (.reg 0), .ctupdUpdate 0 0 16 0 (.reg 0), .ctupdUpdate 0 0 0 16 (.reg 0), .ctupdUpdate 0 0 0 0 (.reg 16), .ctupdUpdate 0 0 0 0 (.imm (2 ^ 31)), .ctupdInsert 16 0 0 0 (.reg 0), .ctupdInsert 0 64 0 0 (.reg 0), .ctupdInsert 0 0 16 0 (.reg 0), .ctupdInsert 0 0 0 16 (.reg 0), .ctupdInsert 0 0 0 0 (.reg 16), .ctupdInsert 0 0 0 0 (.imm (2 ^ 31)), .ctupdUpsert 16 0 0 0 (.reg 0), .ctupdUpsert 0 64 0 0 (.reg 0), .ctupdUpsert 0 0 16 0 (.reg 0), .ctupdUpsert 0 0 0 16 (.reg 0), .ctupdUpsert 0 0 0 0 (.reg 16), .ctupdUpsert 0 0 0 0 (.imm (2 ^ 31)), .ctupdRetire 16 0 0 0 (.reg 0), .ctupdRetire 0 64 0 0 (.reg 0), .ctupdRetire 0 0 16 0 (.reg 0), .ctupdRetire 0 0 0 16 (.reg 0), .ctupdRetire 0 0 0 0 (.reg 16), .ctupdRetire 0 0 0 0 (.imm (2 ^ 31)), .ctseal 16 0 0, .ctseal 0 64 0, .ctseal 0 0 16, .regWrite 64 0 0, .regWrite 0 2 0, .regWrite 0 0 4294967296, .regPairLowRead 64 0, .regPairLowRead 0 2, .regPairLowWrite 64 0 0, .regPairLowWrite 0 2 0, .regPairLowWrite 0 0 4294967296, .regPairHighWrite 64 0 0, .regPairHighWrite 0 2 0, .regPairHighWrite 0 0 4294967296, .regRcRead 64 0, .regRcRead 0 2, .lockSet 64, .cmRange 1024 false, .tbDtset 64 0, .tbDtset 0 4294967296, .islandUnlock 10, .islandRelock 10, .paceWindow 16, .roleReqWrite 64 0, .roleReqWrite 0 4294967296, .beaconTrig 256 0 0, .beaconSync 256 0 0, .beaconEstop 256 0 0, .beaconTrigReq 256 0, .beaconSyncReq 256 0, .bcnEnum 64, .bcnRecal 64].all (fun i : Instr => i.wf == false) = true := by decide +kernel
theorem test_wf_refuses_8 : [.bcnSetEpoch 64, .bcnSend 64 false 0, .bcnSend 0 false 256, .fefTimingSend 4, .fefTimingFrame 4 0 0 0 0 false false, .halfRampStart 8, .halfRampEnd 8 [] [], .conversion 1024 false false false 0 [], .taperGridWrite 64 0 false 0, .taperGridWrite 0 8 false 0, .taperGridWrite 0 0 false 4294967296, .taperRetime 8, .taperEnSet 64 0, .taperEnSet 0 8, .taperEnClear 64 0, .taperEnClear 0 8, .taperStop 8, .calRound 8, .calCoefLoad 8 0 0 0 0 0 0, .calOpRound 64 0 0, .calOpRound 0 8 0, .calOpRound 0 0 256, .calOpTraceTap 64 0 0 0, .calOpTraceTap 0 8 0 0, .calOpTraceTap 0 0 0 256, .calOpTraceIcalH 64 0 0, .calOpTraceIcalH 0 8 0, .calOpTraceIcalH 0 0 256, .calOpTraceIcalL 64 0 0, .calOpTraceIcalL 0 8 0, .calOpTraceIcalL 0 0 256, .calOpCommit 64 0 0, .calOpCommit 0 8 0, .calOpCommit 0 0 256, .calOpDiscard 64 0 0, .calOpDiscard 0 8 0, .calOpDiscard 0 0 256, .traceDone 8 0 false 0, .calCandidateExpire 8, .chFlgRead 64 0 false, .chFlgRead 0 1024 false, .windowTransition 1024 0 false false false 0, .windowTransition 0 4 false false false 0, .windowMaskEnd 1024 0 false, .windowMaskEnd 0 4 false, .wfinfoRead 64 0, .wfinfoRead 0 1024, .stiArm 64 0 0, .stiArm 0 16 0, .stiArm 0 0 8, .stiDisarm 64 0 0, .stiDisarm 0 16 0, .stiDisarm 0 0 8, .stiDone 16 0, .stiDone 0 8, .stiTimeout 16 0, .stiTimeout 0 8, .afeSkcmdGo 64 0 0, .afeSkcmdGo 0 8 0, .afeSkcmdGo 0 0 256].all (fun i : Instr => i.wf == false) = true := by decide +kernel
theorem test_wf_refuses_9 : [.deskewLoad 1024 false 0, .motCpEdge 4 false 0, .commit 1024, .loopUpdate 1024, .stepEndTime 1024, .formatEdge 1024, .formatDone 1024, .stepAbortEnd 1024, .edgeSlotFire 1024 0, .edgeSlotFire 0 4, .edgeSlotArm 64 0 0 1, .edgeSlotArm 0 1024 0 1, .edgeSlotArm 0 0 4 1, .edgeSlotArm 0 0 0 0, .edgeSlotArm 0 0 0 4, .edgeSlotDisarm 64 0 0, .edgeSlotDisarm 0 1024 0, .edgeSlotDisarm 0 0 4, .accIntegrate 1024, .clrtot 64 0, .clrtot 0 1024, .shadowRead 64 0, .shadowRead 0 1024, .psfsWrite 64 0 0 0, .psfsWrite 0 1024 0 0, .psfsWrite 0 0 4 0, .psfsWrite 0 0 0 4294967296, .impedWindowStart 1024, .impedWindowEnd 1024, .driveFrame 128, .statusFrame 128 0 0 0 0 0 0 0, .statusFrameBad 128, .statusLockLoss 128, .setupAckTimeout 1024, .setupRepeat 1024, .rangeResume 1024, .laneEnable 64, .laneDisable 64, .identifyOn 64 0 0, .identifyOn 0 128 0, .identifyOn 0 0 256, .identifyOff 64 0 0, .identifyOff 0 128 0, .identifyOff 0 0 256, .hostSnuff 64 0, .hostSnuff 0 1024, .hostRearm 64 0, .hostRearm 0 1024, .snuffAll 64, .instructionFetch 16 0 none, .instructionFetch 0 64 none, .waitConditionMet 16 0, .waitConditionMet 0 64, .waitTimeout 16 0, .waitTimeout 0 64, .waittDeadline 16 0, .waittDeadline 0 64, .threadRun 64 0 0, .threadRun 0 16 0, .threadRun 0 0 64].all (fun i : Instr => i.wf == false) = true := by decide +kernel
theorem test_wf_refuses_10 : [.hostHalt 64 0 0, .hostHalt 0 16 0, .hostHalt 0 0 64, .hostAbort 64 0 0, .hostAbort 0 16 0, .hostAbort 0 0 64, .runmaskWrite 64 0 0, .runmaskWrite 0 16 0, .runmaskWrite 0 0 4294967296, .haltreqWrite 64 0 0, .haltreqWrite 0 16 0, .haltreqWrite 0 0 4294967296, .quiesce 64 0, .quiesce 0 16, .quiesceRelease 64 0, .quiesceRelease 0 16, .threadStateWrite 64 0 0 0 0, .threadStateWrite 0 16 0 0 0, .threadStateWrite 0 0 64 0 0, .threadStateWrite 0 0 0 2 0, .threadStateWrite 0 0 0 256 0, .threadStateWrite 0 0 0 0 4294967296, .programRegionWrite 64 0 false 0, .programRegionWrite 0 16 false 0, .programRegionWrite 0 0 false 4294967296, .averageDone 1024 false, .redirect 16 0, .redirect 0 64, .asyncTrap 16 0 none, .asyncTrap 0 64 none, .budgetExceeded 16 0, .budgetExceeded 0 64, .engineWaitTimeout 16 0 0, .engineWaitTimeout 0 64 0, .controlStoreScrub 16 none, .mceCsWrite 64 0 false, .mceCsWrite 0 16 false, .mceCsRead 64 0, .mceCsRead 0 16, .mceDispWrite 64 0 0 0, .mceDispWrite 0 16 0 0, .mceDispWrite 0 0 256 0, .mceDispWrite 0 0 0 4294967296, .mceLoadedSet 64 0, .mceLoadedSet 0 16, .mceXreqSet 64 0 0, .mceXreqSet 0 16 0, .mceXreqSet 0 0 64, .failSpillModeWrite 64 false, .capArmWrite 64 0 0, .capArmWrite 0 1024 0, .capDisarmWrite 64 0, .capDisarmWrite 0 1024, .capForce 64 0, .capForce 0 1024, .captureTrigger 1024, .captureSample 1024, .captureHoldoffEnd 1024, .streamSlot 1024, .streamResume 1024].all (fun i : Instr => i.wf == false) = true := by decide +kernel
theorem test_wf_refuses_11 : [.streamWaitEnd 1024, .streamRingRead 1024, .stwrWrite 64 0 0, .stwrWrite 0 1024 0, .stwrWrite 0 0 4294967296, .stcmdJump 64 0 0 false, .stcmdJump 0 1024 0 false, .stcmdGo 64 0, .stcmdGo 0 1024, .gatePulseEnd 8, .hostScheduleAdd 64 0 0, .motCoastCmd 64, .motResume 64, .motSchclr 64, .ctSealCmd 64, .ctFlush 64, .ctEnable 64, .fefCellrec 4 0 0 0 0 false, .bankAccess 20 [], .eccWriteback 20, .regionWrite 64 0 0 0 false 0, .regionWrite 0 38 0 0 false 0, .regionWrite 0 0 22 0 false 0, .regionWrite 0 0 0 0 false 4294967296, .regionWrite 0 0 0 8 false 0, .ddrCommandSlot 2, .ddrRefreshInterval 2 0, .ddrMr4Poll 2 0 0, .ddrRhTableClear 2 0, .ddrSrEntry 2, .ddrSrExit 2, .hostDoorbell 64 0, .hostDoorbell 0 4294967296, .lapRead 2 0 0 0 0 0, .lapWrite 2 0 0 0 0 [], .lapBulkRead 2 0 0 0 0 0, .lapBulkWrite 2 0 0 0 0 0 [], .lapStream 2 0 0 0 0 0 [], .lapAck 2 0 0 0, .lapAckTimer 4, .lapRetransmit 4, .lapSessionIdle 4, .lapSessionEnd 64 0, .lapSessionEnd 0 4, .recordSend 17 0, .ethLinkChange 2 false 0, .fefEvrel 4 0 0 0 0 0 0, .fefEvrel 0 0 256 0 0 0 0, .fefAck 4 0, .fefFrameBad 4, .fefRetransmit 4, .secProgram 64, .secStore 64, .secConfirm 64, .secAttest 64, .secCalcert 64, .secSavekeys 64, .swBegin 64, .swFinish 64, .swCert 64].all (fun i : Instr => i.wf == false) = true := by decide +kernel
theorem test_wf_refuses_12 : [.swAbort 64, .pcmdHold 64, .pcmdRun 64, .pcmdDoze 64 0, .pcmdWake 2 0, .pcmdWake 0 4, .pcmdReset 64 0, .pcmdReload 64 0, .pcmdReload 0 16, .pcmdOut 64 0, .pcmdOut 0 16, .pcmdRetrain 64 0, .pcmdRetrain 0 4, .clusterLoadDone 16 false, .clusterRejoin 16, .pilotCmpTrip 8, .pilotCmpRelease 8, .safePermit 64, .contactCountCmd 64 0 0 false, .dspApply 64 0, .dspApply 0 2, .vblankStart 2, .dpTrainDone 2 false, .hpdChange 2 false, .dpLine 2 0 [] 0, .cmRangeEnd 1024 false, .fefLinkChange 4 false, .tdcLockChange 8 false].all (fun i : Instr => i.wf == false) = true := by decide +kernel

theorem test_wf_accepts_1 : [.nop 0 0, .halt 0 0 false 0, .jmp 0 0 0, .jcc 0 0 0 0, .call 0 0 0 0, .ret 0 0 0, .loop 0 0 0 0, .waitc 0 0 0 0 0, .waitt 0 0 0 0 0, .sync 0 0 0 0 0, .yield 0 0, .signal 0 0 0 (.reg 0), .fence 0 0, .movi 0 0 0 0 false 0, .mov 0 0 0 0 0 0, .ld 0 0 0 0 0 false 0, .st 0 0 0 0 0 0, .add 0 0 0 0 (.reg 0), .sub 0 0 0 0 (.reg 0), .mul 0 0 0 0 (.reg 0) false false, .divq 0 0 0 0 (.reg 0) false false, .and 0 0 0 0 (.reg 0), .or 0 0 0 0 (.reg 0), .xor 0 0 0 0 (.reg 0), .shl 0 0 0 0 (.reg 0), .shr 0 0 0 0 (.reg 0) false, .cmp 0 0 0 (.reg 0), .min 0 0 0 0 (.reg 0) false, .max 0 0 0 0 (.reg 0) false, .sel 0 0 0 0 (.reg 0) 0, .rds 0 0 0 0, .tlu 0 0 0 0 (.reg 0), .atadd 0 0 0 0 (.reg 0) false false 0, .step 0 0 ⟨0, 0, 0, 0, 0, 0, false, false, 0⟩, .setp 0 0 0 (.reg 0), .limit 0 0 0 false (.reg 0), .expect 0 0 0 0 (.reg 0), .expectCheck 0 0 0, .endc 0 0 0 false (.reg 0), .irange 0 0 0, .psrange 0 0 0 false, .soft 0 0 (.reg 0), .snuff 0 0, .enable 0 0, .ldtab 0 0 0 0 0 0, .fmt 0 0 0 (.reg 0), .fmtLoad 0 0 0, .meas 0 0 0 false false (.reg 0), .measAsync 0 0 false false (.reg 0), .measCollect 0 0 0 false, .accRc 0 0 0, .accClr 0 0, .arm 0 0 0 (.reg 0), .armDis 0 0 0, .trigEdge 0 0 0 0 0 (.reg 0), .trigCapture 0 0, .trigBeacon 0 0 false (.reg 0), .mark 0 0 (.reg 0), .markStep 0 0 (.reg 0), .record 0 0 0 0 (.reg 0)].all (fun i : Instr => i.wf == true) = true := by decide +kernel
theorem test_wf_accepts_2 : [.imped 0 0 false (.reg 0), .stampArm 0 0 0, .stampDis 0 0 0, .stampRd 0 0 0 0, .stampCfg 0 0 0 0 (.reg 0), .strmCfg 0 0 0 0, .strmReset 0 0, .strmGo 0 0, .strmStat 0 0 0, .strmSlip 0 0 0, .seg 0 0 0, .segCopy 0 0 0 0 (.reg 0), .sjmp 0 0 false (.reg 0), .mwin 0 0 0 0 (.reg 0) 0 0 false 0, .msort 0 0 0 0, .ctlook 0 0 0 0 (.reg 0), .ctlookCar 0 0 0 0 (.reg 0), .ctupdUpdate 0 0 0 0 (.reg 0), .ctupdInsert 0 0 0 0 (.reg 0), .ctupdUpsert 0 0 0 0 (.reg 0), .ctupdRetire 0 0 0 0 (.reg 0), .ctseal 0 0 0, .regWrite 0 0 0, .regPairLowRead 0 0, .regPairLowWrite 0 0 0, .regPairHighWrite 0 0 0, .regRcRead 0 0, .lockSet 0, .powerOn false, .resetN false, .powerFail false, .powerfailLanesOff, .powerOnAfterOvervoltage, .supplyMeasure 0 0, .junctionSample [], .cmRange 0 false, .bootReady false false [], .refLoss, .refQualify 0 false 0 0, .tbLock, .tbFreerun, .tbDtset 0 0, .islandUnlock 0, .islandRelock 0, .paceWindow 0, .roleDecide false false, .roleReqWrite 0 0, .roleReqSave, .beaconCycle, .beaconIdle, .beaconFrameBad, .beaconEnum 0, .beaconDreq 0 0, .beaconOffset 0 0, .beaconEpoch 0 0 false false, .beaconTrig 0 0 0, .beaconSync 0 0 0, .beaconEstop 0 0 0, .beaconEnumAck, .beaconDrsp 0 0].all (fun i : Instr => i.wf == true) = true := by decide +kernel
theorem test_wf_accepts_3 : [.beaconTrigReq 0 0, .beaconSyncReq 0 0, .beaconEstopUp 0, .beaconUpstreamSend 0, .beaconTrigExec, .beaconSyncExec, .beaconEstopExec, .enumTimeout, .bcnEnum 0, .bcnRecal 0, .bcnSetEpoch 0, .bcnSend 0 false 0, .epochTimer, .beaconMsgLoss, .beaconClkLoss, .fefTimingSend 0, .fefTimingFrame 0 0 0 0 0 false false, .ptpEventMessage 0 0 false, .halfRampStart 0, .halfRampEnd 0 [] [], .conversion 0 false false false 0 [], .taperGridWrite 0 0 false 0, .taperRetime 0, .taperEnSet 0 0, .taperEnClear 0 0, .taperStop 0, .calRound 0, .calCoefLoad 0 0 0 0 0 0 0, .calOpRound 0 0 0, .calOpTraceTap 0 0 0 0, .calOpTraceIcalH 0 0 0, .calOpTraceIcalL 0 0 0, .calOpCommit 0 0 0, .calOpDiscard 0 0 0, .traceDone 0 0 false 0, .calCandidateExpire 0, .chFlgRead 0 0 false, .windowTransition 0 0 false false false 0, .windowMaskEnd 0 0 false, .wfinfoRead 0 0, .stiArm 0 0 0, .stiDisarm 0 0 0, .stiDone 0 0, .stiTimeout 0 0, .afeSkcmdGo 0 0 0, .deskewLoad 0 false 0, .motCount false false 0 0, .motZEdge false 0, .motXgEdge false 0, .motCpEdge 0 false 0, .motCoastEdge false 0, .commit 0, .loopUpdate 0, .stepEndTime 0, .formatEdge 0, .formatDone 0, .stepAbortEnd 0, .edgeSlotFire 0 0, .edgeSlotArm 0 0 0 1, .edgeSlotDisarm 0 0 0].all (fun i : Instr => i.wf == true) = true := by decide +kernel
theorem test_wf_accepts_4 : [.accIntegrate 0, .clrtot 0 0, .shadowRead 0 0, .psfsWrite 0 0 0 0, .impedWindowStart 0, .impedWindowEnd 0, .driveFrame 0, .statusFrame 0 0 0 0 0 0 0 0, .statusFrameBad 0, .statusLockLoss 0, .setupAckTimeout 0, .setupRepeat 0, .rangeResume 0, .laneEnable 0, .lanesIdle, .laneDisable 0, .lanesOff, .identifyOn 0 0 0, .identifyOff 0 0 0, .hostSnuff 0 0, .hostRearm 0 0, .snuffAll 0, .ilkEstopOpen, .ilkEstopClose, .instructionFetch 0 0 none, .waitConditionMet 0 0, .waitTimeout 0 0, .waittDeadline 0 0, .threadRun 0 0 0, .hostHalt 0 0 0, .hostAbort 0 0 0, .runmaskWrite 0 0 0, .haltreqWrite 0 0 0, .quiesce 0 0, .quiesceRelease 0 0, .threadStateWrite 0 0 0 0 0, .programRegionWrite 0 0 false 0, .averageDone 0 false, .redirect 0 0, .asyncTrap 0 0 none, .budgetExceeded 0 0, .engineWaitTimeout 0 0 0, .controlStoreScrub 0 none, .mceCsWrite 0 0 false, .mceCsRead 0 0, .mceDispWrite 0 0 0 0, .mceLoadedSet 0 0, .mceXreqSet 0 0 0, .failRecordWrite, .failSpillMove, .failSpillModeWrite 0 false, .capArmWrite 0 0 0, .capDisarmWrite 0 0, .capForce 0 0, .captureTrigger 0, .captureSample 0, .captureHoldoffEnd 0, .streamSlot 0, .streamResume 0, .streamWaitEnd 0].all (fun i : Instr => i.wf == true) = true := by decide +kernel
theorem test_wf_accepts_5 : [.streamRingRead 0, .stwrWrite 0 0 0, .stcmdJump 0 0 0 false, .stcmdGo 0 0, .schedGuard, .schedWclose, .schedDeadline, .schedGate, .schedWopen, .schedEvent, .gatePulseEnd 0, .hostScheduleAdd 0 0 0, .motCoastCmd 0, .motResume 0, .motSchclr 0, .motVelUpdate, .ctSealCmd 0, .ctFlush 0, .ctFlushDone, .ctEnable 0, .ctRecountDone, .batchAgeClose, .batchSigned [], .fefCellrec 0 0 0 0 0 false, .bankAccess 0 [], .eccWriteback 0, .btBorrow, .btReturn none false, .regionWrite 0 0 0 0 false 0, .ddrTrainingDone 0 0 false false false, .ddrCommandSlot 0, .ddrRefreshInterval 0 0, .ddrMr4Poll 0 0 0, .ddrRhTableClear 0 0, .ddrPatrolScrub 0, .ddrSrEntry 0, .ddrSrExit 0, .hostDoorbell 0 0, .eventCoalTimer, .lapRead 0 0 0 0 0 0, .lapWrite 0 0 0 0 0 [], .lapBulkRead 0 0 0 0 0 0, .lapBulkWrite 0 0 0 0 0 0 [], .lapStream 0 0 0 0 0 0 [], .lapAck 0 0 0 0, .lapDiscard, .lapAckTimer 0, .lapRetransmit 0, .lapSessionIdle 0, .lapSessionEnd 0 0, .recordSend 0 0, .ethLinkChange 0 false 0, .fefEvrel 0 0 0 0 0 0 0, .fefAck 0 0, .fefFrameBad 0, .fefRetransmit 0, .secProgram 0, .secStore 0, .secConfirm 0, .secAttest 0].all (fun i : Instr => i.wf == true) = true := by decide +kernel
theorem test_wf_accepts_6 : [.secCalcert 0, .secSavekeys 0, .flashOpDone false, .attestDone [] [] [] [] false [] [], .calcertDone [], .swBegin 0, .swBeginReady [] [] [], .swFinish 0, .swCert 0, .swAbort 0, .swSetupIdle, .recoveryProgram, .pcmdHold 0, .pcmdRun 0, .pcmdDoze 0 0, .dozeEntryComplete 0, .pcmdWake 0 0, .wakeTimer, .wakeComplete, .pcmdReset 0 0, .pcmdReload 0 0, .pcmdOut 0 0, .pcmdRetrain 0 0, .watchdogReset, .clusterLoadDone 0 false, .clusterRejoin 0, .pilotCmpTrip 0, .pilotCmpRelease 0, .safePermit 0, .healthEval [], .wearSave, .contactCountCmd 0 0 0 false, .ovenSettled 0, .dspApply 0 0, .vblankStart 0, .dpTrainDone 0 false, .hpdChange 0 false, .dpLine 0 0 [] 0, .cmRangeEnd 0 false, .resetNRelease, .referenceRegained, .fefLinkChange 0 false, .tdcLockChange 0 false, .pilotDomainStart, .pilotDomainLoss, .ovenokLost].all (fun i : Instr => i.wf == true) = true := by decide +kernel

/-! ### Words of the spec's examples, and the instruction each stands for -/

theorem test_decode_control : [decodeThread 1 2 0x0601_0000_0000_0240, decodeThread 1 2 0x0700_14F4_6B04_0000, decodeThread 1 2 0] =
    [some (.loop 1 2 1 0x240), some (.waitc 1 2 0 0 23040000000000), some (.nop 1 2)] := by decide
theorem test_decode_data : [decodeThread 1 2 0x2433_0800_FFFF_FFFF, decodeThread 1 2 0x2C64_0800_0000_0010, decodeThread 1 2 0x2D06_0800_0000_0004, decodeThread 1 2 0x3140_0009_0000_0000,
      decodeThread 1 2 0x3371_0800_0000_0001, decodeThread 1 2 0x3341_0801_0000_0000] =
    [some (.add 1 2 3 3 (.imm (-1))), some (.shr 1 2 6 4 (.imm 16) false), some (.cmp 1 2 6 (.imm 4)), some (.rds 1 2 4 9), some (.atadd 1 2 7 1 (.imm 1) false false 0),
      some (.atadd 1 2 4 1 (.imm 0) false true 0)] := by decide
theorem test_decode_step : [decodeThread 1 2 0x4050_F112_0000_0001, decodeThread 1 2 0x4100_0800_0017_7000, decodeThread 1 2 0x4B00_0803_0003_D090, decodeThread 1 2 0x4200_0800_0103_6640,
      decodeThread 1 2 0x4200_0804_0000_0577, decodeThread 1 2 0x4350_0080_0000_0000, decodeThread 1 2 0x4400_0810_00DE_C740] =
    [some (.step 1 2 ⟨5, 0, 15, 1, 1, 2, false, false, 1⟩), some (.setp 1 2 0 (.imm 1536000)), some (.fmt 1 2 3 (.imm 250000)), some (.limit 1 2 0 false (.imm 17000000)),
      some (.limit 1 2 0 true (.imm 0x577)), some (.expectCheck 1 2 5), some (.endc 1 2 0 true (.imm 14600000))] := by decide
theorem test_decode_drive : [decodeThread 1 2 0x4600_0011_0000_0000, decodeThread 1 2 0x4700_0800_0000_09C4, decodeThread 1 2 0x4A89_A000_0000_0000] =
    [some (.psrange 1 2 1 true), some (.soft 1 2 (.imm 2500)), some (.ldtab 1 2 8 9 10 0)] := by decide
theorem test_decode_measure : [decodeThread 1 2 0x6040_0802_0000_0100, decodeThread 1 2 0x6180_0000_0000_0000, decodeThread 1 2 0x6230_0800_0000_0005, decodeThread 1 2 0x6302_0810_0000_3E80,
      decodeThread 1 2 0x6400_0801_0000_0000, decodeThread 1 2 0x6501_0810_0000_0020, decodeThread 1 2 0x6600_0801_0000_0064, decodeThread 1 2 0x6760_0012_0000_0000] =
    [some (.meas 1 2 4 false true (.imm 256)), some (.accRc 1 2 8), some (.arm 1 2 3 (.imm 5)), some (.trigEdge 1 2 0 1 2 (.imm 16000)), some (.markStep 1 2 (.imm 0)),
      some (.record 1 2 0x10 1 (.imm 32)), some (.imped 1 2 true (.imm 100)), some (.stampRd 1 2 6 2)] := by decide
theorem test_decode_motion : [decodeThread 1 2 0x824C_1001_0000_0000, decodeThread 1 2 0x806D_0830_0000_0960, decodeThread 1 2 0x8172_0000_0000_0000] =
    [some (.ctlookCar 1 2 4 12 (.reg 1)), some (.mwin 1 2 6 13 (.imm 2400) 0 0 true 1), some (.msort 1 2 7 2)] := by decide
theorem test_decode_stream : [decodeThread 1 2 0x9032_0000_0000_0000, decodeThread 1 2 0x9154_0801_0000_0200, decodeThread 1 2 0x9200_0800_0000_0003] =
    [some (.strmCfg 1 2 3 2), some (.segCopy 1 2 5 4 (.imm 512)), some (.sjmp 1 2 false (.imm 3))] := by decide

end Sys2Proof.Tests
end

section
/-! PROOFS. One tick with an empty queue: what each part of `Device.tick` keeps, and what the whole does with and without core power (R6, R439). -/

namespace Sys2Proof.Machine

theorem step_nil {s : State} (h : s.pending = []) : step s = .next (s.apply Device.tick) := by
  unfold step
  rw [h]

/-! ### The Pilot clock -/

/-- A tick of the Pilot clock changes registers alone (R439). -/
theorem Device.pilotTick_regs (d : Device) : ∃ r, d.pilotTick = { d with regs := r } := by
  unfold Device.pilotTick
  split
  · exact ⟨_, rfl⟩
  · exact ⟨d.regs, rfl⟩

/-- Pilot time counts ticks in its own width while the Pilot domain is supplied (R439). -/
theorem Device.pilotTick_time (d : Device) :
    d.pilotTick.get PIL_TIME_TICKS =
      if d.pw.pilot then (d.get PIL_TIME_TICKS + 1) % 2 ^ PIL_TIME_TICKS.width else d.get PIL_TIME_TICKS := by
  unfold Device.pilotTick
  split
  · exact Device.get_set_same _ _ _
  · rfl

/-- The Pilot clock changes registers and its own fraction of a tick alone (R430). -/
theorem Device.pilotRun_regs_pw (n : Nat) (d : Device) : ∃ r p, d.pilotRun n = { d with regs := r, pw := p } := by
  unfold Device.pilotRun
  dsimp only
  split
  · exact ⟨d.regs, _, rfl⟩
  · obtain ⟨r, hr⟩ := Device.pilotTick_regs { d with pw := { d.pw with frac := d.pw.frac + n - 6250000 } }
    exact ⟨r, _, hr⟩

/-! ### Device time -/

/-- Holdover changes registers alone (R53). -/
theorem Device.holdGrow_regs (d : Device) : ∃ r, d.holdGrow = { d with regs := r } := by
  unfold Device.holdGrow
  split
  · split
    · exact ⟨_, rfl⟩
    · exact ⟨d.regs, rfl⟩
  · exact ⟨d.regs, rfl⟩

/-- With neither a load nor a step waiting, a tick adds 128 fine steps to device time and touches registers only besides (R6, R50). -/
theorem Device.tickDt_advances {d : Device} (hload : d.tb.load = none) (hstep : d.tb.stepBy = none) :
    ∃ r, d.tickDt = { d with regs := r, dt := d.dt + 128 } := by
  obtain ⟨r, hr⟩ := d.holdGrow_regs
  refine ⟨r, ?_⟩
  unfold Device.tickDt
  rw [hload, hstep, hr]

/-! ### Command fields -/

@[simp] theorem Device.commandsDone_dt (d : Device) : d.commandsDone.dt = d.dt := rfl
@[simp] theorem Device.commandsDone_mem (d : Device) : d.commandsDone.mem = d.mem := rfl

/-- Of a cluster, only its captures have command fields that clear (R472). -/
theorem Device.clus_commandsDone (d : Device) (k : Nat) : ∃ cap, d.commandsDone.clus k = { d.clus k with cap := cap } := by
  by_cases hk : k < 16
  · exact ⟨_, Tab.getD_map d.cl hk _ _⟩
  · refine ⟨(d.clus k).cap, ?_⟩
    simp only [Device.clus, Tab.getD_past _ hk]
@[simp] theorem Device.thread_commandsDone (d : Device) (k c : Nat) : d.commandsDone.thread k c = d.thread k c := by
  unfold Device.thread; obtain ⟨x, h⟩ := d.clus_commandsDone k; rw [h]
@[simp] theorem Device.stage_commandsDone (d : Device) (k : Nat) : (d.commandsDone.clus k).stage = (d.clus k).stage := by
  obtain ⟨x, h⟩ := d.clus_commandsDone k; rw [h]

/-! ### Capture writes that wait, and routines in the control store -/

theorem Device.flushStage_of_empty {k : Nat} {d : Device} (h : (d.clus k).stage = []) : d.flushStage k = d := by
  simp [Device.flushStage, h]

theorem Device.flushStages_of_empty {d : Device} (h : ∀ k, (d.clus k).stage = []) : d.flushStages = d :=
  List.foldl_fixed' (fun k => Device.flushStage_of_empty (h k)) _

theorem Device.microTurn_of_base {k c : Nat} {d : Device} (h : (d.thread k c).onStore = false) : ∀ n, d.microTurn k c n = d
  | 0 => rfl
  | n + 1 => by simp [Device.microTurn, h]

theorem Device.microTurns_of_base {d : Device} (h : ∀ k c, (d.thread k c).onStore = false) : d.microTurns = d := by
  refine List.foldl_fixed' (fun k => ?_) _
  split
  · rfl
  · exact List.foldl_fixed' (fun c => Device.microTurn_of_base (h k c) 4) _

/-! ### The tick -/

theorem Device.tick_off {d : Device} (h : d.pw.phase ≠ 2) : d.tick = d.pilotTick := by
  unfold Device.tick
  exact if_neg h

/-- While no routine runs from the control store and no capture write waits, a tick ends when the command fields have cleared. -/
theorem Device.commandsDone_rests {d : Device} (hmicro : ∀ k c, (d.thread k c).onStore = false) (hstage : ∀ k, (d.clus k).stage = []) :
    d.commandsDone.flushStages.microTurns = d.commandsDone := by
  have hflush : d.commandsDone.flushStages = d.commandsDone :=
    Device.flushStages_of_empty fun k => (d.stage_commandsDone k).trans (hstage k)
  rw [hflush]
  exact Device.microTurns_of_base fun k c => (congrArg Thread.onStore (d.thread_commandsDone k c)).trans (hmicro k c)

/-- With core power, device time valid and its oscillator locked, both clocks run before the rest of the tick. -/
theorem Device.tick_on {d : Device} (hon : d.pw.phase = 2) (hvalid : d.on TB_STAT_DT_VALID = true)
    (hlock : bit (d.get TB_ISLOCK_LOCK) 0 = true) :
    d.tick = (d.tickDt.pilotRun 128).commandsDone.flushStages.microTurns := by
  have hruns : (d.on TB_STAT_DT_VALID && bit (d.get TB_ISLOCK_LOCK) 0) = true := by rw [hvalid, hlock]; rfl
  unfold Device.tick
  rw [if_pos hon, if_pos hruns]

/-- What the two clocks of a tick change: device time, registers and the Pilot clock's fraction of a tick. -/
theorem Device.clocks_run {d : Device} (hload : d.tb.load = none) (hstep : d.tb.stepBy = none) :
    ∃ r p, d.tickDt.pilotRun 128 = { d with regs := r, pw := p, dt := d.dt + 128 } := by
  obtain ⟨r, hr⟩ := Device.tickDt_advances hload hstep
  obtain ⟨r', p, hp⟩ := d.tickDt.pilotRun_regs_pw 128
  refine ⟨r', p, ?_⟩
  rw [hp, hr]

/-- Device time advances by 128 fine steps and memory stands in a tick that finds the core powered, device time valid and its oscillator locked, and nothing waiting. -/
theorem Device.tick_advances {d : Device} (hon : d.pw.phase = 2) (hvalid : d.on TB_STAT_DT_VALID = true)
    (hlock : bit (d.get TB_ISLOCK_LOCK) 0 = true) (hload : d.tb.load = none) (hstep : d.tb.stepBy = none)
    (hmicro : ∀ k c, (d.thread k c).onStore = false) (hstage : ∀ k, (d.clus k).stage = []) :
    d.tick.dt = d.dt + 128 ∧ d.tick.mem = d.mem := by
  obtain ⟨r, p, hclocks⟩ := Device.clocks_run hload hstep
  have hcl : (d.tickDt.pilotRun 128).cl = d.cl := by rw [hclocks]
  have hrests : d.tick = (d.tickDt.pilotRun 128).commandsDone := by
    rw [Device.tick_on hon hvalid hlock]
    refine Device.commandsDone_rests ?_ ?_
    · simpa only [Device.thread, Device.clus, hcl] using hmicro
    · simpa only [Device.clus, hcl] using hstage
  rw [hrests, Device.commandsDone_dt, Device.commandsDone_mem, hclocks]
  exact ⟨rfl, rfl⟩

/-- Without core power a tick changes registers alone. -/
theorem Device.tick_off_regs {d : Device} (h : d.pw.phase ≠ 2) : ∃ r, d.tick = { d with regs := r } := by
  rw [Device.tick_off h]
  exact d.pilotTick_regs

/-- Settles O52: with core power the tick advances device time; without it, only the Pilot clock runs. -/
theorem idleTick : Obligations.IdleTick := by
  intro s hempty
  refine ⟨_, step_nil hempty, hempty, ?_, ?_⟩
  · intro hon hvalid hlock hload hstep hmicro hstage
    simpa using Device.tick_advances hon hvalid hlock hload hstep hmicro hstage
  · intro hoff
    obtain ⟨r, hr⟩ := Device.tick_off_regs hoff
    have htime : s.dev.tick.get PIL_TIME_TICKS =
        if s.dev.pw.pilot then (s.dev.get PIL_TIME_TICKS + 1) % 2 ^ PIL_TIME_TICKS.width else s.dev.get PIL_TIME_TICKS := by
      rw [Device.tick_off hoff, Device.pilotTick_time]
    simp only [State.apply_dev, Device.watch_dt, Device.watch_mem, Device.watch_ch, Device.thread_watch, Device.get_watch]
    exact ⟨by rw [hr], by rw [hr], by rw [hr], fun k c => by rw [hr]; rfl, htime⟩

end Sys2Proof.Machine
end

section
/-! PROOFS. The decoder against the encoder (R186 to R189): a word that decodes is the encoding of the well-formed instruction it decodes to, and an encoding carries a listed opcode. -/

namespace Sys2Proof

open Sys2Proof.Machine

/-! ### Fields of a word -/

/-- Every field of a word's cut is within its width (R186). -/
structure Enc.Fits (e : Enc) : Prop where
  op : e.op < 256
  d : e.d < 16
  a : e.a < 16
  b : e.b < 16
  md : e.md < 4096
  imm : e.imm < 2 ^ 32

theorem Enc.unpack_fits (w : Nat) : (Enc.unpack w).Fits := by
  unfold Enc.unpack
  constructor <;> dsimp only <;> omega

theorem Enc.pack_unpack {w : Nat} (h : w < 2 ^ 64) : (Enc.unpack w).pack = w := by
  unfold Enc.pack Enc.unpack
  dsimp only
  omega

theorem Enc.pack_opcode {e : Enc} (h : e.Fits) : bits e.pack 56 8 = e.op := by
  obtain ⟨hop, hd, ha, hb, hmd, himm⟩ := h
  unfold bits Enc.pack
  omega

/-! ### The parts of MOD, and the joint fields -/

theorem b2n_mod_two (n : Nat) : b2n (n % 2 == 1) = n % 2 := by
  rcases Nat.mod_two_eq_zero_or_one n with h | h <;> rw [h] <;> rfl

theorem Enc.sub_eq (e : Enc) : e.sub = e.md % 256 := rfl
theorem Enc.sz_eq (e : Enc) : e.sz = e.md / 256 % 4 := rfl
theorem Enc.subBits_eq (e : Enc) (lo w : Nat) : e.subBits lo w = e.md / 2 ^ lo % 2 ^ w := rfl
theorem Enc.cond_eq (e : Enc) : e.cond = e.d * 16 + e.a := rfl
theorem Enc.timeout_eq (e : Enc) : e.timeout = e.b * 2 ^ 44 + e.md * 2 ^ 32 + e.imm := rfl
@[simp] theorem Enc.i_false (e : Enc) : e.i = false ↔ e.md / 2048 % 2 = 0 := by simp [Enc.i]
@[simp] theorem Enc.s_false (e : Enc) : e.s = false ↔ e.md / 1024 % 2 = 0 := by simp [Enc.s]
@[simp] theorem Enc.subBit_false (e : Enc) (n : Nat) : e.subBit n = false ↔ e.md / 2 ^ n % 2 = 0 := by simp [Enc.subBit]
@[simp] theorem Enc.b2n_s (e : Enc) : b2n e.s = e.md / 1024 % 2 := b2n_mod_two _
@[simp] theorem Enc.b2n_subBit (e : Enc) (n : Nat) : b2n (e.subBit n) = e.md / 2 ^ n % 2 := b2n_mod_two _
@[simp] theorem Enc.noB_iff (e : Enc) : e.noB = true ↔ e.b = 0 ∧ e.imm = 0 := by simp [Enc.noB]
@[simp] theorem Enc.subOnly_iff (e : Enc) : e.subOnly = true ↔ e.md < 256 := by simp [Enc.subOnly]
@[simp] theorem Enc.iSub_iff (e : Enc) : e.iSub = true ↔ e.md % 2048 < 256 := by simp [Enc.iSub]

/-! ### Literals and operand B -/

theorem sgn32_cases {v : Nat} (h : v < 2 ^ 32) : (v < 2 ^ 31 ∧ sgn 32 v = v) ∨ (2 ^ 31 ≤ v ∧ sgn 32 v = v - 2 ^ 32) := by
  unfold sgn
  rw [Nat.mod_eq_of_lt h]
  dsimp only
  split <;> omega

theorem uns32_sgn32 {v : Nat} (h : v < 2 ^ 32) : uns 32 (sgn 32 v) = v := by
  unfold uns
  rcases sgn32_cases h with ⟨hv, hs⟩ | ⟨hv, hs⟩ <;> rw [hs] <;> omega

theorem Enc.simm_ok {e : Enc} (h : e.Fits) : immOk e.simm = true := by
  unfold immOk Enc.simm
  simp only [Bool.and_eq_true, decide_eq_true_eq]
  have himm := h.imm
  rcases sgn32_cases himm with ⟨hv, hs⟩ | ⟨hv, hs⟩ <;> omega

theorem Enc.uns_simm {e : Enc} (h : e.Fits) : uns 32 e.simm = e.imm := uns32_sgn32 h.imm

theorem Enc.opnd_ok {e : Enc} (h : e.Fits) : opndOk e.opnd = true := by
  unfold Enc.opnd
  split
  · exact Enc.simm_ok h
  · exact decide_eq_true h.b

theorem Enc.eq_of_fields {e f : Enc} (h : f.op = e.op ∧ f.d = e.d ∧ f.a = e.a ∧ f.b = e.b ∧ f.md = e.md ∧ f.imm = e.imm) : f = e := by
  cases e; cases f; simpa using h

/-- A word whose operand B leaves the field it does not use 0 (R187, R188) is the one built from its operand B. -/
theorem Enc.withB_opnd {e : Enc} (h : e.Fits) (hb : e.bOk = true) : Enc.withB e.op e.d e.a (e.md % 2048) e.opnd = e := by
  have hmd := h.md
  apply Enc.eq_of_fields
  unfold Enc.bOk at hb
  unfold Enc.opnd
  split at hb
  case isTrue hi =>
    have hb0 : e.b = 0 := by simpa using hb
    have hbit : e.md / 2048 % 2 = 1 := by simpa [Enc.i] using hi
    rw [if_pos hi]
    simp only [Enc.withB, Enc.uns_simm h, true_and, and_true]
    omega
  case isFalse hi =>
    have himm0 : e.imm = 0 := by simpa using hb
    have hbit : e.md / 2048 % 2 = 0 := by simpa using hi
    rw [if_neg hi]
    simp only [Enc.withB, true_and]
    omega

/-! ### What a cut decodes to is what it encodes -/

theorem pick_eq_some {ok : Bool} {i j : Instr} (h : pick ok j = some i) : ok = true ∧ j = i := by
  unfold pick at h
  split at h
  · exact ⟨‹_›, Option.some.inj h⟩
  · cases h

/-- The cut of the word that encodes an instruction. -/
def encodeEnc (i : Instr) : Option Enc :=
  (encodeControl i).or ((encodeData i).or ((encodeStepArea i).or ((encodeMeasure i).or (encodeMotion i))))

theorem encode_eq (i : Instr) : encode i = (encodeEnc i).map Enc.pack := rfl

/-- `i` is a well-formed instruction of thread `c` of cluster `k`, and `e` is its encoding. -/
structure Spells (k c : Nat) (e : Enc) (i : Instr) : Prop where
  wf : i.wf = true
  thread : i.thread = some (k, c)
  encoding : encodeEnc i = some e

/-- A decoded instruction with a plain encoding: its fields one by one. -/
theorem Spells.of_fields {k c : Nat} {e f : Enc} {ok : Bool} {i j : Instr} (h : pick ok j = some i) (henc : encodeEnc j = some f)
    (hthread : j.thread = some (k, c))
    (hok : ok = true → j.wf = true ∧ f.op = e.op ∧ f.d = e.d ∧ f.a = e.a ∧ f.b = e.b ∧ f.md = e.md ∧ f.imm = e.imm) : Spells k c e i := by
  obtain ⟨hpick, rfl⟩ := pick_eq_some h
  obtain ⟨hwf, hfields⟩ := hok hpick
  exact ⟨hwf, hthread, henc.trans (congrArg some (Enc.eq_of_fields hfields))⟩

/-- A decoded instruction with an encoding built from operand B: the fields before operand B. -/
theorem Spells.of_opnd {k c : Nat} {e : Enc} {ok : Bool} {i j : Instr} {op d a md : Nat} (he : e.Fits) (h : pick ok j = some i)
    (henc : encodeEnc j = some (.withB op d a md e.opnd)) (hthread : j.thread = some (k, c))
    (hok : ok = true → e.bOk = true ∧ j.wf = true ∧ op = e.op ∧ d = e.d ∧ a = e.a ∧ md = e.md % 2048) : Spells k c e i := by
  obtain ⟨hpick, rfl⟩ := pick_eq_some h
  obtain ⟨hb, hwf, rfl, rfl, rfl, rfl⟩ := hok hpick
  exact ⟨hwf, hthread, henc.trans (congrArg some (Enc.withB_opnd he hb))⟩

section areas

/-! One lemma for each area of the opcode map (R189), by its opcodes and SUBs. An instruction either has a plain encoding (`of_fields`) or one built from operand B (`of_opnd`); the last case of each match decodes to nothing. -/

variable {k c : Nat} {e : Enc} {i : Instr} (hkc : thrOk k c = true) (he : e.Fits)
include hkc he

theorem decodeControl_spells (h : decodeControl k c e = some i) : Spells k c e i := by
  have hopnd := Enc.opnd_ok he
  have hcond := e.cond_eq
  have htimeout := e.timeout_eq
  have ⟨_, hd, ha, hb, hmd, himm⟩ := he
  unfold decodeControl at h
  split at h
  case h_10 =>
    have hpick : pick true (.sync k c e.a e.d e.timeout) = some i := h
    exact .of_fields hpick rfl rfl fun _ => ⟨by simp [Instr.wf, hkc]; omega, by dsimp only [Enc.wait]; omega⟩
  case h_12 => exact .of_opnd he h rfl rfl (by simp [Instr.wf, hkc, hopnd]; grind)
  case h_14 => cases h
  all_goals exact .of_fields h rfl rfl (by simp [Instr.wf, hkc, Enc.jump, Enc.wait, b2n_mod_two]; omega)

theorem decodeData_spells (h : decodeData k c e = some i) : Spells k c e i := by
  have hopnd := Enc.opnd_ok he
  have hsub := e.sub_eq
  have hsz := e.sz_eq
  have ⟨_, hd, ha, hb, hmd, himm⟩ := he
  unfold decodeData at h
  split at h
  case h_1 | h_2 | h_3 | h_4 | h_18 =>
    exact .of_fields h rfl rfl (by simp [Instr.wf, hkc, classOk, Enc.simm_ok he, Enc.uns_simm he]; grind)
  case h_21 => cases h
  all_goals exact .of_opnd he h rfl rfl (by simp [Instr.wf, hkc, hopnd]; grind)

theorem decodeStep_spells (hop : e.op = 0x40) (h : decodeStep k c e = some i) : Spells k c e i := by
  have ⟨_, hd, ha, hb, hmd, himm⟩ := he
  exact .of_fields h rfl rfl (by simp [Instr.wf, hkc, stepOk, b2n_mod_two]; grind)

theorem decodeStepArea_spells (h : decodeStepArea k c e = some i) : Spells k c e i := by
  have hopnd := Enc.opnd_ok he
  have hsub := e.sub_eq
  have ⟨_, hd, ha, hb, hmd, himm⟩ := he
  unfold decodeStepArea at h
  split at h
  case h_1 hop => exact decodeStep_spells hkc he hop h
  case h_13 => cases h
  case h_6 | h_7 | h_9 | h_10 | h_11 => exact .of_fields h rfl rfl (by simp [Instr.wf, hkc]; grind)
  case h_4 =>
    split at h
    · exact .of_fields h rfl rfl (by simp [Instr.wf, hkc]; grind)
    · exact .of_opnd he h rfl rfl (by simp [Instr.wf, hkc, hopnd]; grind)
  case h_12 =>
    split at h
    · exact .of_opnd he h rfl rfl (by simp [Instr.wf, hkc, hopnd]; grind)
    · exact .of_fields h rfl rfl (by simp [Instr.wf, hkc]; grind)
  all_goals exact .of_opnd he h rfl rfl (by simp [Instr.wf, hkc, hopnd]; grind)

theorem decodeTrig_spells (hop : e.op = 0x63) (h : decodeTrig k c e = some i) : Spells k c e i := by
  have hopnd := Enc.opnd_ok he
  have hsub := e.sub_eq
  have hbits2 := e.subBits_eq 2 2
  have hbits4 := e.subBits_eq 4 2
  have ⟨_, hd, ha, hb, hmd, himm⟩ := he
  unfold decodeTrig at h
  split at h
  case h_2 => exact .of_fields h rfl rfl (by simp [Instr.wf, hkc]; grind)
  case h_4 => cases h
  all_goals exact .of_opnd he h rfl rfl (by simp [Instr.wf, hkc, hopnd]; grind)

theorem decodeStamp_spells (hop : e.op = 0x67) (h : decodeStamp k c e = some i) : Spells k c e i := by
  have hopnd := Enc.opnd_ok he
  have hsub := e.sub_eq
  have ⟨_, hd, ha, hb, hmd, himm⟩ := he
  unfold decodeStamp at h
  split at h
  case h_4 => exact .of_opnd he h rfl rfl (by simp [Instr.wf, hkc, hopnd]; grind)
  case h_5 => cases h
  all_goals exact .of_fields h rfl rfl (by simp [Instr.wf, hkc]; grind)

theorem decodeMeasure_spells (h : decodeMeasure k c e = some i) : Spells k c e i := by
  have hopnd := Enc.opnd_ok he
  have hsub := e.sub_eq
  have ⟨_, hd, ha, hb, hmd, himm⟩ := he
  unfold decodeMeasure at h
  split at h
  case h_4 hop => exact decodeTrig_spells hkc he hop h
  case h_8 hop => exact decodeStamp_spells hkc he hop h
  case h_9 => cases h
  case h_1 =>
    split at h
    case h_3 => exact .of_fields h rfl rfl (by simp [Instr.wf, hkc]; grind)
    case h_4 => cases h
    all_goals exact .of_opnd he h rfl rfl (by simp [Instr.wf, hkc, hopnd]; grind)
  case h_2 => split at h <;> exact .of_fields h rfl rfl (by simp [Instr.wf, hkc]; grind)
  case h_3 =>
    split at h
    · exact .of_opnd he h rfl rfl (by simp [Instr.wf, hkc, hopnd]; grind)
    · exact .of_fields h rfl rfl (by simp [Instr.wf, hkc]; grind)
  case h_5 => split at h <;> exact .of_opnd he h rfl rfl (by simp [Instr.wf, hkc, hopnd]; grind)
  all_goals exact .of_opnd he h rfl rfl (by simp [Instr.wf, hkc, hopnd]; grind)

theorem decodeStrm_spells (hop : e.op = 0x90) (h : decodeStrm k c e = some i) : Spells k c e i := by
  have ⟨_, hd, ha, hb, hmd, himm⟩ := he
  unfold decodeStrm at h
  split at h
  case h_6 => cases h
  all_goals exact .of_fields h rfl rfl (by simp [Instr.wf, hkc]; grind)

theorem decodeMotion_spells (h : decodeMotion k c e = some i) : Spells k c e i := by
  have hopnd := Enc.opnd_ok he
  have hsub := e.sub_eq
  have hbits2 := e.subBits_eq 2 2
  have ⟨_, hd, ha, hb, hmd, himm⟩ := he
  unfold decodeMotion at h
  split at h
  case h_6 hop => exact decodeStrm_spells hkc he hop h
  case h_9 => cases h
  case h_1 | h_8 => exact .of_opnd he h rfl rfl (by simp [Instr.wf, hkc, hopnd]; grind)
  case h_2 | h_5 => exact .of_fields h rfl rfl (by simp [Instr.wf, hkc]; grind)
  case h_3 => split at h <;> exact .of_opnd he h rfl rfl (by simp [Instr.wf, hkc, hopnd]; grind)
  case h_4 =>
    split at h
    case h_5 => cases h
    all_goals exact .of_opnd he h rfl rfl (by simp [Instr.wf, hkc, hopnd]; grind)
  case h_7 =>
    split at h
    · exact .of_fields h rfl rfl (by simp [Instr.wf, hkc]; grind)
    · exact .of_opnd he h rfl rfl (by simp [Instr.wf, hkc, hopnd]; grind)

/-- A cut that decodes is the encoding of the well-formed instruction it decodes to. -/
theorem decodeEnc_spells (h : decodeEnc k c e = some i) : Spells k c e i := by
  unfold decodeEnc at h
  split at h
  · exact decodeControl_spells hkc he h
  split at h
  · exact decodeData_spells hkc he h
  split at h
  · exact decodeStepArea_spells hkc he h
  split at h
  · exact decodeMeasure_spells hkc he h
  · exact decodeMotion_spells hkc he h

end areas

/-- A word that decodes is the encoding of the well-formed instruction of its thread that it decodes to (R188). -/
theorem decodeThread_encode {k c w : Nat} {i : Instr} (hk : k < 16) (hc : c < 64) (hw : w < 2 ^ 64) (h : decodeThread k c w = some i) :
    i.wf = true ∧ i.thread = some (k, c) ∧ encode i = some w := by
  obtain ⟨hwf, hthread, henc⟩ := decodeEnc_spells (by simp [thrOk, hk, hc]) (Enc.unpack_fits w) h
  refine ⟨hwf, hthread, ?_⟩
  rw [encode_eq, henc, Option.map_some, Enc.pack_unpack hw]

/-! ### What an instruction encodes to -/

theorem listedOp_lt {op : Nat} (h : listedOp op = true) : op < 256 := by
  simp [listedOp] at h
  omega

theorem uns32_lt (v : Int) : uns 32 v < 2 ^ 32 := by unfold uns; omega

theorem b2n_le_one (b : Bool) : b2n b ≤ 1 := by cases b <;> decide

/-- A cut that names a listed opcode (R189) and keeps every field within its width. -/
structure Enc.Listed (e : Enc) : Prop where
  fits : e.Fits
  op : listedOp e.op = true

theorem Enc.Listed.of_fields {e : Enc} (hop : listedOp e.op = true) (h : e.d < 16 ∧ e.a < 16 ∧ e.b < 16 ∧ e.md < 4096 ∧ e.imm < 2 ^ 32) : e.Listed := by
  obtain ⟨hd, ha, hb, hmd, himm⟩ := h
  exact ⟨⟨listedOp_lt hop, hd, ha, hb, hmd, himm⟩, hop⟩

theorem Enc.Listed.of_opnd {op d a md : Nat} {b : Opnd} (hop : listedOp op = true) (hb : opndOk b = true) (h : d < 16 ∧ a < 16 ∧ md < 2048) :
    (Enc.withB op d a md b).Listed := by
  cases b with
  | reg n => exact .of_fields hop ⟨h.1, h.2.1, of_decide_eq_true hb, by dsimp only [Enc.withB]; omega, Nat.two_pow_pos 32⟩
  | imm v => exact .of_fields hop ⟨h.1, h.2.1, Nat.two_pow_pos 4, by dsimp only [Enc.withB]; omega, uns32_lt v⟩

theorem encodeControl_listed {i : Instr} {e : Enc} (hwf : i.wf = true) (h : encodeControl i = some e) : e.Listed := by
  unfold encodeControl at h
  split at h
  case h_14 => cases h
  all_goals
    obtain rfl := Option.some.inj h
    simp [Instr.wf] at hwf
  case h_12 => exact .of_opnd rfl (by tauto) (by omega)
  all_goals exact .of_fields rfl (by grind [b2n_le_one, Enc.jump, Enc.wait])

theorem encodeData_listed {i : Instr} {e : Enc} (hwf : i.wf = true) (h : encodeData i = some e) : e.Listed := by
  unfold encodeData at h
  split at h
  case h_21 => cases h
  all_goals
    obtain rfl := Option.some.inj h
    simp [Instr.wf, rdsItems, classOk] at hwf
  case h_5 | h_6 | h_7 | h_8 | h_9 | h_10 | h_11 | h_12 | h_13 | h_14 | h_15 | h_16 | h_17 | h_19 | h_20 => exact .of_opnd rfl (by tauto) (by grind [b2n_le_one])
  case h_18 => exact .of_fields rfl (by dsimp only; omega)
  all_goals exact .of_fields rfl (by grind [b2n_le_one, uns32_lt])

theorem encodeStepArea_listed {i : Instr} {e : Enc} (hwf : i.wf = true) (h : encodeStepArea i = some e) : e.Listed := by
  unfold encodeStepArea at h
  split at h
  case h_15 => cases h
  all_goals
    obtain rfl := Option.some.inj h
    simp [Instr.wf, stepOk] at hwf
  case h_2 | h_3 | h_4 | h_6 | h_9 | h_13 => exact .of_opnd rfl (by tauto) (by grind [b2n_le_one])
  all_goals exact .of_fields rfl (by grind [b2n_le_one])

theorem encodeMeasure_listed {i : Instr} {e : Enc} (hwf : i.wf = true) (h : encodeMeasure i = some e) : e.Listed := by
  unfold encodeMeasure at h
  split at h
  case h_19 => cases h
  all_goals
    obtain rfl := Option.some.inj h
    simp [Instr.wf] at hwf
  case h_1 | h_2 | h_6 | h_8 | h_10 | h_11 | h_12 | h_13 | h_14 | h_18 => exact .of_opnd rfl (by tauto) (by grind [b2n_le_one])
  all_goals exact .of_fields rfl (by grind [b2n_le_one])

theorem encodeMotion_listed {i : Instr} {e : Enc} (hwf : i.wf = true) (h : encodeMotion i = some e) : e.Listed := by
  unfold encodeMotion at h
  split at h
  case h_18 => cases h
  all_goals
    obtain rfl := Option.some.inj h
    simp [Instr.wf] at hwf
  case h_1 | h_3 | h_4 | h_5 | h_6 | h_7 | h_8 | h_16 | h_17 => exact .of_opnd rfl (by tauto) (by grind [b2n_le_one])
  all_goals exact .of_fields rfl (by dsimp only; omega)

theorem encodeEnc_listed {i : Instr} {e : Enc} (hwf : i.wf = true) (h : encodeEnc i = some e) : e.Listed := by
  simp only [encodeEnc, Option.or_eq_some_iff] at h
  rcases h with h | ⟨-, h | ⟨-, h | ⟨-, h | ⟨-, h⟩⟩⟩⟩
  · exact encodeControl_listed hwf h
  · exact encodeData_listed hwf h
  · exact encodeStepArea_listed hwf h
  · exact encodeMeasure_listed hwf h
  · exact encodeMotion_listed hwf h

/-- The word of a well-formed instruction has an opcode of R189. -/
theorem encode_listedOp {i : Instr} {w : Nat} (hwf : i.wf = true) (h : encode i = some w) : listedOp (bits w 56 8) = true := by
  obtain ⟨e, he, rfl⟩ := Option.map_eq_some_iff.mp h
  obtain ⟨hfits, hop⟩ := encodeEnc_listed hwf he
  rw [Enc.pack_opcode hfits, hop]

end Sys2Proof
end

section
/-! PROOFS. A word that encodes no instruction (R188): what a granted read of a bank and a halt leave as they were, and the halt of a fetch with cause ILLEGAL (R183, R209). -/

namespace Sys2Proof.Machine

/-! ### What a granted read of a bank leaves -/

/-- From `d` to `e` memory, channels, chiplets, drive-link groups and clusters are the same. -/
structure SameUnits (d e : Device) : Prop where
  mem : e.mem = d.mem
  chans : e.ch = d.ch
  chips : e.afe = d.afe
  groups : e.grp = d.grp
  clusters : e.cl = d.cl

theorem SameUnits.refl (d : Device) : SameUnits d d := ⟨rfl, rfl, rfl, rfl, rfl⟩

theorem SameUnits.trans {d e f : Device} (h : SameUnits d e) (g : SameUnits e f) : SameUnits d f :=
  ⟨g.mem.trans h.mem, g.chans.trans h.chans, g.chips.trans h.chips, g.groups.trans h.groups, g.clusters.trans h.clusters⟩

theorem SameUnits.of_events {d e : Device} (h : EventsOnly d e) : SameUnits d e :=
  ⟨h.mem_eq, h.ch_eq, h.afe_eq, h.grp_eq, h.cl_eq⟩

theorem SameUnits.foldl {α : Type} {f : Device → α → Device} (h : ∀ d x, SameUnits d (f d x)) (xs : List α) :
    ∀ d, SameUnits d (xs.foldl f d) := by
  induction xs with
  | nil => exact SameUnits.refl
  | cons x t ih => exact fun d => (h d x).trans (ih _)

theorem SameUnits.ite {d x y : Device} {p : Prop} [Decidable p] (h : SameUnits d x) (g : SameUnits d y) : SameUnits d (if p then x else y) := by
  split <;> assumption

/-- A correctable error of a bank changes registers, events and the write-backs that wait (R351). -/
theorem Device.corrected_bank {t : Nat} (ht : t < 20) (u : Nat) (d : Device) : SameUnits d (d.corrected t u) := by
  have hbank : ¬ (t == 20) = true := by rw [beq_iff_eq]; omega
  have hwait : ∀ x : Device, SameUnits x (if (x.on MEM_CTL_SCRUBWB && !x.wback.contains u) = true then { x with wback := x.wback ++ [u] } else x) :=
    fun x => .ite ⟨rfl, rfl, rfl, rfl, rfl⟩ (.refl x)
  unfold Device.corrected
  rw [if_neg hbank]
  refine SameUnits.trans (SameUnits.ite ?_ ?_) (hwait _)
  · exact SameUnits.trans ⟨rfl, rfl, rfl, rfl, rfl⟩ (.of_events (raise_events _ _))
  · exact ⟨rfl, rfl, rfl, rfl, rfl⟩

/-- Nothing stands in the way of an access that a bank performs (R344, R356). -/
theorem Device.gate_open {d : Device} {m kind a n t : Nat} (h : BankOpen d m kind a n t) : d.gate m kind a n false = (d, 0) := by
  obtain ⟨htarget, hbank, hfirst, hlast, hfree, -⟩ := h
  have h21 : t ≠ 21 := by omega
  have h20 : t ≠ 20 := by omega
  simp [Device.gate, htarget, hfirst, hlast, hfree, h21, h20]

/-- A read that a bank performs gives the bytes of memory and changes no unit. -/
theorem Device.readMem_open {d : Device} {m kind a n t : Nat} (h : BankOpen d m kind a n t) :
    ∃ e, d.readMem m kind a n = (e, ⟨memRead d.mem a n, 0⟩) ∧ SameUnits d e := by
  have hbank : ¬ (t == 20) = true := by rw [beq_iff_eq]; have := h.bank; omega
  have hclean : (unitsOf t a n).find? (fun u => d.bad.contains u) = none :=
    List.find?_eq_none.mpr fun u hu => by rw [h.clean u hu]; exact Bool.false_ne_true
  have hsame : SameUnits d ((unitsOf t a n).foldl (fun d u => if d.soft.any (fun e => e.1 == u) then d.corrected t u else d) d) := by
    refine SameUnits.foldl (fun d u => ?_) _ d
    split
    · exact Device.corrected_bank h.bank u d
    · exact .refl d
  refine ⟨_, ?_, hsame⟩
  unfold Device.readMem
  simp only [Device.gate_open h, h.target, Option.getD_some, if_neg hbank, hclean]
  rw [Device.rd, hsame.mem]

/-! ### The halt of a thread that no barrier waits for -/

/-- From `d` to `e` thread `c` of cluster `k` has halted with `cause`; the other threads, the interval units, the channels, the chiplets, the groups and memory are the same. -/
structure HaltsAlone (k c cause : Nat) (d e : Device) : Prop where
  thread : e.thread k c = (d.thread k c).halt cause
  threads : ∀ j b, (j, b) ≠ (k, c) → e.thread j b = d.thread j b
  intervals : ∀ j u, e.sti j u = d.sti j u
  chans : e.ch = d.ch
  chips : e.afe = d.afe
  groups : e.grp = d.grp
  mem : e.mem = d.mem

/-- A change of a cluster that keeps its threads and its interval units leaves every thread and every interval unit. -/
theorem Device.modCl_units {f : Cluster → Cluster} (hthr : ∀ x, (f x).thr = x.thr) (hsti : ∀ x, (f x).sti = x.sti) (k : Nat) (d : Device) :
    (∀ j c, (d.modCl k f).thread j c = d.thread j c) ∧ ∀ j u, (d.modCl k f).sti j u = d.sti j u := by
  have hclus : ∀ j, ((d.modCl k f).clus j).thr = (d.clus j).thr ∧ ((d.modCl k f).clus j).sti = (d.clus j).sti := by
    intro j
    by_cases hj : j = k
    · subst hj
      by_cases hk : j < 16
      · rw [Device.clus_modCl_same hk]; exact ⟨hthr _, hsti _⟩
      · simp only [Device.modCl, Device.clus, Tab.modify_past _ hk, and_self]
    · rw [Device.clus_modCl_ne hj]; exact ⟨rfl, rfl⟩
  exact ⟨fun j c => by rw [Device.thread, (hclus j).1]; rfl, fun j u => by rw [Device.sti, (hclus j).2]; rfl⟩

theorem HaltsAlone.then_modCl (f : Cluster → Cluster) (hthr : ∀ x, (f x).thr = x.thr) (hsti : ∀ x, (f x).sti = x.sti) {k c cause : Nat}
    {d e : Device} (h : HaltsAlone k c cause d e) : HaltsAlone k c cause d (e.modCl k f) := by
  obtain ⟨hthread, hunit⟩ := Device.modCl_units hthr hsti k e
  exact ⟨(hthread k c).trans h.thread, fun j b hj => (hthread j b).trans (h.threads j b hj), fun j u => (hunit j u).trans (h.intervals j u),
    h.chans, h.chips, h.groups, h.mem⟩

theorem HaltsAlone.then_raise {k c cause : Nat} {d e : Device} (h : HaltsAlone k c cause d e) (n : Nat) : HaltsAlone k c cause d (e.raise n) where
  thread := by simpa using h.thread
  threads j b hj := by simpa using h.threads j b hj
  intervals j u := by simpa using h.intervals j u
  chans := by simpa using h.chans
  chips := by simpa using h.chips
  groups := by simpa using h.groups
  mem := by simpa using h.mem

/-- A read before the halt makes no difference to what the halt leaves. -/
theorem HaltsAlone.of_same {k c cause : Nat} {d d' e : Device} (hs : SameUnits d d') (h : HaltsAlone k c cause d' e) : HaltsAlone k c cause d e := by
  have hclus : ∀ j, d'.clus j = d.clus j := fun j => by rw [Device.clus, hs.clusters]; rfl
  exact ⟨by simpa only [Device.thread, hclus] using h.thread, fun j b hj => by simpa only [Device.thread, hclus] using h.threads j b hj,
    fun j u => by simpa only [Device.sti, hclus] using h.intervals j u, h.chans.trans hs.chans, h.chips.trans hs.chips, h.groups.trans hs.groups,
    h.mem.trans hs.mem⟩

/-- A thread that takes part in no barrier halts alone (R200, R209, R210). -/
theorem Device.haltThread_alone {k c : Nat} (hk : k < 16) (hc : c < 64) (cause : Nat) {d : Device}
    (hbars : ∀ e ∈ (d.clus k).bars, bit e.2 c = false) : HaltsAlone k c cause d (d.haltThread k c cause) := by
  have hbroken : (d.clus k).bars.filter (fun e => bit e.2 c) = [] :=
    List.filter_eq_nil_iff.mpr fun e he => by rw [hbars e he]; exact Bool.false_ne_true
  have hthread : HaltsAlone k c cause d (d.modThr k c (Thread.halt cause)) :=
    ⟨Device.thread_modThr_same hk hc _ d, fun j b hj => Device.thread_modThr_ne hj _ d, fun j u => Device.sti_modThr k c _ j u d, rfl, rfl, rfl, rfl⟩
  have hquiesced : HaltsAlone k c cause d ((d.modThr k c (Thread.halt cause)).modCl k Cluster.showQuiesce) :=
    hthread.then_modCl Cluster.showQuiesce (fun _ => rfl) (fun _ => rfl)
  unfold Device.haltThread
  simp only [hbroken, List.map_nil, List.foldl_nil]
  split
  · exact (hquiesced.then_modCl (Cluster.setB SEQ_CAUSE_HALT true) (fun _ => rfl) (fun _ => rfl)).then_raise _
  · exact hquiesced

/-- A halted thread keeps its PC, its registers and its flags (R209). -/
theorem Thread.halted_halt (t : Thread) {cause : Nat} (h : cause < 32) : Halted t (t.halt cause) cause := by
  have hkept : ∀ f : Fld, f.key ≠ SEQ_TSTAT_STATE.key → f.key ≠ SEQ_TSTAT_CAUSE.key → (t.halt cause).get f = t.get f :=
    fun f hstate hcause => (Thread.get_set_ne hcause _ _).trans (Thread.get_set_ne hstate _ _)
  have hzero : (t.halt cause).state = 0 := (Thread.get_set_ne (by decide) _ _).trans (Thread.get_set_same _ _ _)
  have hset : (t.halt cause).get SEQ_TSTAT_CAUSE = cause := (Thread.get_set_same _ _ _).trans (Nat.mod_eq_of_lt h)
  exact ⟨hzero, hset, hkept _ (by decide) (by decide),
    fun i => hkept _ (by simp only [SEQ_TG_VAL, SEQ_TSTAT_STATE, Fld.key]; omega) (by simp only [SEQ_TG_VAL, SEQ_TSTAT_CAUSE, Fld.key]; omega),
    fun i => hkept _ (by simp only [SEQ_TL_CNT, SEQ_TSTAT_STATE, Fld.key]; omega) (by simp only [SEQ_TL_CNT, SEQ_TSTAT_CAUSE, Fld.key]; omega),
    hkept _ (by decide) (by decide), rfl⟩

/-! ### The fetch of a word that encodes nothing -/

/-- A READY thread with nothing pending, in a loaded cluster in service, fetches its next word within the program from a bank that performs the read (R183). -/
structure Fetching (d : Device) (k c t : Nat) : Prop where
  loaded : (d.clus k).on MCE_CTL_LOADED = true
  service : d.clState k = 0
  ready : (d.thread k c).state = 1
  noIssue : (d.thread k c).issued = none
  noTrap : (d.thread k c).traps = []
  inside : (d.thread k c).pc < (d.clus k).get SEQ_PSIZE_WORDS
  bank : BankOpen d k 3 (targetBase k + (d.clus k).get SEQ_PBASE_BASE + 8 * (d.thread k c).pc) 8 t

/-- The word that thread `c` of cluster `k` fetches next. -/
def Device.nextWord (d : Device) (k c : Nat) : Nat :=
  memRead d.mem (targetBase k + (d.clus k).get SEQ_PBASE_BASE + 8 * (d.thread k c).pc) 8

/-- A fetched word that decodes to nothing, and whose opcode's routine the thread may enter and is not in the control store, halts the thread with ILLEGAL after the read (R188). -/
theorem Device.fetch_illegal {d : Device} {k c t : Nat} (h : Fetching d k c t)
    (hpriv : bit ((d.clus k).entry (bits (d.nextWord k c) 56 8)) 14 = true → (d.thread k c).on SEQ_TCFG_PRIV = true)
    (hbase : listedOp (bits (d.nextWord k c) 56 8) = false → (d.clus k).entry (bits (d.nextWord k c) 56 8) % 8192 = 0x80)
    (hnone : decodeThread k c (d.nextWord k c) = none) : ∃ e, SameUnits d e ∧ d.fetch k c none = e.haltThread k c 2 := by
  obtain ⟨hloaded, hservice, hready, hissue, htrap, hinside, hbank⟩ := h
  obtain ⟨e, hread, hsame⟩ := Device.readMem_open hbank
  have hprivOk : (bit ((d.clus k).entry (bits (d.nextWord k c) 56 8)) 14 && !(d.thread k c).on SEQ_TCFG_PRIV) = false := by
    rw [Bool.and_eq_false_imp]; intro hb; rw [hpriv hb]; rfl
  have hbaseOk : (!listedOp (bits (d.nextWord k c) 56 8) && (d.clus k).entry (bits (d.nextWord k c) 56 8) % 8192 != 0x80) = false := by
    rw [Bool.and_eq_false_imp]; intro hb; rw [hbase (by simpa using hb)]; rfl
  refine ⟨e, hsame, ?_⟩
  unfold Device.nextWord at hprivOk hbaseOk hnone
  unfold Device.fetch
  simp only [hloaded, hservice, hready, hissue, htrap, if_neg (Nat.not_le.mpr hinside), hread, hprivOk, hbaseOk, hnone]
  rfl

/-- Row INSTRUCTION_FETCH on a word that decodes to nothing: the thread halts with ILLEGAL, and it alone (R188). -/
theorem exec_fetch_illegal {s : State} {k c t : Nat} (hon : s.powered) (hk : k < 16) (hc : c < 64) (h : Fetching s.dev k c t)
    (hpriv : bit ((s.dev.clus k).entry (bits (s.dev.nextWord k c) 56 8)) 14 = true → (s.dev.thread k c).on SEQ_TCFG_PRIV = true)
    (hbase : listedOp (bits (s.dev.nextWord k c) 56 8) = false → (s.dev.clus k).entry (bits (s.dev.nextWord k c) 56 8) % 8192 = 0x80)
    (hbars : ∀ e ∈ (s.dev.clus k).bars, bit e.2 c = false) (hnone : decodeThread k c (s.dev.nextWord k c) = none) :
    ∃ e, exec (.instructionFetch k c none) s = .next { s with dev := s.dev.watch e } ∧ HaltsAlone k c 2 s.dev e := by
  obtain ⟨e, hsame, hfetch⟩ := Device.fetch_illegal h hpriv hbase hnone
  have hbars' : ∀ b ∈ (e.clus k).bars, bit b.2 c = false := by rw [Device.clus, hsame.clusters]; exact hbars
  refine ⟨e.haltThread k c 2, ?_, .of_same hsame (Device.haltThread_alone hk hc 2 hbars')⟩
  rw [← hfetch]
  exact State.run_on hon _

/-! ### Words that encode no instruction -/

theorem memRead_lt (m : List Host.Cell) (n : Nat) : ∀ a, memRead m a n < 2 ^ (8 * n) := by
  induction n with
  | zero => exact fun _ => Nat.one_pos
  | succ n ih =>
    intro a
    have hbyte := (memGet a m).isLt
    have hrest := ih (a + 1)
    have hpow : 2 ^ (8 * (n + 1)) = 256 * 2 ^ (8 * n) := by ring
    simp only [memRead]
    omega

theorem decodeThread_none {k c w : Nat} (hk : k < 16) (hc : c < 64) (hw : w < 2 ^ 64)
    (h : ∀ i : Instr, i.wf = true → i.thread = some (k, c) → encode i ≠ some w) : decodeThread k c w = none := by
  refine Option.eq_none_iff_forall_ne_some.mpr fun i hi => ?_
  obtain ⟨hwf, hthread, henc⟩ := decodeThread_encode hk hc hw hi
  exact h i hwf hthread henc

/-- Settles O58: such a word decodes to nothing, since the decoder inverts the encoder, and its fetch halts the thread alone. -/
theorem illegalWords : Obligations.IllegalWords := by
  intro s k c tb w hon hk hc d x t at_ en fetches
  refine ⟨?_, fun i henc hwf => encode_listedOp hwf henc, rfl⟩
  rintro ⟨hloaded, hservice, hready, hissue, htrap, hinside, hbank, rfl, hpriv, hbars⟩ hbase hword
  have hnone : decodeThread k c (s.dev.nextWord k c) = none := decodeThread_none hk hc (memRead_lt _ 8 _) hword
  obtain ⟨e, hexec, halone⟩ :=
    exec_fetch_illegal hon hk hc ⟨hloaded, hservice, hready, hissue, htrap, hinside, hbank⟩ hpriv hbase hbars hnone
  refine ⟨⟨_, hexec, rfl, ?_, ?_, fun n => ?_⟩, ⟨_, hexec, rfl, fun j b hj => ?_, ?_, fun j u => ?_, ?_, ?_⟩⟩
  · rw [Device.thread_watch, halone.thread]
    exact Thread.halted_halt _ (by decide)
  · rw [Device.watch_mem, halone.mem]
  · rw [Device.chan_watch, Device.chan, halone.chans]; rfl
  · rw [Device.thread_watch, halone.threads j b hj]
  · rw [Device.watch_ch, halone.chans]
  · rw [Device.sti_watch, halone.intervals]
  · rw [Device.watch_afe, halone.chips]
  · rw [Device.watch_grp, halone.groups]

end Sys2Proof.Machine
end

section
/-! PROOFS. The parity of a microword (R243): a mask bit by bit, the word below and the parity above bit 160, and the odd count of each slice. -/

namespace Sys2Proof.Machine

/-! ### A mask, bit by bit -/

theorem maskOf_succ (n : Nat) (p : Nat → Bool) : maskOf (n + 1) p = 2 ^ n * b2n (p n) + maskOf n p := by
  simp only [maskOf, List.range_succ, List.foldl_concat]
  cases p n <;> simp [b2n, Nat.add_comm]

theorem maskOf_lt (n : Nat) (p : Nat → Bool) : maskOf n p < 2 ^ n := by
  induction n with
  | zero => exact Nat.one_pos
  | succ n ih =>
    have htop := Nat.mul_le_mul_left (2 ^ n) (b2n_le_one (p n))
    rw [maskOf_succ, pow_succ]
    omega

theorem bit_maskOf (n i : Nat) (p : Nat → Bool) : bit (maskOf n p) i = (decide (i < n) && p i) := by
  rw [bit_eq_testBit]
  induction n with
  | zero => exact Nat.zero_testBit i
  | succ n ih =>
    rw [maskOf_succ, Nat.testBit_two_pow_mul_add _ (maskOf_lt n p)]
    rcases Nat.lt_trichotomy i n with hlt | rfl | hgt
    · simp [hlt, ih, Nat.lt_succ_of_lt hlt]
    · cases p i <;> simp [b2n]
    · have habove : b2n (p n) < 2 ^ (i - n) := (Nat.lt_succ_of_le (b2n_le_one _)).trans_le (Nat.le_self_pow (by omega) 2)
      simp [Nat.testBit_lt_two_pow habove, show ¬ i < n by omega, show ¬ i < n + 1 by omega]

/-! ### The parity bits of a slice and of a word -/

theorem bit_bits {j n : Nat} (h : j < n) (v lo : Nat) : bit (bits v lo n) j = bit v (lo + j) := by
  simp [bit_eq_testBit, bits_testBit, h]

/-- A slice with its parity bit holds an odd number of ones (R243). -/
theorem countP_oddParity (v : Nat) : ((List.range 16).countP (fun j => bit v j) + oddParity v) % 2 = 1 := by
  rw [oddParity, ← List.countP_eq_length_filter]
  omega

theorem b2n_oddParity (v : Nat) : b2n (oddParity v == 1) = oddParity v := by
  rw [oddParity, b2n_mod_two]

theorem bit_wordParity {i : Nat} (h : i < 10) (w : Nat) : bit (wordParity w) i = (oddParity (bits w (16 * i) 16) == 1) := by
  simp [wordParity, bit_maskOf, h]

/-! ### A word with its parity -/

theorem withParity_eq (w : Nat) : withParity w = 2 ^ 160 * wordParity (w % 2 ^ 160) + w % 2 ^ 160 := by
  rw [withParity, Nat.add_comm, Nat.mul_comm]

theorem withParity_mod (w : Nat) : withParity w % 2 ^ 160 = w % 2 ^ 160 := by
  rw [withParity_eq, Nat.mul_add_mod, Nat.mod_mod]

theorem withParity_div (w : Nat) : withParity w / 2 ^ 160 = wordParity (w % 2 ^ 160) := by
  rw [withParity_eq, Nat.mul_add_div (Nat.two_pow_pos 160), Nat.div_eq_of_lt (Nat.mod_lt w (Nat.two_pow_pos 160)), Nat.add_zero]

theorem withParity_lt (w : Nat) : withParity w < 2 ^ 170 := by
  have hword : wordParity (w % 2 ^ 160) < 2 ^ 10 := maskOf_lt 10 _
  have hlow := Nat.mod_lt w (Nat.two_pow_pos 160)
  rw [withParity_eq]
  omega

theorem bit_withParity_low {j : Nat} (h : j < 160) (w : Nat) : bit (withParity w) j = bit (w % 2 ^ 160) j := by
  rw [← bit_mod h, withParity_mod]

theorem bit_withParity_high {i : Nat} (h : i < 10) (w : Nat) :
    bit (withParity w) (160 + i) = (oddParity (bits (w % 2 ^ 160) (16 * i) 16) == 1) := by
  rw [← bit_wordParity h, ← withParity_div, bit_eq_testBit, bit_eq_testBit, Nat.testBit_div_two_pow, Nat.add_comm]

/-- The 16 bits of a slice of the word with its parity are those of the slice that the parity bit was made from. -/
theorem countP_withParity {i : Nat} (h : i < 10) (w : Nat) :
    (List.range 16).countP (fun j => bit (withParity w) (16 * i + j))
      = (List.range 16).countP (fun j => bit (bits (w % 2 ^ 160) (16 * i) 16) j) := by
  refine List.countP_congr fun j hj => ?_
  have hj : j < 16 := List.mem_range.mp hj
  rw [bit_withParity_low (by omega), bit_bits hj]

/-- Settles O59: each parity bit is the odd parity of its own slice, which stands unchanged below bit 160. -/
theorem microwordParity : Obligations.MicrowordParity := by
  refine ⟨fun w i hi => ?_, fun w => ⟨withParity_mod w, withParity_lt w⟩, rfl⟩
  rw [countP_withParity hi, bit_withParity_high hi, b2n_oddParity]
  exact countP_oddParity _

end Sys2Proof.Machine
end

section
/-! PROOFS. SJMP (R308): an instruction that ends at once after a change outside its cluster, the jump request of a channel, and the row. -/

namespace Sys2Proof.Machine

/-! ### An instruction that ends at once after a change outside its cluster -/

theorem Turn.onThread {s : State} {k c : Nat} (h : Turn s k c) (f : Thread → Device → Device) :
    s.dev.onThread k c f = f (s.dev.thread k c) s.dev := if_pos h.runs

theorem Turn.chanOf_eq {s : State} {k c : Nat} (h : Turn s k c) : chanOf k c = 64 * k + c := by
  rw [chanOf, Nat.mod_eq_of_lt h.thread]

theorem Turn.chan_lt {s : State} {k c : Nat} (h : Turn s k c) : 64 * k + c < 1024 := by
  have := h.cluster
  have := h.thread
  omega

/-- An instruction that makes `d` of the device without touching a cluster, then ends at once, changes its thread as `f` says and nothing else of `d`. -/
theorem run_retire_after {s : State} {k c : Nat} (h : Turn s k c) {d : Device} (hd : d.cl = s.dev.cl) (f : Thread → Thread)
    (hr : (f (s.dev.thread k c)).redirect = (s.dev.thread k c).redirect) (hh : (f (s.dev.thread k c)).haltReq = (s.dev.thread k c).haltReq)
    (g : Device → Device) (hg : g s.dev = d.retire k c f) :
    ∃ t, s.run g = .next t ∧ t.pending = s.pending ∧ OnlyThread k c d t.dev ∧
      t.dev.thread k c = (f (s.dev.thread k c)).ended false := by
  have hclus : d.clus k = s.dev.clus k := congrArg (·.getD k {}) hd
  have hthread : d.thread k c = s.dev.thread k c := congrArg (·.thr.getD c {}) hclus
  have hcalm : g s.dev = d.modThr k c fun t => (f t).ended false := by
    rw [hg]
    exact Device.retire_calm h.cluster h.thread f d (by rw [hthread, hr, h.noRedirect]) (by rw [hthread, hh, h.noHalt]) (by rw [hclus, h.noQuiesce])
  refine ⟨s.apply g, State.run_on h.powered g, rfl, ?_, ?_⟩
  · rw [State.apply_dev, hcalm]; exact onlyThread_modThr k c _ _ _
  · rw [State.apply_dev, hcalm, Device.thread_watch, Device.thread_modThr_same h.cluster h.thread, hthread]

/-! ### The jump request of a channel -/

/-- A channel with a jump to segment `seg` latched at `dt` (R300). -/
def Chan.latchJump (seg : Nat) (passEnd : Bool) (dt : Nat) (x : Chan) : Chan :=
  { x.setB CH_STSTAT_JPEND true with stream := { x.stream with jump := some (seg, passEnd, dt) } }

theorem Chan.latchJump_pending (seg : Nat) (passEnd : Bool) (dt : Nat) (x : Chan) : (x.latchJump seg passEnd dt).on CH_STSTAT_JPEND = true :=
  Regs.on_setB_same (f := CH_STSTAT_JPEND) (by decide) x.regs true

theorem Device.streamJump_playing {n : Nat} {d : Device} (h : (d.chan n).stream.play = true) (seg : Nat) (passEnd : Bool) :
    d.streamJump n seg passEnd = (d.modChan n (Chan.latchJump (seg % 256) passEnd d.dt), true) := if_pos h

theorem Device.streamJump_idle {n : Nat} {d : Device} (h : (d.chan n).stream.play = false) (seg : Nat) (passEnd : Bool) :
    d.streamJump n seg passEnd = (d, false) := if_neg (by rw [h]; exact Bool.false_ne_true)

/-! ### The row -/

/-- From `t` to `u` SJMP has answered `p` in P and gone on; the general registers stand. -/
structure Jumped (t u : Thread) (p : Bool) : Prop where
  answer : u.flag 5 = p
  pc : u.pc = (t.pc + 1) % 2 ^ 32
  general : ∀ i, u.g i = t.g i

theorem jumped_setFlag (t : Thread) (p : Bool) : Jumped t (((t.setFlag 5 p).setPc (t.pc + 1)).ended false) p where
  answer := by rw [Thread.ended_flag, Thread.flag_setPc, Thread.flag_setFlag _ (by decide), if_pos rfl]
  pc := by simp
  general := by simp

/-- SJMP leaves what the jump request of its channel makes of the device, but for its thread, which shows the request's answer in P. -/
theorem exec_sjmp {s : State} {k c : Nat} (h : Turn s k c) (passEnd : Bool) (b : Opnd) {d : Device} {ok : Bool}
    (hjump : s.dev.streamJump (64 * k + c) ((s.dev.thread k c).opnd b % 256) passEnd = (d, ok)) (hd : d.cl = s.dev.cl) :
    ∃ r, exec (.sjmp k c passEnd b) s = .next r ∧ r.pending = s.pending ∧ OnlyThread k c d r.dev ∧
      Jumped (s.dev.thread k c) (r.dev.thread k c) ok := by
  have hrow : s.dev.iSjmp k c passEnd b = d.retireNext k c (Thread.setFlag 5 ok) := by
    rw [Device.iSjmp, h.onThread, h.chanOf_eq, hjump]
  obtain ⟨r, hrun, hpending, honly, hthread⟩ :=
    run_retire_after h hd (fun t => (t.setFlag 5 ok).setPc (t.pc + 1)) rfl rfl (Device.iSjmp k c passEnd b) hrow
  refine ⟨r, hrun, hpending, honly, ?_⟩
  rw [hthread]
  exact jumped_setFlag _ _

/-- Settles O10: by whether the step streams, the request is latched in the channel alone or changes nothing. -/
theorem streamJump : Obligations.StreamJump := by
  intro s k c passEnd b h n t x past
  refine ⟨fun hplay => ?_, fun hplay => ?_, rfl⟩
  · obtain ⟨r, hexec, hpending, honly, hthread⟩ := exec_sjmp h passEnd b (Device.streamJump_playing hplay _ _) rfl
    have hother : ∀ m, m ≠ n → r.dev.chan m = s.dev.chan m := fun m hm => (honly.chans m).trans (Device.chan_modChan_ne hm _ _)
    have hown : r.dev.chan n = x.latchJump (t.opnd b % 256 % 256) passEnd s.dev.dt :=
      (honly.chans n).trans (Device.chan_modChan_same h.chan_lt _ _)
    refine ⟨r, hexec, ⟨hthread.answer, hthread.pc, hthread.general, honly.mem, hother, hpending⟩, ?_⟩
    rw [hown, Nat.mod_mod]
    exact ⟨Chan.latchJump_pending _ _ _ _, rfl, hplay, rfl⟩
  · obtain ⟨r, hexec, hpending, honly, hthread⟩ := exec_sjmp h passEnd b (Device.streamJump_idle hplay _ _) rfl
    exact ⟨r, hexec, ⟨hthread.answer, hthread.pc, hthread.general, honly.mem, fun m _ => honly.chans m, hpending⟩, honly.chans n⟩

end Sys2Proof.Machine
end
